-- ==== Sys2Proof/Word.lean ====
section
/-!
DEFINITION. The word types of the model and their plainest arithmetic. Nothing here depends on a rule that a test
could show wrong: tables, memories and byte orders are operated on in Machine/Ops.lean.
-/

namespace Sys2Proof

/-- One byte. -/
abbrev Byte := BitVec 8

/-- A byte string, lowest address first. -/
abbrev Bytes := List (BitVec 8)

/-- A sparse table in canonical form: keys strictly rising, no entry equal to the table's default value. -/
abbrev Tbl (α : Type) := List (Nat × α)

/-- A memory: (address, byte) pairs in canonical form (00_scope.md R9; the instructions' MEMORY form). -/
abbrev Mem := List Host.Cell

/-- One 32-byte tab step, bit 0 the least significant bit of the word at 0x00 (05_tablature.md R136). -/
abbrev StepWord := BitVec 256

end Sys2Proof
end

