-- ==== Sys2Proof/Syntax.lean ====
section
/-!
DEFINITION. The commands of the block: one constructor of `Instr` for each row of spec/opcode_table.json, with the data
that reaches the device with the event. A command carries what comes from outside the digital state: the fields of a
request or message, the readings of a sensor or comparator, the outcome of a mutual-exclusion arbiter (R31), and whether a
signature or tag verified (assumption log entries 1, 3 and 4).
-/

namespace Sys2Proof

/-- What carried a dictionary request: on a CAN FD controller its frame, on an Ethernet MAC its datagram (13_malrov_dictionary.md R391,
R392; 14_boot_and_trust.md R435). -/
structure Via where
  /-- CAN: the identifier in bits 28 to 0, bit 29 set for an extended one, as in 1100.03. -/
  canId : Nat
  /-- CAN: 0 an FD frame with bit rate switching, 1 a classical frame, 2 a remote frame. -/
  frame : Nat
  /-- UDP: destination port. -/
  dport : Nat
  /-- UDP: destination address, 4 bytes for IPv4 and 16 for IPv6. -/
  daddr : Bytes
  /-- UDP: source address. -/
  addr : Bytes
  /-- UDP: source port. -/
  sport : Nat
  /-- Ethernet: the frame was MACsec-protected and passed MACSEC_FRAME_RECEIVED. -/
  secured : Bool
  deriving DecidableEq, Repr

/-- The MAC that a frame came on; whether it was MACsec-protected and passed MACSEC_FRAME_RECEIVED (14_boot_and_trust.md R435). -/
structure MacVia where
  mac : Nat
  secured : Bool
  deriving DecidableEq, Repr

/-- The interval timer of a WAIT step (05_tablature.md R148): its core and its step. -/
structure WaitTimer where
  core : Nat
  stepno : Nat
  deriving DecidableEq, Repr

/-- The carrier of an ego-motion message (11_cameras_results_scene.md R336): on CAN FD a controller and an identifier as in 3200.02, else a
MAC and a UDP port. -/
structure EgoVia where
  can : Bool
  unit : Nat
  ident : Nat
  port : Nat
  deriving DecidableEq, Repr

/-- One dictionary request as its endpoint took it, decrypted (13_malrov_dictionary.md R388 to R393). -/
structure Req where
  /-- Endpoint: 0 and 1 the CAN FD controllers, 2 and 3 the Ethernet MACs (R390). -/
  ep : Nat
  /-- The frame or datagram that carried it. -/
  via : Via
  /-- The OP byte of the header (Table 13-3). -/
  op : Nat
  /-- Transaction identifier, echoed. -/
  tid : Nat
  /-- Session identifier; 0 outside a session. -/
  sid : Nat
  /-- Session sequence number (R401). -/
  seq : Nat
  /-- Whether the 16-byte tag verified under the session key; not looked at when `sid` is 0 (R402). -/
  tagOk : Bool
  /-- Requests already waiting on the endpoint when this one arrived (R393). -/
  ahead : Nat
  /-- The reserved header bits and the STATUS byte of the request, as one number; 0 in a well-formed request (R403). -/
  rsvd : Nat
  /-- Whether the bytes are those of the highest accepted SEQ (R401, the repeated request). -/
  same : Bool
  deriving DecidableEq, Repr

/-- A unit that a fault record or a failed check names (10_fault_containment.md R292, R511). -/
inductive UnitId where
  | site (ord : Nat)      -- site ordinal 320*die + 40*cluster + 5*core + site (R73)
  | core (ord : Nat)      -- core ordinal 64*die + 8*cluster + core (R159)
  | array (cl : Nat)      -- the digital array of a cluster ordinal
  | shared (cl : Nat)     -- the shared unit of a cluster
  | cluster (cl : Nat)
  | die (d : Nat)
  | pair (n : Nat)        -- control processor pair
  | intake | mac (n : Nat) | can (n : Nat) | exham (n : Nat) | ddr (n : Nat)
  | xspi | keep | sec | scene | hub | mon
  deriving DecidableEq, Repr

/-- A timing domain of Table 01-4 (01_engine_to_package.md R26). -/
inductive Domain where
  | core (ord : Nat)          -- sequencer, bridges, activation SRAM, sync port of a core
  | shared (cl : Nat)         -- soundboard, work counters, event counters, drone controller, mesh stop of a cluster
  | array (cl : Nat)          -- the digital array of a cluster
  | link (d dir : Nat)        -- die-to-die interface of a compute die, one domain per direction
  | dieMonitor (d : Nat) | diePower (d : Nat)
  | pair (n : Nat) | intake (port : Nat) | security | monitors | scene | hub
  | mac (n : Nat) | exham (n : Nat) | ddr (n : Nat) | can | xspi
  deriving DecidableEq, Repr

/-- Where a domain takes its clock from (Table 01-4). -/
inductive ClockSource where
  | oscillator | referencePll | crystalPll
  deriving DecidableEq, Repr

/-- What one count converter did beside counting its cells: a deviation, or a flag (02_count_exact_crossbar.md R42, R43). -/
structure ConvEvent where
  fret : Nat
  col : Nat
  /-- 0 for the bow or its first half-bow, 1 for the second half-bow. -/
  half : Nat
  delta : Int
  margin : Bool
  overFlag : Bool
  deriving DecidableEq, Repr

/-- What the converters of one bow and of its replay do in an execution that no BOW command drives: a regeneration, a drone, a duplicate
(02_count_exact_crossbar.md R52, R61; log 4). -/
structure BowEvents where
  /-- The BOW step that is regenerated; not looked at elsewhere. -/
  stepno : Nat
  /-- Number of the bow in the execution, from 0. -/
  bow : Nat
  first : List ConvEvent
  replay : List ConvEvent
  deriving DecidableEq, Repr

/-- A 32-bit word that a step finds bad although it was read again (01_engine_to_package.md R18; 10_fault_containment.md R270, R271). -/
structure BadWord where
  /-- 0 the core's activation SRAM, 1 its cluster's soundboard, 2 the scale-table bank of its bridge, 3 the scene grid, 4 the core's
  regeneration journal (word 0 for the batch walked, 1 for the one before); of a MOVE step 0 its source and 1 the
  destination that a reduction adds into. -/
  space : Nat
  /-- Its number in the memory, 16 words a line; of a MOVE step counted from the first line of the operand. -/
  word : Nat
  /-- It was stored well, and three replays over the crossing failed (10_fault_containment.md R270). -/
  lost : Bool
  /-- What goes wrong in the bows of its regeneration (08_bit_identity_and_seals.md R235, R236). -/
  bows : List BowEvents
  deriving DecidableEq, Repr

/-- What the comparators gave in one search of a sweep (09_tuning_passes.md R252): for each step of the binary searches at the bus
levels n0 and n0 + 1, how many of its 64 samples read high. Converters are numbered 272 × fret + converter. -/
structure Search where
  /-- The high samples of each step at n0 and at n0 + 1, for every converter that `own` does not list. -/
  common0 : List Nat
  common1 : List Nat
  /-- Converters that gave other numbers: converter, steps at n0, steps at n0 + 1. -/
  own : List (Nat × List Nat × List Nat)
  deriving DecidableEq, Repr

/-- One sweep: its row-drive, gain and offset searches (Table 09-4). -/
structure Sweep where
  drive : Search
  gain : Search
  off : Search
  deriving DecidableEq, Repr

/-- A converter result of the level check that is not COUNT n, MARGIN 0 and OVER 0 (Table 09-4, order 6). -/
structure LevelMiss where
  conv : Nat
  level : Nat
  sample : Nat
  count : Nat
  margin : Bool
  overFlag : Bool
  deriving DecidableEq, Repr

/-- What the phases of one tuning pass gave (09_tuning_passes.md R251 to R253). -/
structure PassResult where
  /-- Reference readback (order 2): fret, column and count, for the reference columns 532 to 543; a column that is not listed gave
  the count of Table 02-3. -/
  readback : List (Nat × Nat × Nat)
  sweep1 : Sweep
  sweep2 : Sweep
  /-- The level check (order 6): every result that is not listed was exact. -/
  levels : List LevelMiss
  deriving DecidableEq, Repr

/-- A sync token as it arrives at a port (05_tablature.md R147). -/
structure Token where
  ordinal : Nat
  /-- Unit code of the sender (R130), or 8192 + service number for a base-die service. -/
  sender : Nat
  chan : Nat
  run : Nat
  empty : Bool
  dead : Bool
  deriving DecidableEq, Repr

/-- A decision record (08_bit_identity_and_seals.md Table 08-2). -/
structure Decision where
  stepno : Nat
  srckind : Nat
  unit : Nat
  outcome : Nat
  deriving DecidableEq, Repr

/-- The header fields of a received flit and the outcome of its checks (12_exham_group.md Table 12-1, R356). -/
structure Flit where
  kind : Nat
  nak : Bool
  poison : Nat
  cls : Nat
  ackseq : Nat
  seqlo : Nat
  crclass : Nat
  credits : Nat
  rsvd : Nat
  crcOk : Bool
  tagOk : Bool
  /-- The flit is addressed to this device; otherwise the hub forwards it (R365). -/
  here : Bool
  payload : Bytes
  deriving DecidableEq, Repr

/-- Where the messages of a member come from (R371): its device number, and the port the message arrived on. -/
structure From where
  dev : Nat
  port : Nat
  deriving DecidableEq, Repr

/-- What the boot scan of a plane gave (14_boot_and_trust.md R409, order 6): its SHAKE256 and its scan margin count. -/
structure BootScan where
  site : Nat
  side : Nat
  digest : Bytes
  margin : Nat
  deriving DecidableEq, Repr

/-- One MACsec secure association of a write of 9050.02 (14_boot_and_trust.md Table 14-8). -/
structure SaWrite where
  sci : Bytes
  sak : Bytes
  pn : Nat
  installed : Bool
  deriving DecidableEq, Repr

/-- A firmware slot (14_boot_and_trust.md R417, R418), and whether its signatures verify (log 1). -/
structure FwSlot where
  /-- Its bytes from offset 0 on: header, certificate, signatures, body. None where the slot holds nothing. -/
  bytes : Bytes
  /-- The certificate chains to the Kryvan root (R423). -/
  chainOk : Bool
  /-- The Ed25519 signature at 0x166D and the ML-DSA-65 signature at 0x16AD verify over the header with the certificate's keys. -/
  edOk : Bool
  mlOk : Bool
  deriving DecidableEq, Repr

/-- The selected image of a member, as it reports it at formation (12_exham_group.md R372; 2210.04). -/
structure MemberId where
  dev : Nat
  progid : Nat
  imgseq : Nat
  digest : Bytes
  deriving DecidableEq, Repr

/-- A run's row of a member's run table (R372): the streams that the run consumes, whether it holds a SCENE step, and whether it holds
run-end MARK steps that publish. -/
structure RunRow where
  run : Nat
  streams : List Nat
  scene : Bool
  marks : Bool
  deriving DecidableEq, Repr

/-- The lines that a READ asks for: how many, and the bad words among those read, counted from the first line, space 0 (10 R270, R271). -/
structure ReadSpan where
  count : Nat
  bad : List BadWord
  deriving DecidableEq, Repr

/-- What befalls the data of a WRITE: the lines that came with poison, and the words, counted from the first line of the data, that three
replays over the crossing from the hub lost (10 R270, R272). -/
structure WriteFaults where
  poison : List Nat
  lost : List Nat
  deriving DecidableEq, Repr

/-- What goes wrong in a BRIDGE step: the bad words among those that it reads, and the output codes that a faulty bridge forms otherwise,
by their place in the rows (log 4). -/
structure BridgeFaults where
  words : List BadWord
  codes : List (Nat × Int)
  deriving DecidableEq, Repr

/-- What goes wrong in drone kernels: the deviations of faulty units' answers, the margin warnings of a site's bows, and what the converters of
a site's bows do (log 4). -/
structure KernelFaults where
  units : List (UnitId × List (Nat × Int))
  margins : List (Nat × Nat)
  bows : List (Nat × BowEvents)
  deriving DecidableEq, Repr

/-- What goes wrong in a duplicate execution: the deviations of the checker's sums, and the margin warnings and converter events of an engine
checker's bows (log 4). -/
structure CheckerFaults where
  sums : List (Nat × Int)
  margins : Nat
  bows : List BowEvents
  deriving DecidableEq, Repr

/-- What a tampered append, page or fuse row holds after power was lost at an arbitrary moment (15_keep_store.md R450,
R454, R458; 14_boot_and_trust.md R416, R424). -/
structure LossOutcome where
  /-- The append in progress was complete when power went. -/
  appendDone : Bool
  /-- The victim of a compaction had been erased and its header written. -/
  victimErased : Bool
  /-- The unary bit being programmed verifies. -/
  bitVerifies : Bool
  /-- Where a fold stood: 0 not past its base record, 1 base record written, 2 header written. -/
  foldStage : Nat
  /-- For each position of the page being programmed: 0 old value, 1 last loaded value, 2 reads 0xFF (Table 15-12). -/
  pageBytes : List Nat
  /-- Power went during the intent row write: the page was not touched. -/
  inIntent : Bool
  /-- The directory copy, or the block-protect copy, being written is valid. -/
  copyDone : Bool
  /-- The fuse row being programmed reads with a correct CRC. -/
  fuseDone : Bool
  deriving DecidableEq, Repr

/-- The commands of the block, one constructor per row of spec/opcode_table.json, in the table's order. -/
inductive Instr where
  -- the object dictionary (13_malrov_dictionary.md)
  | read (r : Req) (idx sub : Nat)
  | write (r : Req) (idx sub : Nat) (data : Bytes)
  | segRead (r : Req) (idx sub offset : Nat)
  | segWrite (r : Req) (idx sub offset : Nat) (data : Bytes) (last : Bool)
  | abort (r : Req) (idx sub : Nat)
  | describe (r : Req) (idx sub : Nat)
  | badPduDiscard (ep length lenField sid vlan : Nat)
  | lockExpiry (ep : Nat)
  | transferTimeout (ep sid idx sub : Nat)
  | sessionIdleTimeout (sid : Nat)
  | sessionHello (r : Req) (offset : Nat) (data : Bytes) (last idle : Bool)
  | sessionChallenge (nonce seed : Bytes)
  | sessionProve (r : Req) (offset : Nat) (data : Bytes) (last edOk mlOk : Bool)
  | sessionClose (r : Req) (sid : Nat)
  -- device states, stops and observation
  | start (r : Req)
  | drain (r : Req)
  | hardStop (r : Req)
  | exitSafe (r : Req)
  | enterSafe (r : Req)
  | drainComplete
  | hang (core : Nat)
  | freezeTimeout (u : UnitId)
  | dumpComplete
  | cutDump (r : Req) (value : Nat)
  | memoryReadRequest (r : Req) (space unit line lines : Nat)
  | tensorWatchArm (r : Req) (core stepno bufidx ordinal first lines rsvd : Nat)
  | tensorWatchDisarm (r : Req) (core stepno bufidx ordinal first lines rsvd : Nat)
  | counterEpochCommand (r : Req) (mask : Nat)
  | acknowledge (r : Req) (seq : Nat)
  -- images and the capo (07_weight_courses.md)
  | capoArm (r : Req)
  | capoWithdraw (r : Req)
  | capoDiscard (r : Req)
  | armComplete
  | manifestDelivery (r : Req) (offset : Nat) (data : Bytes) (last edOk mlOk : Bool)
  | imageDataDelivery (r : Req) (offset : Nat) (data : Bytes) (last : Bool)
  | objectReceived (entry : Nat) (source : Nat) (obj : Bytes) (late : Bool)
  | objectFetchTimeout (entry : Nat)
  | sourceRetry (entry : Nat)
  | programLoopStart (site side row cells : Nat)
  | programLoopComplete (site side row failing : Nat)
  | sealReadbackDone (site side : Nat) (digest : Bytes)
  | sideFence
  | oldSideRelease
  | planeScanDone (site side : Nat) (digest : Bytes) (marginCount : Nat)
  | tuningPassComplete (site : Nat) (res : PassResult)
  -- cameras and batches (11_cameras_results_scene.md)
  -- ecc: 0 good, 1 a corrected single-bit error, 2 any other error (R312); early: less than 3000.05 after the previous accepted set (R321)
  | csi2FrameStart (port vc ecc : Nat) (early : Bool)
  | csi2LongPacket (port vc dt ecc : Nat) (crcOk : Bool) (samples : List Nat)
  | csi2FrameEnd (port vc ecc : Nat) (wins : Bool)
  | captureWindowClose
  | batchDeadline
  | streamLoss (stream : Nat)
  | periodicBatch
  | batchOpen (temps : List Int) (drainWins : Bool)
  | frameBufferRelease (ordinal : Nat)
  | intakeArm (r : Req)
  | intakeWithdraw (r : Req)
  | policyArm (r : Req)
  | policyWithdraw (r : Req)
  | importDatagram (addr : Bytes) (port : Nat) (data : Bytes) (on : MacVia)
  -- the walk (05_tablature.md, 06_mapping_and_tiles.md)
  | ordinalReceived (core ordinal boot epoch : Nat)
  | clusterOrdinalAccept (cluster ordinal : Nat)
  | coreBatchStart (core : Nat)
  | bowStep (core : Nat) (bad : List BadWord)
  | bow (site : Nat) (first replay : List ConvEvent)
  | digTile (core : Nat) (faults : List (Nat × Int)) (bad : List BadWord)
  | digSoftmax (core : Nat) (bad : List BadWord)
  | moveStep (core : Nat) (badWords : List BadWord)
  | bridgeStep (core : Nat) (bad : BridgeFaults)
  | takeStep (core : Nat) (parityOk : Bool) (again : Option Nat)
  | signalStep (core : Nat)
  | waitStep (core : Nat)
  | tokenArrival (core : Nat) (t : Token)
  | waitTimeout (timer : WaitTimer)
  | shapeStep (core : Nat) (bad : List BadWord)
  | runDeathNotice (core ordinal run cause : Nat)
  | sceneGather (core : Nat) (bad : List BadWord)
  | sceneScatter (core : Nat) (bad : List BadWord)
  | probeStep (core : Nat)
  | droneKernelSlot (core : Nat) (faults : KernelFaults)
  | droneTuningWindow (core : Nat)
  | droneScanSlot (core : Nat)
  | markCheckpoint (core elapsedNs : Nat)
  | markLayerStart (core : Nat)
  | markRunEnd (core : Nat)
  | endStep (core : Nat)
  | tabBlockFetch (core block : Nat) (good : List Bool)
  -- checking (10_fault_containment.md)
  | arrayGrant (cluster core : Nat)
  | duplicateExecution (tile : Nat) (faults : CheckerFaults)
  | thirdExecution (tile : Nat) (faults : List (Nat × Int))
  | unitBackToOk (u : UnitId)
  | arrayDrone (cluster : Nat) (cut : Bool) (faults : List (Nat × Int))
  -- publication
  | publishRun (ordinal run : Nat) (full : List (Nat × Nat))
  | retractionRepeat (ordinal run : Nat)
  | ledgerPublish
  | linkDown (mac : Nat)
  | linkUp (mac : Nat)
  | exportRateSummary
  | storeAllowanceRefill
  -- the scene grid
  | egoMotionMessage (on : EgoVia) (data : Bytes) (secured late : Bool)
  | egoMotionWindowEnd
  | warpStart
  | warpComplete (badCells : List Nat)
  | sceneUpdateApply
  | sceneExport
  -- replay (08_bit_identity_and_seals.md)
  | replayModeEnter (r : Req) (data : Bytes)
  | replayModeLeave (r : Req) (data : Bytes)
  | replayBatchDescriptor (r : Req) (data : Bytes)
  | replayInputData (r : Req) (data : Bytes)
  -- boot and trust (14_boot_and_trust.md)
  -- rootKeys: both root public keys as the boot ROM holds them; slots: what production wrote into firmware areas that hold nothing yet
  | resetRelease (straps : Nat) (testEn railsOk crystalOk : Bool) (rootKeys : Bytes) (flashOk : Bool) (slots : List FwSlot)
  | romRecoveryDelivery (slot : FwSlot)
  | bootComplete (entropyOk : Bool)
  -- scans: boot scans; a plane that is not listed gave its digest and no margin
  | selftestComplete (imageOk : Bool) (scans : List BootScan) (drones : KernelFaults)
  | entropyFailure
  -- slot: what the delivered slot's signatures come to; its bytes are those of the delivery
  | firmwareDelivery (r : Req) (offset : Nat) (data : Bytes) (last : Bool) (slot : FwSlot)
  | firmwareActivate (r : Req)
  | firmwareDrainReset (r : Req)
  | firmwareCancel (r : Req)
  | provisioning (r : Req) (data : Bytes)
  | clientKeySlotWrite (r : Req) (slot : Nat) (data : Bytes)
  | imageKeyWrite (r : Req) (slot : Nat) (data : Bytes)
  | macsecKeyWrite (r : Req) (mac : Nat) (sci : Bytes) (an : Nat) (sas : List SaWrite)
  | macsecFrameReceived (mac channel an pn : Nat) (tagPresent icvOk : Bool)
  | testUnlock (serial : Bytes) (edOk mlOk chainOk : Bool)
  -- Exham links and groups (12_exham_group.md)
  | quarantineRelease (r : Req) (port : Nat)
  | portTrainingComplete (port : Nat) (nonce : Bytes)
  | trainingTimeout (port : Nat)
  | absentRetry (port : Nat)
  | bringupTimeout (port : Nat)
  | hello (port dev partnerPort arrange progid imgseq : Nat) (nonce : Bytes)
  | evidence (port : Nat) (edOk mlOk chainOk : Bool) (secver : Nat) (debug : Bool) (seed : Bytes)
  | keyshareI (port : Nat) (x25519 ek : Bytes) (edOk mlOk : Bool) (seed : Bytes)
  | keyshareR (port : Nat) (x25519 ct : Bytes) (edOk mlOk kemOk : Bool)
  | rekeyStart (port : Nat) (seed : Bytes)
  | rekeyI (port : Nat) (x25519 ek : Bytes) (edOk mlOk : Bool) (seed : Bytes)
  | rekeyR (port : Nat) (x25519 ct : Bytes) (edOk mlOk kemOk : Bool)
  | rekeyTimeout (port : Nat)
  | flitReceived (port : Nat) (f : Flit)
  | idleFlit (port : Nat)
  | replayTimeout (port : Nat)
  | lockLoss (port : Nat)
  | starvationEvent (port cls : Nat)
  | starveLimit (port cls : Nat)
  | remoteWrite (src : From) (eseq ordinal run flags unit space line lines resend : Nat) (data : Bytes) (faults : WriteFaults)
  | remoteRead (src : From) (eseq ordinal run unit space line : Nat) (span : ReadSpan) (replyUnit replySpace replyLine : Nat)
  | remoteToken (src : From) (eseq : Nat) (t : Token) (unit : Nat)
  | ready (src : From) (set absent : Nat) (aftercare : Bool)
  | openMsg (src : From) (ordinal epoch decision : Nat)
  | complete (src : From) (ordinal run status : Nat) (corrected verdictsDone : Bool) (recs : List Decision)
  | death (src : From) (ordinal run cause : Nat)
  | stale (src : From) (ordinal run cause : Nat)
  | fence (src : From) (ordinal : Nat)
  | arm (src : From) (kind bstar epoch : Nat)
  | armack (src : From) (kind bstar epoch result : Nat)
  | seallost (src : From) (site : Nat)
  | digest (src : From) (epoch : Nat) (value : Bytes)
  | replicaDigestSend
  | safe (src : From) (member ordinal cause : Nat)
  | dropMsg (src : From) (member ordinal cause : Nat)
  | joinMsg (src : From) (member ordinal cause : Nat)
  | offer (src : From) (progid imgseq : Nat) (digests : List Bytes)
  | request (src : From) (digest : Bytes)
  | object (src : From) (digest : Bytes) (obj : Bytes) (late : Bool)
  | memberTimeout (member : Nat)
  -- ids: the image identities of the other members that are UP; rows: their run tables; publishers: for each run, the members that publish
  -- it; windows: [run, space, unit, first line, lines] that others name on this device; joining: the others' group has formed already
  | groupFormation (joining : Bool) (ids : List MemberId) (rows : List RunRow) (publishers windows : List (List Nat)) (depends : List (Nat × Nat))
  -- the keep store (15_keep_store.md)
  | keepStoreAppend (readbackOk : Bool)
  | compaction (eraseOk : Bool)
  | counterIncrement (n : Nat) (verifies : Bool)
  | windowPageWrite (r : Req) (addr count rsvd : Nat) (data : Bytes)
  | windowSegmentWrite (r : Req) (offset : Nat) (data : Bytes) (last : Bool)
  | blockProtectWrite (r : Req) (value : Nat)
  | histogramSnapshot
  -- supplies and monitors (17_electrical_package.md)
  | avsAdjust (answered : Bool) (tb current volts power10 : Nat)
  | temperatureSample (readings : List Int) (deviant : List Nat) (hot130 : Bool)
  | thermalTrip
  | railSample (millivolts : List Nat)
  | calibrationToken (counts : List (Domain × Nat)) (deviates running : Bool)
  | referenceClockLoss
  | referenceClockReturn
  | coolantInletReport (r : Req) (value : Int)
  | coolantReportExpiry
  | pfailLow
  | pfailHigh
  -- held: the pin is still low; false: it has gone high again after a recognised low
  | safeNLow (held : Bool)
  | lockstepMismatch (pair : Nat)
  | powerLoss (o : LossOutcome)
  | tuningSetPeriodEnd
  | dramCopyScan (segment : Nat) (ok0 ok1 : Bool)
  | windowPageProgrammed
  deriving DecidableEq, Repr

end Sys2Proof
end

