-- ==== Sys2Proof/Decode.lean ====
section
/-!
DEFINITION. The table of commands (spec/opcode_table.json) gives no row any bits: a command reaches the block as an event,
not as a word (spec/95_what_each_step_holds.md). No word therefore spells a command (log 70).
-/

namespace Sys2Proof

/-- The command that a word spells by the table's bits: none, since no row has bits. -/
def decodeTableWord (_nbits _w : Nat) : Option Instr := none

end Sys2Proof
end

