-- ==== Sys2Proof/Config.lean ====
section
/-!
DEFINITION. What an implementation fixes and the spec does not give: the cryptographic primitives, which the manual
takes from external standards (00_scope.md R13), and the free values. Every one of them is opaque: nothing in Lean can
evaluate it, so a claim about it holds for every value it could have. Assumption log entries 1 and 2.
-/

namespace Sys2Proof.Config

/-- A free value: the bytes of an object whose content the spec does not state. Log entry 2. DESIGN CHOICE. -/
opaque freeByte : Nat → BitVec 8

/-- A free natural number, applied to the counter `State.freeCount`. Log entry 2. DESIGN CHOICE. -/
opaque freeNat : Nat → Nat

/-- The import streams that a run of a programme consumes, as a mask: the spec counts them (2100.01) and gives no step operand
that names one. Arguments: PROGID and run. Log entry 2. DESIGN CHOICE. -/
opaque importStreams : Nat → Nat → Nat

/-- Entries of the drone exponent table of K-ARR, which the spec names and does not give (10_fault_containment.md Table 10-3). Log
entry 2. -/
opaque droneExp : Nat → Nat

/-- Lines of the programme DRAM area beside a trace region of SIZE units (2100.03, 05_tablature.md R509). Log entry 2. -/
opaque dramLines : Nat → Nat

/-- Lines of the programme window of base-die SRAM (2100.03, R509). Log entry 2. -/
opaque windowLines : Nat

/-- REPLSET of the manifest of another device of a programme (07_weight_courses.md R210), which no message gives: PROGID and device. Log
entry 2. -/
opaque replset : Nat → Nat → Nat

/-- Whether an anti-rollback fuse row reads back with a correct CRC after it was programmed (14_boot_and_trust.md R422): the row's
number. Log entry 2. -/
opaque fuseRowOk : Nat → Bool

/-- The AES-256-GCM tag of (key, nonce, additional data, plaintext) (13_malrov_dictionary.md R401). Log entry 1. -/
opaque gcmTag : List (BitVec 8) → List (BitVec 8) → List (BitVec 8) → List (BitVec 8) → List (BitVec 8)

/-- Byte i of the AES-256-GCM keystream of (key, nonce): the ciphertext is the plaintext plus it, bit by bit (R401, R355). Log entry 1. -/
opaque gcmStream : List (BitVec 8) → List (BitVec 8) → Nat → BitVec 8

/-- The key that the unique device secret gives for what the device stores wrapped or sealed (14_boot_and_trust.md Table 14-5, R436;
15_keep_store.md Table 15-4). Log entry 1. -/
opaque storeKey : List (BitVec 8) → List (BitVec 8)

/-- The X25519 public key of a private key (RFC 7748; R400, R362). Log entry 1. -/
opaque x25519Public : List (BitVec 8) → List (BitVec 8)

/-- The X25519 shared secret of a private key and a public key (R401, R362). Log entry 1. -/
opaque x25519Shared : List (BitVec 8) → List (BitVec 8) → List (BitVec 8)

/-- The ML-KEM-768 ciphertext of an encapsulation key and a seed (FIPS 203; R400, R362). Log entry 1. -/
opaque mlkemCiphertext : List (BitVec 8) → List (BitVec 8) → List (BitVec 8)

/-- The ML-KEM-768 shared secret of an encapsulation key and a seed. Log entry 1. -/
opaque mlkemShared : List (BitVec 8) → List (BitVec 8) → List (BitVec 8)

/-- The ML-KEM-768 encapsulation key of a seed. Log entry 1. -/
opaque mlkemKey : List (BitVec 8) → List (BitVec 8)

/-- The ML-KEM-768 shared secret that a decapsulation key (its seed) and a ciphertext give. Log entry 1. -/
opaque mlkemOpen : List (BitVec 8) → List (BitVec 8) → List (BitVec 8)

/-- The Ed25519 public key of a seed (RFC 8032). Log entry 1. -/
opaque ed25519Public : List (BitVec 8) → List (BitVec 8)

/-- The Ed25519 signature of a seed over a message, 64 bytes (RFC 8032, pure form). Log entry 1. -/
opaque ed25519Sign : List (BitVec 8) → List (BitVec 8) → List (BitVec 8)

/-- The ML-DSA-65 public key of a seed (FIPS 204). Log entry 1. -/
opaque mldsaPublic : List (BitVec 8) → List (BitVec 8)

/-- The ML-DSA-65 signature of a seed over a message, 3,309 bytes (FIPS 204). Log entry 1. -/
opaque mldsaSign : List (BitVec 8) → List (BitVec 8) → List (BitVec 8)

end Sys2Proof.Config
end

