-- ==== Sys2Proof/Machine/State.lean ====
section
/-!
DEFINITION. The state of the block, as plain data. Each field's comment reads: name | width | rule | reset value. The
registers of the dictionary whose value is a plain setting stand in `Dict.settings` under index * 256 + subindex, with the
defaults of the object table (Machine/Objects.lean); every other object is computed from the fields below.
Ordinals and counts are numbers; the operations that advance them keep them inside the width named here.
-/

namespace Sys2Proof.Machine

/-- The refusals of the model. `notModelled`: an arm of `exec` that has no meaning yet; safe, it stops. No meaning
answers with any refusal: a request that the device refuses is answered with a status and is a next state. -/
inductive Refusal where
  | notModelled (mnemonic : String)
  deriving DecidableEq, Repr

/-- The faults of the model. `noSuchUnit`: raised by a command that names a unit, port or stream that the spec says does
not exist (a core ordinal above 255, a port above 5); safe, it stops where the hardware has no such event. -/
inductive Fault where
  | noSuchUnit
  deriving DecidableEq, Repr

/-- Device states (13_malrov_dictionary.md Table 13-8). -/
inductive DevState where
  | boot | selftest | ready | serving | degraded | safe | halted
  deriving DecidableEq, Repr

/-- Sequencer states (05_tablature.md Table 05-16). -/
inductive SeqState where
  | unloaded | idle | walk | stalled | draining | stopped | frozen | halted
  deriving DecidableEq, Repr

/-- Engine site states (02_count_exact_crossbar.md Table 02-10). -/
inductive SiteState where
  | active | standby | copying | substitute | retiring | retired
  deriving DecidableEq, Repr

/-- Capo states (07_weight_courses.md Table 07-6). -/
inductive CapoState where
  | idle | staging | staged | armed | committed | releasing
  deriving DecidableEq, Repr

/-- Work counter bank states (06_mapping_and_tiles.md Table 06-6). -/
inductive BankState where
  | closed | opened | exhausted
  deriving DecidableEq, Repr

/-- Port states (12_exham_group.md Table 12-2). -/
inductive PortState where
  | disabled | down | training | absent | attest | keyx | up | quarantined
  deriving DecidableEq, Repr

/-- Verdict states of a checked tile (10_fault_containment.md Table 10-4). -/
inductive VerdictState where
  | captured | third | agreed | primaryStands | primaryOutvoted | split | escalated | escThird | resolved
  deriving DecidableEq, Repr

/-- Result status (08_bit_identity_and_seals.md R227, 11_cameras_results_scene.md Table 11-4). -/
inductive RunStatus where
  | valid | stale | void | held
  deriving DecidableEq, Repr

/-- Causes of a tuning pass (09_tuning_passes.md Tables 09-3 and 09-7). -/
inductive PassCause where
  | selftest | temperature | periodic | emMargin | emReference | substitution | retry
  deriving DecidableEq, Repr

/-- A counter entry and its companion (16_observation.md R465, R468). -/
structure Ctr where
  epoch : Nat := 0       -- counter epoch | 16 | 02 R72, R73 | 0
  value : Nat := 0       -- counter value | 48 | 02 R72 | 0
  oldEpoch : Nat := 0    -- companion epoch | 16 | 16 R465 | 0
  oldValue : Nat := 0    -- companion value | 48 | 16 R465 | 0
  deriving DecidableEq, Repr

/-- Where a dictionary response goes (13_malrov_dictionary.md R391, R392): on a CAN FD controller its identifier, on a MAC the address and
port that the request came from, and the device's own address where the model gives one. -/
structure ReplyTo where
  canId : Nat
  addr : Bytes
  port : Nat
  own : Bytes
  deriving DecidableEq, Repr

/-- What the outside world can see the device send. -/
inductive Tx where
  /-- A dictionary response (R388, R389, R403): endpoint, where it goes, OP, TID, INDEX, SUB, STATUS, SID, SEQ, LAST, OFFSET, data, tag.
  Inside a session the data are their AES-256-GCM ciphertext (R401). -/
  | response (ep : Nat) (dest : ReplyTo) (op tid idx sub status sid seq : Nat) (last : Bool) (offset : Nat) (data tag : Bytes)
  /-- A publication datagram (R330): MAC, destination record, header, payload. -/
  | datagram (mac : Nat) (dest header payload : Bytes)
  /-- A fault record export (R305): MAC and CBOR bytes. -/
  | faultExport (mac : Nat) (record : Bytes)
  /-- An Exham message (Table 12-4) handed to the base-die hub: type, destination device (255 every member), fields, bytes. -/
  | message (type dst : Nat) (fields : List Nat) (bytes : Bytes)
  /-- A flit sent on a port, as its 272 bytes (Table 12-1). -/
  | flit (port : Nat) (bytes : Bytes)
  /-- A frame that MACsec protects (R434, R435): MAC, SecTAG, the encrypted datagram with its ICV, and what the frame carries. -/
  | secured (mac : Nat) (secTag body : Bytes) (inner : Tx)
  deriving DecidableEq, Repr

/-- Identity and device-wide modes. -/
structure Dev where
  state : DevState              -- device state 2000.01 | 8 | 13 R404 | boot
  gradeB : Bool                 -- grade fuse 1000.02 | 1 | 00 R1 | DESIGN CHOICE false, grade A (log 8)
  clusterMask : Nat             -- active cluster mask 1010.01 | 32 | 00 R2 | 0xFFFFFFFF (grade A)
  stepping : Nat                -- stepping fuse 1000.03 | 8 | 13 R408 | DESIGN CHOICE 0xB1, the production stepping of 00 R3 (log 5)
  ordering : Bytes              -- ordering code 1000.08 | 128 | 13 R408 | DESIGN CHOICE LM-1024-A-Q1-T of 00 R4 (log 5)
  serial : Bytes                -- serial number 1000.04 | 128 | 13 R408 | DESIGN CHOICE zeros (log 5)
  resetHeld : Bool              -- RESET_N low, boot not begun | 1 | 14 R409 | true
  bootStuck : Bool              -- boot stopped in BOOT until reset | 1 | 17 R492, R495, R501 | false
  testEn : Bool                 -- TEST_EN was high at reset release | 1 | 17 R501 | false
  abandoned : Bool              -- a trial was abandoned in this boot | 1 | 14 R419 | false
  recovered : Bool              -- the keep store is recovered, firmware runs and the dictionary answers | 1 | 13 R404 | false
  bootPath : Nat                -- boot path: 0 ACTIVE, 1 other, 2 recovery, 3 ROM recovery | 2 | 14 R419, R428 | 0
  slotsFailed : Nat             -- 9000.03 slots failed | 8 | 14 Table 14-8 | 0
  debug : Bool                  -- DEBUG, test access unlocked | 1 | 14 R432 | false
  selftestRound : Nat           -- round of SELFTEST passes that starts next, 5 when all have started | 3 | 09 R250 | 0
  entropyBad : Bool             -- entropy start-up tests failed | 1 | 14 R433 | false
  noImage : Bool                -- no verifiable selected image | 1 | 14 R412 | false
  safeCauses : List Nat         -- recorded SAFE causes (2000.04 codes) | 8 each | 10 R310 | empty
  batchOpening : Bool           -- batch opening 2000.05 | 1 | 13 R408 | false
  draining : Bool               -- a drain stop is under way | 1 | 16 R479 | false
  drainReset : Bool             -- the drain was ordered by firmware command 0x02 | 1 | 14 R431 | false
  drained : Bool                -- READY was reached by a drain stop (a cut dump is accepted) | 1 | 16 R481 | false
  stopping : Bool               -- a hard stop is under way | 1 | 16 R480 | false
  stopHang : Option Nat         -- core whose hang ordered the stop | 8 | 16 R477 | none
  priorState : DevState         -- state before the hard stop | 8 | 16 Table 16-5 | boot
  unfrozen : List UnitId        -- units marked UNFROZEN | list | 16 R480 | empty
  bOpen : Option Nat            -- latest opened ordinal 2000.06 | 48 | 13 R408 | none, reads 0
  modeEpoch : Nat               -- mode epoch 2000.07 | 32 | 13 R408 | 0
  lastOutcome : Nat             -- last command outcome 2000.08 | 8 | 13 R408 | 0
  bootCount : Nat               -- boot count of this boot 1000.07 | 32 | 00 R15, 15 R449 | 0, kept
  fwver : Nat                   -- firmware version 1000.05 | 32 | 14 R417 | 0
  secver : Nat                  -- running firmware's SECVER 1000.06 | 64 | 14 R417 | 0
  rollfwd : Bool                -- running firmware's ROLLFWD | 1 | 14 R417 | false
  measure : Bytes               -- firmware measurement | 256 | 14 R417 | empty
  certs : Bytes                 -- CERTS of the evidence, issued once per boot | 21940 B | 14 R425, R428 | empty
  dikLocked : Bool              -- the DIK refuses further use until reset | 1 | 14 R426 | false
  pairHalted : List Nat         -- control pairs halted by a lockstep mismatch | 4 | 01 R21 | empty
  straps : Nat                  -- straps B000.05 | 4 | 17 R501 | DESIGN CHOICE 0 until sampled (log 5)
  safeNLow : Bool               -- SAFE_N recognised low | 1 | 10 R308 | false
  thermNLow : Bool              -- THERM_N driven low | 1 | 17 R497 | false
  pfailLow : Bool               -- PFAIL_N recognised low | 1 | 17 R493 | false
  freeCount : Nat               -- the model's own counter of free values (log 2) | - | none | DESIGN CHOICE 0
  deriving DecidableEq, Repr

/-- A segmented transfer, in progress or just ended (13_malrov_dictionary.md R395 to R397). -/
structure Transfer where
  ep : Nat
  sid : Nat
  idx : Nat
  sub : Nat
  writing : Bool
  offset : Nat        -- offset of the last segment
  seg : Bytes         -- its bytes
  data : Bytes        -- read: captured bytes (an array: from `offset` on); write: gathered bytes
  ended : Bool        -- its last segment is done; it stays for a repeat of that segment
  status : Nat        -- status of the last segment's answer
  reply : Bytes       -- data of that answer
  deriving DecidableEq, Repr

/-- An open session (13_malrov_dictionary.md R400, R401). -/
structure Session where
  sid : Nat
  slot : Nat
  admin : Bool
  key : Bytes
  highSeq : Nat
  started : Bool               -- a request has been accepted in the session
  stored : List Tx             -- stored response to the highest SEQ
  ep : Nat
  deriving DecidableEq, Repr

/-- An answer of an endpoint that waits: for the append of a kept value, for a window page, or behind another (R390, R393). -/
structure Answer where
  no : Nat            -- number of the answer
  ready : Bool
  ep : Nat
  tx : Tx
  deriving DecidableEq, Repr

/-- The one handshake in progress (R400). -/
structure Handshake where
  ep : Nat
  hello : Bytes
  helloDone : Bool
  slot : Nat
  sid : Nat
  challenge : Bytes
  seed : Bytes
  prove : Bytes
  deriving DecidableEq, Repr

/-- A programme rejection (2100.02). -/
structure Rejection where
  rule : Nat := 0
  core : Nat := 0
  stepno : Nat := 0
  deriving DecidableEq, Repr

/-- A memory read request (7100.0A). -/
structure MemRequest where
  space : Nat := 0
  unit : Nat := 0
  line : Nat := 0
  lines : Nat := 0
  deriving DecidableEq, Repr

/-- The object dictionary. -/
structure Dict where
  settings : Tbl Bytes          -- RW settings that have been written, key index*256+sub | as typed | 13 R385 | empty (defaults)
  sessions : List Session       -- open sessions 9020.05 | at most 4 | 13 R400 | empty
  handshake : Option Handshake  -- session handshake in progress | - | 13 R400 | none
  challenge : Bytes             -- session challenge 9020.02 | domain | 13 Table 13-4 | empty
  fails : Tbl Nat               -- failed handshakes and tag failures per endpoint within 60 s | count | 13 R402 | 0
  locked : List Nat             -- endpoints locked | 4 | 13 R402 | empty
  transfers : List Transfer     -- segmented transfers | at most 4 in progress | 13 R397 | empty
  rejection : Rejection         -- programme rejection 2100.02 | 64 | 13 R408 | zeros
  comm : Tbl Bytes              -- settings of 1100 to 11FF in force, taken at the reset | as typed | 13 R408 | empty (defaults)
  memRead : MemRequest          -- memory read request 7100.0A | 88 | 16 R482 | zeros
  outbox : List Answer          -- answers that wait, oldest first | - | 13 R390, R393 | empty
  answerNo : Nat                -- number of the next waiting answer | - | 13 R390 | 0
  deriving DecidableEq, Repr

/-- A tensor watch (7100.04). -/
structure Watch where
  core : Nat := 0
  stepno : Nat := 0
  bufidx : Nat := 0
  ordinal : Nat := 0
  first : Nat := 0
  lines : Nat := 1
  deriving DecidableEq, Repr

/-- A tensor statistics record (03_integer_pipeline.md R105, R106). -/
structure StatRec where
  ordinal : Nat := 0
  isVoid : Bool := false
  total : Nat := 0
  clipHi : Nat := 0
  clipLo : Nat := 0
  nearHi : Nat := 0
  nearLo : Nat := 0
  runs : List Nat := []        -- the runs whose steps write to the slot
  deriving DecidableEq, Repr

/-- Counters, epochs and trace (16_observation.md). -/
structure Obs where
  engine : Tbl Ctr              -- engine counters 4400, key site*8+k | 64 each | 02 R72 | 0
  core : Tbl Ctr                -- core counters 4500, key core*8+k | 64 each | 05 R159 | 0
  event : Tbl Ctr               -- event counters 7020.01, key cluster*16+k | 64 each | 16 R466 | 0
  link : Tbl Ctr                -- link counters A020, key port*8+k | 64 each | 12 R383 | 0
  proto : Tbl Ctr               -- protocol counters 1100.0A, key ep*3+k | 64 each | 13 R408 | 0
  macsec : Tbl Ctr              -- MACsec counters 9050.04, key mac*3+k | 64 each | 14 R436 | 0
  imports : Tbl Ctr             -- import counts 7031.01 and 7031.02 | 64 each | 03 R101 | 0
  eventSel : Tbl Nat            -- event selection in force 7010.02, key cluster*16+k | 8 each | 16 R467 | 0
  epochNo : Nat                 -- device epoch number E | 16 | 16 R468 | 0
  epochMask : Nat               -- mask of the last epoch command | 16 | 16 R468 | 0
  epochBatch : Option Nat       -- b_e of the epoch command, none when no batch was used | 48 | 16 R468 | none
  epochUsed : Bool              -- an epoch command has been given | 1 | 16 R468 | false
  epochCores : List Nat         -- cores still to switch | 256 | 16 R468 | empty
  epochClusters : List Nat      -- clusters still to switch | 32 | 16 R468 | empty
  epochBase : Bool              -- base-die counters still to switch | 1 | 16 R468 | false
  rings : Tbl (List Bytes)      -- sync rings 7100.06, key core or 256+service | 64 x 32 B | 16 R470 | empty
  ringSeq : Tbl Nat             -- record number of each ring | 8 | 16 R471 | 0
  traceEnable : Nat             -- trace ENABLE in force | 8 | 16 R472 | 1
  traceMode : Nat               -- trace MODE in force | 8 | 16 R472 | 0
  traceSources : Nat            -- trace SOURCES in force | 8 | 16 R472 | 7
  traceSize : Nat               -- trace region SIZE in force | 8 | 16 R472 | 1
  trace : List Bytes            -- trace region slots 7100.0D | 32 B each | 16 R472 | empty
  traceWritten : Nat            -- WRITTEN of 7100.09 | 64 | 16 R483 | 0
  traceDropped : Nat            -- DROPPED of 7100.09 | 64 | 16 R473 | 0
  traceWraps : Nat              -- WRAPS of 7100.09 | 32 | 16 R472 | 0
  watch : Watch                 -- tensor watch 7100.04 | - | 16 R474 | zeros, LINES 1
  watchState : Nat              -- watch state 7100.08 | 8 | 16 R475 | 0
  watchData : Bytes             -- watch data 7100.07 | domain | 16 R475 | empty
  dump : Bytes                  -- dump 7100.05 | domain | 16 R481 | empty
  stats : Tbl StatRec           -- tensor statistics 7030.01 | 256 each | 03 R106 | zeros
  batchSums : List Nat          -- what engine counters 1 to 8 advanced by in the batch, over the device | 8 x count | 15 R460 | zeros
  statsAcc : Tbl StatRec        -- counts gathered for the batch in progress, key slot + 1024*(ordinal mod 2) | - | 03 R105 | empty
  deriving DecidableEq, Repr

/-- Failed checks of one unit (10_fault_containment.md R292 to R295, R301). -/
structure Check where
  suspect : Bool := false         -- STATE SUSPECT | 1 | 10 R293 | false
  retired : Bool := false         -- STATE RETIRED | 1 | 10 R295 | false, kept
  fails : List Nat := []          -- ordinals of failed checks in the window | 48 each | 10 R293 | empty
  lastPass : Option Nat := none   -- last passed check 4420.02 | 48+valid | 10 R301 | none
  deriving DecidableEq, Repr

/-- One tile in progress on a site (02 R46, R47): the BOW step it runs and how far it is. -/
structure Tile where
  core : Nat
  stepno : Nat
  ordinal : Nat
  run : Nat
  word : StepWord
  treg : Nat                      -- tile register value at issue (65535 NONE)
  vec : Nat                       -- vector of the next bow
  bit : Nat                       -- bit of the next bow
  masked : Bool                   -- the step is a timed no-op
  rowLim : Nat                    -- limit for rows
  vecLim : Nat                    -- limit for vectors
  colLim : Nat                    -- limit for outputs
  sampled : Bool                  -- duplicated (R123)
  inputs : List (List Int)        -- the vectors after masking
  accs : List (List Int)          -- 40-bit accumulators per vector
  corrected : Bool
  deriving DecidableEq, Repr

/-- A tuning pass that is running (09_tuning_passes.md R251). -/
structure Passing where
  cause : PassCause
  start : Nat                     -- start ordinal, 2^48 - 1 outside a batch
  retry : Bool                    -- it is the retry of a rejected pass
  stale : Bool                    -- it made a run stale
  window : Bool                   -- it runs in a tuning window
  side : Nat                      -- plane that it drives (R251)
  temp : Int                      -- the reading that becomes T_ref, 1/16 C (R248)
  held : List Nat                 -- planes of the site whose loop was admitted and starts when the pass has ended (R251)
  deriving DecidableEq, Repr

/-- An armed PROBE (05_tablature.md R140): where the capture goes. -/
structure Probe where
  stepno : Nat                    -- the PROBE step: the next bow issued after it is captured
  line : Nat
  fretCap : Bool
  fret : Nat
  spent : Bool := false           -- the next BOW step issued and made no bow, so the capture stays empty (log 101)
  deriving DecidableEq, Repr

/-- One engine site with its pegs and its bridge. -/
structure Site where
  state : SiteState := .active    -- site state 4410.01 | 8 | 02 R66 | active; standby for site 4
  check : Check := {}             -- check state 4420.01 | 8 | 10 Table 10-12 | 0
  tile : Option Tile := none      -- tile in the engine | - | 02 R46 | none
  queue : List Tile := []         -- BOW steps accepted behind it, two deep | - | 05 R134 | empty
  fretA : List Nat := []          -- fret-ones registers, side A | 16 x 7 | 02 R49 | zeros
  fretB : List Nat := []          -- fret-ones registers, side B | 16 x 7 | 02 R49 | zeros
  off : Tbl Nat := []             -- offset pegs in force | 4352 x 6 | 09 R243 | mid code 32
  offT : Tbl Nat := []            -- offset targets | 4352 x 6 | 09 R258 | mid code 32
  gain : Tbl Nat := []            -- gain pegs in force | 16 x 8 | 09 R243 | mid code 128
  gainT : Tbl Nat := []           -- gain targets | 16 x 8 | 09 R258 | mid code 128
  drive : Nat := 128              -- row-drive peg in force | 8 | 09 R243 | mid code 128
  driveT : Nat := 128             -- row-drive target | 8 | 09 R258 | mid code 128
  tref : Int := 0                 -- T_ref, 1/16 C | 16 | 09 R248 | DESIGN CHOICE 0 (log 5), kept
  temp : Int := 0                 -- latest reading of its sensor, 1/16 C | 16 | 09 R247 | DESIGN CHOICE 0 (log 5)
  passNo : Nat := 0               -- PASSNO of its tuning record | 32 | 09 R261 | 0, kept
  sincePass : Nat := 0            -- batches opened since its last accepted pass | 16 | 09 R248 | 0
  pending : List PassCause := []  -- pending causes | 3 | 09 R248 | empty
  passing : Option Passing := none -- pass running | - | 09 R251 | none
  retryLost : Bool := false       -- a retry was rejected and no pass accepted since | 1 | 09 R255 | false
  outcome : Nat := 0              -- last pass outcome 8010.01 | 8 | 09 R267 | 0
  lastEmergency : Option Nat := none -- ordinal of its last emergency pass | 48 | 09 R265 | none
  refFails : List (Nat × Nat) := [] -- reference readback failures of the previous pass | - | 09 R256 | empty
  margins : Nat := 0              -- service margins in the batch | count | 09 R246 | 0
  misses : Nat := 0               -- reference misses in the batch | count | 09 R246 | 0
  replays : Nat := 0              -- replays in the batch | count | 10 Table 10-6 | 0
  replayCharged : Bool := false   -- the replay threshold was charged in the batch | 1 | 10 Table 10-6 | false
  status0 : Nat := 0              -- bow status word 0 | 32 | 02 R64 | 0
  status1 : Nat := 0              -- bow status word 1 | 32 | 02 R64 | 0
  staleRuns : List (Nat × Nat) := [] -- runs whose BOW steps on the site are no-ops: ordinal, run | - | 09 R263 | empty
  probes : List Probe := []       -- armed PROBEs, oldest first | - | 05 R140 | empty
  copyTries : Nat := 0            -- failed copies of a substitution | 2 | 02 R71 | 0
  copyFor : Option Nat := none    -- site being replaced by this standby | 3 | 02 R67 | none
  leaving : Bool := false         -- retired again without a standby: RETIRED from the core's next batch | 1 | 10 Table 10-7 | false
  copyStage : Nat := 0            -- substitution timeline order reached | 3 | 02 Table 02-11 | 0
  deriving DecidableEq, Repr

/-- One cell plane: what it holds, its write, its scans and its wear (07_weight_courses.md). -/
structure Plane where
  shard : Bytes := []             -- BMDIGEST of the shard it should hold; empty for the drone plane pattern | 256 | 07 R190, R208 | empty
  shardKey : Nat := 0             -- manifest entry number + 1 of the shard it should hold, 0 for none | 14 | 07 R190 | 0
  wtfmt : Nat := 0                -- weight format of its shard | 3 | 03 R77, 10 R283 | 0 (INT8)
  isSealed : Bool := false        -- sealed | 1 | 07 R190 | false
  want : Bytes := []              -- BMDIGEST of the shard being written; empty for none | 256 | 07 R190 | empty
  wantKey : Nat := 0              -- manifest entry number + 1 of that shard, 0 for none | 14 | 07 R190 | 0
  cls : Nat := 0                  -- VPP_W priority class of the write, 0 for no write | 3 | 07 R193 | 0
  row : Nat := 0                  -- row being written | 10 | 07 R190 | 0
  loops : Nat := 0                -- loops of the row so far | 4 | 07 R191 | 0
  retry : Nat := 0                -- retry loops of the write | 9 | 07 R191 | 0
  pulsed : Bool := false          -- the write has pulsed a cell | 1 | 07 R211 | false
  tries : Nat := 0                -- failed writes of this staging | 1 | 07 R192 | 0
  running : Nat := 0              -- declared current of its running loop, mA (0 none) | 12 | 07 R193 | 0
  voided : Bool := false          -- the running loop is void: VPP_W was lost | 1 | 07 R192 | false
  dropped : Option Bool := none   -- the running loop's write was given up, and whether the loop is a retry loop | 2 | 07 R193, R211 | none
  awaits : Bool := false          -- the write waits for the fetch of its shard | 1 | 02 R67, 07 R216 | false
  written : Bool := false         -- write ended, seal readback due | 1 | 07 R194 | false
  writes : Nat := 0               -- WRITES | 32 | 07 R211 | 0, kept
  retryLoops : Nat := 0           -- RETRYLOOPS | 32 | 07 R211 | 0, kept
  failCount : Nat := 0            -- FAILS | 16 | 07 R211 | 0, kept
  lastMargin : Nat := 0           -- LASTMARGIN | 16 | 07 R211 | 0, kept
  peakMargin : Nat := 0           -- PEAKMARGIN | 16 | 07 R211 | 0, kept
  endurance : Nat := 0            -- ENDURANCE | 2 | 07 R212 | 0, kept
  storedMargin : Nat := 0         -- LASTMARGIN as last appended | 16 | 15 R448 | 0, kept
  scanSum : Bytes := []           -- scan sum of the latest scan | 256 | 07 R207 | empty
  scanAt : Option Nat := none     -- ordinal of the latest scan | 48 | 07 R209 | none
  prevSum : Bytes := []           -- scan sum of the latest scan of an earlier epoch | 256 | 07 R209 | empty
  prevAt : Option Nat := none     -- its ordinal | 48 | 07 R209 | none
  matchAt : Option Nat := none    -- ordinal of the previous matching scan | 48 | 10 R301 | none
  overScans : Nat := 0            -- scans at the refresh threshold without a refresh switch | 5 | 07 R215 | 0
  deriving DecidableEq, Repr

/-- One accumulator bank of a bridge (05_tablature.md R139). -/
structure Bank where
  out0 : Nat := 0
  outs : Nat := 0
  vcount : Nat := 0
  acc : List (List Int) := []      -- per vector, per output
  present : List (List Bool) := []
  parts : List Nat := []           -- STEPNOs of the steps whose accumulators it holds
  poisoned : Bool := false
  waiting : Bool := false          -- an escalated tile of the bank is undecided (R288)
  deriving DecidableEq, Repr

/-- A resource that steps read or write (05_tablature.md R135). -/
inductive Res where
  | buffer (n : Nat) | bank (n : Nat) | pred (n : Nat) | limit (n : Nat) | tile (n : Nat)
  deriving DecidableEq, Repr

/-- A step that has issued and not completed. -/
structure InFlight where
  stepno : Nat
  unit : Nat            -- 0 to 3 engines, 4 to 7 bridges, 8 array port, 9 move port, 10 sync port, 11 scene port
  parked : Bool         -- its tile is with the verdict path; the unit has gone on (10 R288)
  reads : List Res
  writes : List Res
  masked : Bool         -- it issued as a timed no-op (05 R143)
  room : Nat := 0       -- lines of the checking area that are kept for its captures while it waits in its port (04 R123, 06 R172)
  deriving DecidableEq, Repr

/-- A grant of a work counter beside a tile register (06_mapping_and_tiles.md R170). -/
structure Grant where
  counter : Nat
  n : Nat
  dup : Bool
  deriving DecidableEq, Repr

/-- A step of the sync port that has issued and not completed (05_tablature.md R134, R147, R148). -/
inductive SyncJob where
  /-- A SIGNAL: its step, the destination's unit code, and the token. -/
  | signal (stepno dest : Nat) (t : Token)
  /-- A WAIT: its step, source, channel, predicate register, run, whether it has a timeout, and whether its timer has expired while other jobs
  stood before it. -/
  | wait (stepno sender chan pdst run : Nat) (timed expired : Bool)
  deriving DecidableEq, Repr

/-- A lookup table held by a bridge (03_integer_pipeline.md R95): its address and the codes as they were loaded. -/
structure Lut where
  bridge : Nat          -- site of the core whose bridge holds it; 8 and the engine's number for a lost logical engine
  addr : Nat
  codes : Bytes
  deriving DecidableEq, Repr

/-- An entry of the regeneration journal (08_bit_identity_and_seals.md R234). -/
structure JEntry where
  ordinal : Nat
  stepno : Nat
  kind : Nat
  value : Nat
  deriving DecidableEq, Repr

/-- A live DRONE step (05_tablature.md R154). -/
structure Drone where
  stepno : Nat
  kind : Nat
  sites : Nat
  deriving DecidableEq, Repr

/-- An ordinal as the batch bus carries it (01_engine_to_package.md R22). -/
structure OrdinalMsg where
  ordinal : Nat
  boot : Nat
  epoch : Nat
  deriving DecidableEq, Repr

/-- One core: sequencer, registers, sync port. -/
structure Core where
  seq : SeqState := .unloaded      -- sequencer state | 3 | 05 R158 | unloaded
  before : SeqState := .unloaded   -- sequencer state before freezing | 3 | 16 Table 16-6 | unloaded
  check : Check := {}              -- check state 4520.01 | 8 | 10 Table 10-12 | 0
  subst : List Nat := [0, 1, 2, 3] -- substitution table 4430.01 | 4 x 8 | 02 R65, 10 R306 | 0,1,2,3
  sideOld : Nat := 0               -- capo register SIDEOLD | 1 | 07 R196 | from the keep store
  sideNew : Nat := 0               -- capo register SIDENEW | 1 | 07 R196 | from the keep store
  bstar : Nat := 281474976710655   -- capo register BSTAR | 48 | 07 R196 | 2^48 - 1
  acked : Bool := false            -- armed change acknowledged | 1 | 07 R197 | false
  epoch : Nat := 0                 -- mode epoch reported | 32 | 01 R22 | 0
  epochNext : List (Nat × Nat) := [] -- epochs of opened mode changes not yet reported: first ordinal, epoch | 48,32 | 01 R22 | empty
  ordinals : List OrdinalMsg := [] -- ordinals received | - | 01 R22 | empty
  cur : Option Nat := none         -- batch walked | 48 | 05 R158 | none
  done : Option Nat := none        -- last batch completed | 48 | 16 Table 16-6 | none
  side : Nat := 0                  -- tab side walked | 1 | 05 R132 | 0
  next : Nat := 0                  -- STEPNO of the next step | 24 | 05 R134 | 0
  preds : List Bool := [true, true, true, true, true, true, true, true] -- P0 to P7 | 8 x 1 | 05 R141 | true
  limits : List Nat := [65535, 65535, 65535, 65535, 65535, 65535, 65535, 65535] -- L0 to L7 | 8 x 16 | 05 R141 | 65535
  tiles : List Nat := [65535, 65535, 65535, 65535] -- T0 to T3 | 4 x 16 | 05 R141 | NONE
  grants : List (Option Grant) := [none, none, none, none] -- grant beside each T | 13 each | 06 R170 | none
  banks : List Bank := [{}, {}, {}, {}] -- accumulator banks of bridges 0 to 3 | 32768 x 41 each | 05 R139 | 0, absent
  flight : List InFlight := []     -- steps issued and not complete | - | 05 R134 | empty
  dead : List (Nat × Nat) := []    -- runs that the core knows to be dead: ordinal, run | - | 05 R146 | empty
  deadFrom : List (Nat × Nat × Nat) := [] -- the next STEPNO when it learned of each: ordinal, run, STEPNO | - | 05 R146, 08 R235 | empty
  channels : List Token := []      -- held tokens of the sync port, oldest first | 16 x 8 | 05 R147 | empty
  moves : List (Nat × List BadWord) := [] -- MOVE steps that wait in the port behind one that waits for another device: STEPNO, bad words | 1 deep | 05 R134 | empty
  scenes : List (Nat × List BadWord) := [] -- SCENE steps that wait in the scene port for the warp of their batch, oldest first: STEPNO, bad words | 2 deep | 05 R134, 11 R341 | empty
  sync : List SyncJob := []        -- queue of the sync port, oldest first | 2 deep | 05 R134, R148 | empty
  crossing : List Token := []      -- tokens of other devices that wait at the handshake for room in their channel, oldest first | - | 05 R147 | empty
  inbound : List Token := []       -- tokens sent to the port that have not arrived | - | 05 R147 | empty
  lateFor : List (Nat × Nat × Nat) := [] -- WAITs that timed out and whose token has not come: ordinal, sender, channel | - | 05 R148 | empty
  splitAllow : Nat := 0            -- split allowance | 24 | 05 R153 | DESIGN CHOICE 0 (log 5)
  splitCount : Nat := 0            -- split count | 24 | 05 R153 | DESIGN CHOICE 0 (log 5)
  luts : List Lut := []            -- lookup tables held by the bridges | 5 x 2048 | 03 R95 | none
  probes : List Probe := []        -- PROBEs armed on a lost logical engine | - | 05 R140 | empty
  seed : Nat := 0                  -- per-boot sampling seed | 64 | 10 R278 | DESIGN CHOICE 0 until drawn (log 5)
  cal : Nat := 0                   -- oscillator cycles of the latest calibration interval | 24 | 01 R29 | DESIGN CHOICE 0 (log 5)
  journal : List JEntry := []      -- regeneration journal | - | 08 R234 | empty
  journalSubst : List (Nat × List Nat) := [] -- substitution table in force per journaled batch | - | 08 R234 | empty
  journalBad : List Nat := []      -- batches whose journal has a parity error | - | 08 R234 | empty
  marks : List Nat := []           -- MARKIDs of checkpoint MARKs completed in the batch | 16 each | 06 R171 | empty
  published : List (Nat × Nat × Nat) := [] -- run-end MARKs completed: run, descriptor, element count | - | 11 R329 | empty
  fenced : Bool := true            -- fence of R133 satisfied for the side in force | 1 | 05 R133 | true
  ring : List Nat := []            -- tab blocks in the tab buffer | 8 blocks of 256 steps, 64 KiB | 01 R17, 05 R155 | empty
  outgoing : List (Nat × Token) := [] -- replay buffer: tokens that crossings have not acknowledged, with the destination | - | 01 R18, 10 R270 | empty
  refetch : Bool := false          -- the tab side is being fetched again (R156) | 1 | 05 R156 | false
  droneLive : Option Drone := none -- live DRONE step | - | 05 R154 | none
  deriving DecidableEq, Repr

/-- A memory that lines belong to. -/
inductive Area where
  | sram (core : Nat)
  | sb (cl : Nat)
  | dram
  | bdsram
  | slow (side : Nat)
  | frame (stream buf : Nat)
  | scene                     -- scene-grid contexts, one line a cell (poison tags only)
  | imports (stream buf : Nat) -- an import tensor (poison tags only)
  | remote (unit : Nat)       -- memory of another device, as a captured write names it; nothing is stored here
  deriving DecidableEq, Repr

/-- A captured write of a duplicate grant (06_mapping_and_tiles.md R172). -/
structure DupWrite where
  n : Nat                          -- number granted twice
  area : Area                      -- where its destination lies
  addr : Nat
  bytes : Bytes
  deriving DecidableEq, Repr

/-- One bank of a work counter (06_mapping_and_tiles.md R169). -/
structure CtrBank where
  state : BankState := .closed     -- bank state | 2 | 06 R174 | closed
  ordinal : Nat := 0               -- ordinal served | 48 | 06 R169 | 0
  next : Nat := 0                  -- next grant number | 13 | 06 R169 | 0
  granted : List Nat := []         -- numbers with GRANTED set | 4096 | 06 R169 | empty
  done : List Nat := []            -- numbers with DONE set | 4096 | 06 R169 | empty
  captures : List DupWrite := []   -- captured writes of duplicate grants | - | 06 R172 | empty
  sent : List DupWrite := []       -- lines that its grants sent to another device, for the close check | - | 06 R173 | empty
  closed : List Nat := []          -- takers that completed the CLOSEID MARK | 8 | 06 R173 | empty
  withdrawn : List Nat := []       -- takers withdrawn for the batch | 8 | 06 R175 | empty
  deriving DecidableEq, Repr

/-- One cluster: work counters, array, shared unit. -/
structure Cluster where
  accepted : List Nat := []        -- ordinals accepted, latest first | 48 each | 06 R169 | empty
  banks : Tbl CtrBank := []        -- work-counter banks, key counter*2 + b mod 2 | - | 06 R169 | closed
  arrayCheck : Check := {}         -- array check state 4600.01 | 8 | 10 Table 10-12 | 0
  sharedCheck : Check := {}        -- shared-unit check state 4600.02 | 8 | 10 Table 10-12 | 0
  owner : Option Nat := none       -- core whose DIG step holds the array | 3 | 04 R127 | none
  waiters : List Nat := []         -- cores with a DIG step waiting | 8 | 04 R127 | empty
  arrClass : Nat := 0              -- class running on the array, 0 none | 3 | 04 R126 | 0
  accBanks : Tbl (List (List Int)) := [] -- accumulators of the last tile of a class, key class | 64 x 256 each | 04 R126 | empty
  droneCut : Bool := false         -- an array drone was cut short and repeats | 1 | 04 R128 | false
  droneAt : Option Nat := none     -- batch of the last complete array drone | 48 | 04 R128 | none
  dupEqual : Nat := 0              -- captures of duplicate grants found equal and discarded | count | 06 R173 | 0
  checkLines : Nat := 0            -- checking-area lines in use | 16 | 16 Table 16-7 | 0
  deriving DecidableEq, Repr

/-- The output codes of a bank that a BRIDGE step formed from a captured tile, and what its checker forms them from again
(04_digital_arrays.md R123, R124). -/
structure CodeCapture where
  desc : Bytes                     -- the tile's bridge descriptor
  lut : Bytes                      -- its lookup table
  out0 : Nat
  outs : Nat
  rest : List (List (Option Int))  -- what the other steps added into the bank; none where no entry is present
  codes : List (List (Option Int)) -- the codes as the bridge formed them
  deriving DecidableEq, Repr

/-- A checked tile on its way to a verdict (10_fault_containment.md R286 to R289). -/
structure CheckedTile where
  id : Nat
  state : VerdictState
  site : Option Nat                -- engine site of the primary, none for an array primary
  cluster : Nat                    -- cluster of the primary
  core : Nat
  stepno : Nat
  ordinal : Nat
  run : Option Nat                 -- none for a drone
  word : StepWord
  inputs : List (List Int)
  accs : List (List Int)           -- captured accumulators of the primary
  codes : List CodeCapture         -- the bridge's output codes, once a BRIDGE step has formed them | 04 R123
  dup : List (List Int)            -- results of the duplicate execution
  checker : UnitId                 -- duplicate unit
  third : Option Nat               -- cluster of the third execution
  treg : Nat                       -- tile register value of its step
  lines : Nat                      -- lines of the checking area that it holds
  given : Bool                     -- `inputs` are the exact results themselves (a DIG step, a drone)
  accsOk : Bool := false           -- its accumulators have been compared and agree; its codes are still due (log 84)
  deriving DecidableEq, Repr

/-- A published tensor (11_cameras_results_scene.md R329, R330). -/
structure Tensor where
  no : Nat
  fmt : Nat
  count : Nat
  bytes : Bytes
  deriving DecidableEq, Repr

/-- One run of one batch (08_bit_identity_and_seals.md, 10 R288 to R291, 12 R374). -/
structure RunRec where
  ordinal : Nat
  run : Nat
  cause : Nat                      -- VOIDCAUSE, 0 while live
  corrected : Bool
  stale : Bool
  decisions : List Decision
  ended : List Nat                 -- cores that completed the last step of the run
  completes : List Nat             -- members whose COMPLETE arrived
  settledBy : List Nat             -- members whose verdicts of the run are done
  status : Option RunStatus        -- published status
  block : Bytes                    -- seal block of the published status
  sealBytes : Bytes                -- result seal
  final : Bool                     -- the seal is final
  retracts : Nat                   -- retraction datagrams sent
  payload : List Tensor            -- tensors published
  deriving DecidableEq, Repr

/-- One frame of a stream in one of its buffers (11_cameras_results_scene.md R316, R322). -/
structure Frame where
  stream : Nat
  buf : Nat
  seq : Nat
  digest : Bytes
  complete : Bool
  lines : Nat                      -- SRCH long packets received with good CRC
  bad : Bool                       -- broken by CRC, width or header error
  set : Option (Nat × Nat)         -- capture set that it belongs to, by the set's first frame
  cfg : Bytes                      -- stream configuration under which it is received (R324)
  samples : List (List Nat)        -- source lines received
  deriving DecidableEq, Repr

/-- A capture set (R317). -/
structure CapSet where
  first : Nat × Nat                -- stream and sequence number of its first frame
  buf : Nat                        -- buffer of each stream that its frames go to (R322)
  cfg : List (Nat × Bytes)         -- intake settings under which it began (R324)
  taken : List Nat                 -- streams whose frame start fell into the window
  frames : List Frame              -- complete frames
  windowOpen : Bool
  deadline : Bool                  -- the batch deadline has expired
  deriving DecidableEq, Repr

/-- A scatter update (11_cameras_results_scene.md R343). -/
structure Update where
  cell : Nat
  source : Nat
  run : Nat
  record : Bytes
  deriving DecidableEq, Repr

/-- An import tensor that a batch uses (R327). -/
structure ImportUse where
  stream : Nat
  seq : Nat
  digest : Bytes
  buf : Nat                        -- buffer that holds it (R326)
  deriving DecidableEq, Repr

/-- One opened batch (11_cameras_results_scene.md R318, R339 to R344). -/
structure Batch where
  ordinal : Nat
  epoch : Nat
  frames : List Frame
  absent : List Nat                -- absent streams
  buf : Option Nat                 -- frame buffer in use (R322)
  inputCfg : List (Nat × Bytes)    -- intake settings of the batch (R324)
  imports : List ImportUse         -- import tensors used
  ego : Option Bool                -- ego-motion decision (none while open)
  motion : Int × Int × Int         -- DYAW, DX, DY applied
  egoMsgs : List (Nat × Bytes)     -- messages that entered the sum: SEQ, digest
  fresh : Bool                     -- its image has another PROGID than the image before: the grid starts afresh (R335)
  warped : Bool
  warping : Bool
  updates : List Update            -- scatter updates (R343)
  applied : Bool                   -- updates applied (R344)
  fraction : Nat                   -- duplicate fraction in force
  policy : Nat                     -- release policy in force
  ended : List Nat                 -- cores that completed END
  replayed : Bool
  decisions : List Decision        -- recorded decisions of a replayed batch
  released : Bool                  -- frame buffers released (R322)
  exported : Bool                  -- top-down export due and sent
  temps : List Int                 -- sensor readings at the opening (09 R247)
  deriving DecidableEq, Repr

/-- An armed device-wide mode change (07 R196 to R199; 10 R281; 11 R324). Codes of 5000.09. -/
structure Change where
  state : Nat := 0                 -- 0 idle, 1 armed, 2 committed, 3 withdrawn, 4 refused
  bstar : Nat := 0
  staged : List (Nat × Bytes) := [] -- values staged at the arm
  deriving DecidableEq, Repr

/-- An import stream: the tensor being gathered and the latest complete one (11_cameras_results_scene.md R326, R327). -/
structure ImportStream where
  seq : Option Nat := none           -- SEQ being gathered
  parts : List (Nat × Bytes) := []   -- parts received
  doneSeq : Option Nat := none       -- SEQ of the latest complete tensor
  tensor : Bytes := []
  digest : Bytes := []               -- SHAKE256 of its bytes as accepted (08 R226)
  buf : Nat := 0                     -- buffer that holds it
  firstUse : Option Nat := none      -- ordinal of the first batch that used it
  deriving DecidableEq, Repr

/-- A recorded input that is being written to 3050.01 (08_bit_identity_and_seals.md R240): its first 8 bytes, the lines of a frame that have
passed into intake, and the bytes that have not. -/
structure ReplayIn where
  head : Bytes := []
  rows : List (List Nat) := []
  rest : Bytes := []
  deriving DecidableEq, Repr

/-- A replay batch descriptor that was written (08_bit_identity_and_seals.md R240). -/
structure ReplayBatch where
  ordinal : Nat
  absent : Nat
  records : List Decision
  deriving DecidableEq, Repr

/-- The walk and its batches. -/
structure Walk where
  batches : List Batch             -- opened batches still alive, latest first | - | 00 R15 | empty
  runs : List RunRec               -- runs of those batches | - | 00 R15 | empty
  tiles : List CheckedTile         -- checked tiles without a final verdict | - | 10 R288 | empty
  tileNo : Nat                     -- number of the next checked tile | - | 10 R288 | 0
  policy : Change                  -- policy change 5000.09 | 8 | 10 R281 | idle
  fraction : Nat                   -- active fraction 5000.05 | 8 | 10 R306 | 0x02
  release : Nat                    -- active release policy 5000.06 | 8 | 10 R306 | 0x00
  intake : Change                  -- intake change 3000.0B | 8 | 11 R324 | idle
  intakeCfg : List (Nat × Bytes)   -- intake settings in force, key index*256+sub | - | 11 R324 | empty (defaults)
  tuningCfg : List Nat             -- tuning settings 8000.01 to 8000.04 in force | 8,32,16,16 | 09 R267 | 6,4096,4,1024
  sets : List CapSet               -- capture sets, newest first | at most 2 waiting | 11 R317 | empty
  filling : List Frame             -- frames being received, outside or inside a set | - | 11 R313 | empty
  window : Option (Nat × Nat)      -- first frame of the set whose capture window is open | - | 11 R317 | none
  windowSet : Option CapSet        -- the set whose window is open, as it began, with the streams taken in it | - | 11 R317 | none
  periodDue : Bool                 -- a periodic opening is due | 1 | 11 R321 | false
  frameSeq : Tbl Nat               -- frame sequence number per stream | 32 | 11 R313 | 0
  lost : List Nat                  -- LOST streams 3040.01 | 32 | 11 R320 | empty
  goodRun : Tbl Nat                -- consecutive complete frames of a LOST stream | 2 | 11 R320 | 0
  csiDiscards : Nat                -- packets discarded and counted | count | 11 R312 | 0
  csiCorrected : Nat               -- header ECC corrections counted | count | 11 R312 | 0
  csiIgnored : Nat                 -- frame starts counted and ignored | count | 11 R317 | 0
  csiLate : Nat                    -- late frames counted | count | 11 R318 | 0
  replay : Bool                    -- replay mode | 1 | 08 R239 | false
  replayBoot : Nat                 -- BOOTCOUNT of the recorded boot | 32 | 08 R239 | 0
  replayNext : Option ReplayBatch  -- descriptor written | - | 08 R240 | none
  replayIn : ReplayIn              -- recorded input being written | - | 08 R240, 13 R396 | empty
  replayLast : Option Nat          -- last ordinal replayed | 48 | 08 R242 | none
  liveOpen : Option Nat            -- latest live ordinal while replay mode runs | 48 | 08 R242, log 32 | none
  imports : Tbl ImportStream       -- import streams | - | 11 R326 | empty
  deriving DecidableEq, Repr

/-- A manifest entry as parsed (07_weight_courses.md Table 07-2) and its state. -/
structure Entry where
  kind : Nat
  unit : Nat
  leng : Nat
  offset : Nat
  length : Nat
  target : Nat
  digest : Bytes
  verified : Bool
  source : Option Nat := none      -- source of an object that is here and good by itself, until its tab is (R185)
  asked : Option Nat := none       -- source that is asked now (R188)
  tried : List Nat                 -- sources that have failed in this pass of the list
  round : Nat                      -- 0 first pass of the source list, 1 second
  deriving DecidableEq, Repr

/-- An image: its identity and its entries (R179 to R181). -/
structure Image where
  progid : Nat
  imgseq : Nat
  digest : Bytes                   -- SHAKE256 of the manifest
  keyid : Bytes
  groupsize : Nat
  devno : Nat
  arrange : Nat
  replset : Nat
  entries : List Entry
  deriving DecidableEq, Repr

/-- The capo and its images. -/
structure Capo where
  state : CapoState                -- capo state 2200.03 | 8 | 07 R204 | idle
  side : Nat                       -- selected side 2200.04 | 8 | 07 R206 | from the keep store (DESIGN CHOICE 0, log 5)
  outcome : Nat                    -- last capo outcome 2200.05 | 8 | 07 R206 | 0
  bstar : Nat                      -- B* of the armed switch | 48 | 07 R196 | 2^48 - 1
  armDone : Bool                   -- the arm is complete | 1 | 07 R197 | false
  refresh : Bool                   -- the armed switch is a refresh switch | 1 | 07 R214 | false
  rejected : Bool                  -- the latest manifest delivered was rejected | 1 | 07 R183, 12 R377 | false
  mirror : Bool                    -- the staged image is a mirror | 1 | 07 R214 | false
  staged : Option Image            -- staged image identity 2210.03 | - | 07 R206 | none, reads zeros
  former : Option Image            -- image of the old side while it is not released | - | 07 R202 | none
  stagedRaw : Bytes                -- its manifest as it was accepted | bytes | 07 R180, 14 R415 | empty
  selectedRaw : Bytes              -- manifest of the selected image | bytes | 14 R415 | empty
  selected : Option Image          -- selected image 2210.04 | - | 07 R206 | from the keep store, none
  selDigest : Bytes                -- manifest digest recorded with the selected image | 256 | 07 R206 | empty, kept
  objects : Tbl Bytes              -- programme objects verified, key side*8192 + entry number | - | 07 R186 | empty
  objectHead : Bytes               -- first bytes of the image data transfer, its image offset | 64 | 07 R187 | empty
  arrived : List (Nat × Nat)       -- delivered ranges of the image: offset, length | - | 07 R187 | empty
  vppQueue : List (Nat × Nat)      -- planes whose loop waits for admission, with its declared current | - | 07 R193 | empty
  delivery : Mem                   -- DRAM delivery region | bytes | 07 R187 | empty
  manifestBuf : Bytes              -- manifest being delivered | bytes | 07 R187 | empty
  neighbours : List (Nat × Bytes)  -- objects offered: device, digest | - | 07 R187 | empty
  corrupt : Tbl Nat                -- corrupt objects supplied per neighbour in this staging | count | 07 R188 | 0
  excluded : List Nat              -- neighbours excluded in this staging | 24 | 07 R188 | empty
  late : Nat                       -- arrivals discarded as late | count | 07 R188 | 0
  programOk : Bool                 -- the staged programme passed its load checks | 1 | 05 R131 | false
  programBad : Bool                -- the staged programme was rejected | 1 | 05 R131 | false
  incomplete : Nat                 -- incomplete epochs 2220.02 | 32 | 07 R209 | 0
  epochDigest : Option (Nat × Bytes) -- latest complete epoch digest | - | 07 R209 | none
  vppBad : Bool                    -- VPP_W absent or out of range | 1 | 17 R485 | false
  deriving DecidableEq, Repr

/-- One entry of a tab's buffer table (05_tablature.md R130). -/
structure Buf where
  space : Nat
  siderel : Bool
  unit : Nat
  base : Nat
  length : Nat
  deriving DecidableEq, Repr

/-- One tab image in force on a core's side (05_tablature.md R129), as parsed. -/
structure Tab where
  progid : Nat
  runmask : Nat
  seedmode : Bool
  seed : Nat
  descbase : Nat
  desclen : Nat
  descs : Bytes                    -- the descriptor section, as the DRAM copies hold it (03 R88)
  tabcache : Nat                   -- line of the soundboard copy of the step array (R129)
  tcen : Bool
  bufs : List Buf
  steps : List StepWord
  deriving DecidableEq, Repr

/-- The memories (05_tablature.md R509). -/
structure Memory where
  sram : Mem                       -- activation SRAM, core*2^20 + byte | 1 MiB per core | 01 R17 | DESIGN CHOICE 0 (log 6)
  sb : Mem                         -- soundboards, cluster*2^23 + byte | 8 MiB each | 01 R17 | DESIGN CHOICE 0 (log 6)
  bdsram : Mem                     -- programme window of base-die SRAM | bytes | 05 R509 | DESIGN CHOICE 0 (log 6)
  dram : Mem                       -- programme DRAM area | bytes | 05 R509 | DESIGN CHOICE 0 (log 6)
  slow : Mem                       -- slower-tier regions, first copies (channels c), side*2^35 + byte | bytes | 04 R120 | DESIGN CHOICE 0 (log 6)
  slowAlt : Mem                    -- their second copies (channels c + 4) | bytes | 04 R120 | DESIGN CHOICE 0 (log 6)
  frames : Mem                     -- frame region, (stream*3+buffer)*2^24 + byte | bytes | 11 R316 | DESIGN CHOICE 0 (log 6)
  imports : Mem                    -- import tensors, (stream*3+buffer)*2^23 + byte | bytes | 11 R326 | DESIGN CHOICE 0 (log 6)
  planes : Mem                     -- cells, (site*2+side)*2^17 + 68*row + column/8 | 69632 B each | 02 R36 | the drone plane pattern (10 R283)
  scales : Mem                     -- scale-table banks, (site*2+side)*4096 + byte | 4 KiB each | 03 R87 | QC 1, BIAS 0 (10 R283)
  lutWritten : List Nat            -- bridges (core*16 + bridge) whose loaded lookup table has been written since its load | 1280 | 03 R95 | empty
  parity : List Nat                -- stored words whose parity is bad, rising keys Area.lineKey * 16 + word | 1 per word | 01 R18, 10 R271 | empty
  poison : List Nat                -- poisoned lines, rising keys of Area.lineKey | 1 per line | 10 R272 | empty
  slowBad : List (Nat × Nat)       -- failed slower-tier copies: segment, copy | - | 04 R122 | empty
  tabBad : List (Nat × Nat)        -- failed copies of a step array: core*2 + side; 0 soundboard, 1 and 2 DRAM | - | 05 R156 | empty
  tabs : Tbl Tab                   -- tab images, core*2 + side | - | 05 R132 | none
  counters : Tbl (List (BitVec 128)) -- counter tables, cluster*2 + side | 16 x 128 | 06 R168 | none
  orders : Tbl (List Nat)          -- order tables, (cluster*2+side)*16 + counter | - | 06 R167 | none
  deriving DecidableEq, Repr

/-- An ego-motion message held for the next batch (R337). -/
structure EgoMsg where
  seq : Nat
  dyaw : Int
  dx : Int
  dy : Int
  digest : Bytes
  deriving DecidableEq, Repr

/-- The scene grid (11_cameras_results_scene.md). -/
structure Scene where
  grid : Tbl Bytes                 -- contexts that differ from the entering value, key 1024y + x | 64 B each | 11 R335 | entering value
  warped : Option Nat              -- ordinal of the batch the grid was warped for | 48 | 11 R341 | none
  egoSeq : Option Nat              -- latest SEQ held or applied in this boot | 64 | 11 R337 | none
  held : List EgoMsg               -- held messages | - | 11 R337 | empty
  egoLate : Nat                    -- messages discarded as late | count | 11 R339 | 0
  lastEgo : Option Bool            -- whether the previous batch had ego-motion | 1 | 11 R339 | none
  noEgoAll : Bool                  -- NOEGO of the cells that hold the entering value | 1 | 11 R341 | false
  exports : List (Nat × Bytes)     -- exports that are due, oldest first: batch, and its bytes after R344 | - | 11 R345 | empty
  liveSeq : Option Nat             -- egoSeq before replay mode was entered | 64 | 08 R240, log 32 | none
  deriving DecidableEq, Repr

/-- The last VALID result of a run (R331). -/
structure LastResult where
  block : Bytes
  payload : List Tensor
  deriving DecidableEq, Repr

/-- Publication (11_cameras_results_scene.md, 08 ledger). -/
structure Publish where
  macDown : List Nat               -- MACs whose link is down | 2 | 11 R334 | empty
  full : List Nat                  -- MACs whose transmit queue is full after the latest result | 2 | 11 R334 | empty
  dropped : Nat                    -- datagrams dropped | count | 11 R334 | 0
  retracts : Nat                   -- RETRACTS, retractions sent since boot | 32 | 11 R330 | 0
  retractLog : List (Nat × Nat × Bytes) -- retraction log 3120.01: ordinal, run, seal | last 64 | 11 R332 | empty
  lastResult : Tbl LastResult      -- last VALID result of each run | - | 11 R331 | none
  leaves : List (Nat × Nat × Bytes) -- final seals not yet ledgered: ordinal, run, seal | - | 08 R231 | empty
  ledgerFrom : Nat                 -- FIRSTORD of the open ledger range | 48 | 08 R230 | 0
  ledgerPrev : Bytes               -- PREV: SHAKE256 of the previous signed part | 256 | 08 R232 | zeros
  ledger : Bytes                   -- latest ledger 3140.01 | 3501 B | 08 R232 | empty
  sealList : List Bytes            -- ledger seal list 3140.02, two most recent, older first | - | 08 R232 | empty
  partialDue : Bool                -- a partial ledger is due | 1 | 08 R233 | false
  cfg : Tbl Bytes                  -- settings of 3100 and 3200 in force, key index*256+sub | - | 11 R347 | empty (defaults)
  deriving DecidableEq, Repr

/-- The value of an entry of a fault record's detail map (Table 10-8a, key 14). -/
inductive Detail where
  | num (n : Nat)
  | nums (l : List Nat)
  | bytes (b : Bytes)
  | counts (l : List (Nat × Nat))
  deriving DecidableEq, Repr

/-- A fault record as keys 0 to 14 of Table 10-8a. -/
structure Rec where
  boot : Nat := 0
  seq : Nat := 0
  kind : Nat
  severity : Nat
  detected : Option Nat := none
  exposed : Bool := false          -- key 6 present
  exposure : Option Nat := none
  unit : UnitId
  unit2 : Option UnitId := none
  run : Option Nat := none
  step : Option Nat := none
  reactions : List Nat := [0]
  state : DevState := .boot
  programme : Option (Nat × Nat) := none
  detail : List (Nat × Detail) := []  -- detail entries, keys rising
  deriving DecidableEq, Repr

/-- Fault records (10_fault_containment.md R302 to R306). -/
structure Faults where
  seq : Nat                        -- sequence number of the next record | 32 | 10 R302 | 0
  recs : List Rec                  -- records of this boot, latest first | - | 10 R306 | empty
  unacked : List Nat               -- seq of records of severity 2 or 3 not acknowledged | 32 each | 10 R306 | empty
  stored : List Bytes              -- stored records, oldest first | at most 4096 | 10 R305 | kept
  exported : Nat                   -- exports in the current second | 8 | 10 R305 | 0
  missed : Tbl Nat                 -- records not exported in the current second, per kind | count | 10 R305 | 0
  exportDrops : Nat                -- exports dropped at a link that is down | count | 10 R305 | 0
  allowance : Nat                  -- keep-store allowance for severity 0 and 1 | 6 | 10 R305 | 32
  deriving DecidableEq, Repr

/-- One log sector (15_keep_store.md R440). -/
structure Sector where
  secseq : Nat
  erases : Nat
  used : Nat                       -- bytes used
  closed : Bool
  retired : Bool
  deriving DecidableEq, Repr

/-- A record of the log (R441). -/
structure LogRec where
  sector : Nat
  offset : Nat                     -- where it begins in its sector
  type : Nat
  key : Nat
  seq : Nat
  payload : Bytes
  deriving DecidableEq, Repr

/-- A pending append (R443). -/
structure Append where
  cls : Nat
  type : Nat
  key : Nat
  payload : Bytes
  answer : Option Nat              -- number of the answer that waits for it
  deriving DecidableEq, Repr

/-- A lifetime counter (R451 to R453). -/
structure LifeCtr where
  base : Nat := 0                  -- base VALUE | 64 | 15 R453 | 0, kept
  gen : Nat := 0                   -- base GEN | 32 | 15 R453 | 0, kept
  headerGen : Option Nat := some 0 -- GEN of a valid sector header | 32 | 15 R453 | 0, kept
  unary : Nat := 0                 -- programmed bits that verify | 16 | 15 R453 | 0, kept
  pending : Nat := 0               -- increments waiting | count | 15 R453 | 0
  deriving DecidableEq, Repr

/-- The side-selected record (15_keep_store.md Table 15-4). -/
structure SideRec where
  side : Nat
  progid : Nat
  imgseq : Nat
  digest : Bytes
  deriving DecidableEq, Repr

/-- A window page being programmed: its number, the last loaded byte of each position. -/
structure PageJob where
  page : Nat
  bytes : List (Nat × Byte)
  answer : Option Nat              -- number of the answer that waits for it
  deriving DecidableEq, Repr

/-- The keep store: non-volatile, kept across reset and power loss (15_keep_store.md). -/
structure Keep where
  flash : Mem                      -- flash array, sector*4096 + byte | 16 MiB | 15 R438 | 0xFF, with factory headers in the counter sectors (DESIGN CHOICE, log 5), kept
  log : List LogRec                -- valid records, oldest first | - | 15 R442 | empty, kept
  sectors : Tbl Sector             -- log sectors that are not erased, key sector 16 to 4095 | - | 15 R440 | all erased
  head : Option Nat                -- sector being appended to | 12 | 15 R444 | none
  freed : List (Nat × Nat)         -- sectors erased by compaction with their ERASES, oldest first | - | 15 R445 | empty, kept
  recovery : List Nat              -- records that the next recovery writes, by kind | - | 15 Table 15-7 | empty, kept
  nextFresh : Nat                  -- next sector never opened | 12 | 15 R439 | 16
  seq : Nat                        -- highest SEQ | 64 | 15 R441 | 0, kept
  pending : List Append            -- appends waiting, oldest first | - | 15 R443 | empty
  compacting : Option (Nat × Nat)  -- victim sector and stage: 0 start, 1 copied, 2 erased | - | 15 R445 | none
  eraseFails : Nat                 -- failed erases of the victim | 2 | 15 R446 | 0
  compactions : Nat                -- COMPACTIONS | 32 | 15 R463 | 0
  appendVol : Nat                  -- APPENDVOL | 64 | 15 R461 | 0, kept
  volWarned : Bool                 -- record 0x64 written | 1 | 15 R461 | false, kept
  limited : Bool                   -- STATE class 1 only | 2 | 15 R462 | false
  retired : Nat                    -- RETIRED sectors | 16 | 15 R446 | 0, kept
  flags : Nat                      -- ROLLEDBACK, COMPLETED, WEAKBIT, REBUILT | 4 | 15 R463 | 0
  counters : Tbl LifeCtr           -- lifetime counters 0 to 6 | - | 15 R451 | 0, kept
  kept : Tbl Bytes                 -- kept object values in force, key index*256+sub | - | 15 R442 | empty, kept
  sideRec : Option SideRec         -- side-selected record | - | 15 Table 15-4 | none, kept
  retirements : List UnitId        -- retirement records | - | 15 Table 15-4 | empty, kept
  setBuf : List (Nat × Bytes)      -- open tuning set: site, entry bytes | at most 32 | 15 R447 | empty
  chained : List Nat               -- sites whose chain is not empty | 1280 | 15 R446 | empty, kept
  window : Mem                     -- compatibility window | 64 KiB | 15 R438 | 0xFF, kept
  writeCounts : Tbl Nat            -- window write counts 6100.05 | 1024 x 32 | 15 R459 | 0, kept
  interrupted : Nat                -- interrupted page 6100.03 | 16 | 15 R458 | 0xFFFF, kept
  page : Option PageJob            -- page being programmed | - | 15 R455 | none
  segPage : List (Nat × Byte)      -- bytes of 6100.01 loaded and not yet programmed | 64 | 15 R456 | empty
  pageQueue : List PageJob         -- pages waiting for programming | - | 15 R456 | empty
  protect : Nat                    -- block protect 6100.02 | 8 | 15 R457 | 0, kept
  oldProtect : Nat                 -- the other copy of block protect | 8 | 15 R457 | 0, kept
  protectBusy : Bool               -- the copy in force is not known to be completely written | 1 | 15 R457, log 92 | false
  hist : Tbl Nat                   -- lifetime histogram bins, key number*512 + bin | 64 each | 15 R460 | 0, kept
  deriving DecidableEq, Repr

/-- Boot flash and fuses: non-volatile (14_boot_and_trust.md). -/
structure Flash where
  dirs : List Bytes                -- directory copies 0 and 1, the 64-byte records of Table 14-3 | 2 x 512 | 14 R416 | DESIGN CHOICE no record in either (log 5), kept
  dirBusy : Option Nat             -- directory copy whose write is not known to be complete | 1 | 14 R416, log 92 | none, kept
  slots : List FwSlot              -- firmware slots 0, 1 and the recovery area | 4, 4 and 2 MiB | 14 R415, R417 | empty, kept
  romBuf : Bytes                   -- slot image that ROM recovery is taking | bytes | 14 R421 | empty
  delivered : Option Bool          -- whether the last firmware delivery passed | 1 | 14 R431 | none
  deliveryAt : Nat                 -- bytes of the firmware delivery accepted | 23 | 14 R431 | 0
  activateNext : Bool              -- a new slot is activated for the next reset | 1 | 14 R431 | false
  images : List (Nat × Image)      -- image slots as parsed | 2 x 120 MiB | 14 R415 | empty, kept
  manifests : Tbl Bytes            -- their manifests, at offset 0 of each slot | bytes | 14 R415 | empty, kept
  objects : Tbl Bytes              -- objects of the image slots, key slot*8192 + entry number | - | 14 R415 | empty, kept
  armed : Bytes                    -- manifest digest of an image whose switch was armed and has not been withdrawn or selected | 256 | 07 R205, log 93 | empty, kept
  arb : List (Option Nat)          -- anti-rollback rows programmed (none: CRC failed) | 64 x 96 | 14 R422 | empty, fused
  fuseBusy : Bool                  -- the last row's programming is not known to be complete | 1 | 14 R424, log 92 | false
  rootFuse : Bytes                 -- first 32 bytes of SHAKE256 over both Kryvan root keys | 256 | 14 R423 | DESIGN CHOICE that of 1,984 zero bytes (log 5), fused
  dik : Bytes                      -- device identity key, wrapped under the key that the UDS gives | 512 | 14 R425 | DESIGN CHOICE zeros (log 5), kept
  provisioned : Bool               -- provisioning fuse blown | 1 | 14 R429 | false, fused
  uds : Bytes                      -- unique device secret | 256 | 14 R425 | DESIGN CHOICE zeros (log 5), fused
  clientKeys : Tbl Bytes           -- client key slots 9010.01 | 8 x 2048 B | 13 R399 | empty, kept
  imageKeys : Tbl Bytes            -- image key table 9040.01 | 8 x 2048 B | 14 R430 | empty, kept
  deriving DecidableEq, Repr

/-- One MACsec secure association. -/
structure Sa where
  sci : Bytes
  sak : Bytes
  pn : Nat                         -- next PN (transmit) or lowest acceptable PN base (receive)
  installed : Bool
  deriving DecidableEq, Repr

/-- MACsec (14_boot_and_trust.md R434, R435). -/
structure Macsec where
  txSci : Tbl Bytes                -- transmit SCI per MAC | 64 | 14 R436 | DESIGN CHOICE empty (log 5)
  txAn : Tbl Nat                   -- transmit AN per MAC | 1 | 14 R435 | DESIGN CHOICE 0 (log 5)
  sas : Tbl Sa                     -- secure associations, key mac*16 + (transmit AN 0,1 then channel*2+AN) | - | 14 R434 | none installed
  stopped : List Nat               -- MACs whose transmission is stopped | 2 | 14 R435 | empty
  nearWarned : List Nat            -- MACs for which record 0x4A was written for the SA | 2 | 14 R435 | empty
  stopTold : List Nat              -- MACs for which record 0x4B was written for the stop | 2 | 14 R435 | empty
  marks : Tbl Nat                  -- PN high-water marks, key mac*16 + SA | 32 | 14 R435 | 0, kept
  deriving DecidableEq, Repr

/-- A flit in the replay buffer, or waiting for a credit (12_exham_group.md R354, R357). -/
structure Held where
  seq : Nat                        -- sequence number, 0 while it waits
  kind : Nat
  cls : Nat
  poison : Nat
  dst : Nat                        -- destination device
  plain : Bytes                    -- payload
  wire : Bytes                     -- the 272 bytes as they were sent, empty while it waits
  deriving DecidableEq, Repr

/-- One Exham port. -/
structure Port where
  state : PortState := .disabled   -- port state A000.03 | 8 | 12 R360 | disabled
  txSeq : Nat := 0                 -- next sequence number sent | 64 | 12 R354 | 0
  rxSeq : Nat := 0                 -- next sequence number expected | 64 | 12 R354 | 0
  unacked : List Held := []        -- replay buffer | at most 512 | 12 R354 | empty
  queue : List Held := []          -- flits waiting for a credit or for the replay buffer, oldest first | - | 12 R357 | empty
  turn : Nat := 0                  -- class of 0 and 1 that is served next | 1 | 12 R357 | DESIGN CHOICE 0 (log 5)
  fwd : List Nat := [24, 24, 24, 24] -- destination of the message being received per class, 24 none | 5 each | 12 R365 | none
  fwdLeft : List Nat := [0, 0, 0, 0] -- flits of that message still to come per class | - | 12 R371 | 0
  fwdHeld : List Held := []        -- flits of messages for other devices whose last flit has not come, per class in order | - | 12 R365, R371 | empty
  nak : Bool := false              -- NAK due in the next flit | 1 | 12 R356 | false
  replays : Nat := 0               -- replays of the oldest held flit | 4 | 12 R358 | 0
  credits : List Nat := [0, 0, 0, 0] -- credits held per class | 7 each | 12 R357 | 0
  owed : List Nat := [0, 0, 0, 0]  -- credits to return per class | 7 each | 12 R357 | 0
  quarantines : Nat := 0           -- quarantines in this boot | 2 | 12 R360 | 0
  partner : Option (Nat × Nat) := none -- partner device and port from its HELLO | 8,8 | 12 R361 | none
  helloRx : Bytes := []            -- partner HELLO | bytes | 12 R361 | empty
  helloTx : Bytes := []            -- own HELLO | bytes | 12 R361 | empty
  evidenceOk : Bool := false       -- partner evidence verified | 1 | 12 R361 | false
  seed : Bytes := []               -- ephemeral seed of the key exchange | bytes | 12 R362 | empty
  keyTx : Bytes := []              -- key and salt of the sending direction | 36 B | 12 R362 | empty
  keyRx : Bytes := []              -- key and salt of the receiving direction | 36 B | 12 R362 | empty
  nextTx : Bytes := []             -- new sending key of a rekey | 36 B | 12 R363 | empty
  nextRx : Bytes := []             -- new receiving key of a rekey | 36 B | 12 R363 | empty
  rekeying : Bool := false         -- a rekey is under way | 1 | 12 R363 | false
  starving : List Nat := []        -- classes starving | 4 | 12 R359 | empty
  deriving DecidableEq, Repr

/-- End-to-end state of one sending member (12_exham_group.md R369). -/
structure Peer where
  next : Nat := 0                  -- ESEQ expected | 32 | 12 R369 | 0
  lines : Nat := 0                 -- lines of the WRITE in progress already applied | 32 | 12 R369 | 0
  early : List Instr := []         -- messages that arrived ahead of their turn | - | 12 R369 | empty
  sent : Nat := 0                  -- ESEQ of the next message sent to the member | 32 | 12 R369 | 0
  deriving DecidableEq, Repr

/-- A window of the receive table (12_exham_group.md R372). -/
structure Window where
  run : Nat
  space : Nat
  unit : Nat
  first : Nat
  lines : Nat
  deriving DecidableEq, Repr

/-- A READY held at the leader (R373). -/
structure ReadyMsg where
  member : Nat
  set : Nat
  absent : Nat
  aftercare : Bool
  deriving DecidableEq, Repr

/-- A group-wide change that is armed (R376). -/
structure GroupArm where
  kind : Nat
  bstar : Nat
  epoch : Nat
  answer : Option Nat              -- number of the answer that waits for the members
  acks : List Nat                  -- members that accepted
  deriving DecidableEq, Repr

/-- The run tables that were collected for an image (12_exham_group.md R372). -/
structure RunTable where
  progid : Nat
  imgseq : Nat
  rows : List RunRow
  deriving DecidableEq, Repr

/-- Exham ports and the group (12_exham_group.md). -/
structure Group where
  devno : Nat                      -- device number in force | 5 | 12 R383 | 0
  arrange : Nat                    -- arrangement in force A000.02 | 32 | 12 R364 | 0
  ports : Tbl Port                 -- ports 0 to 5 | - | 12 R360 | disabled
  peers : Tbl Peer                 -- end-to-end sequences per member | - | 12 R369 | 0
  formed : Bool                    -- the group is formed and serves (true for a standalone device) | 1 | 12 R372 | true
  members : List Nat               -- members present A010.04 | 24 | 12 R383 | empty, reads 0
  memberStates : Tbl Nat           -- member states A010.06 | 8 each | 12 R383 | 0
  leader : Nat                     -- leader A010.05 | 8 | 12 R372 | 0
  windows : List Window            -- receive table | - | 12 R372 | empty
  depends : List (Nat × Nat)       -- (run, member) pairs of the run table | - | 12 R372 | empty
  readyFor : List ReadyMsg         -- READY held per member | - | 12 R373 | empty
  fences : List Nat                -- members whose FENCE is held | 24 | 12 R377 | empty
  armed : List GroupArm            -- group-wide changes armed, one of a kind | - | 12 R376 | empty
  sealLost : Bool                  -- a SEALLOST arrived | 1 | 12 R376 | false
  digests : List (Nat × Nat × Bytes) -- replica digests: device, epoch, digest | - | 10 R298 | empty
  publishers : List Nat            -- publishing member of each run, 255 none | 16 x 8 | 12 R372 | empty
  ids : List MemberId              -- image identities of the members | - | 12 R372 | empty
  tables : List RunTable           -- the members' run tables, by programme | - | 12 R372 | empty
  joinPending : List (Nat × Nat)   -- members admitted at B*: member, B* (2^48 - 1 until an ARM gives it) | - | 12 R378 | empty
  deriving DecidableEq, Repr

/-- Supplies and monitors (17_electrical_package.md). -/
structure Power where
  v : Nat                          -- VDD_CE setpoint B000.03, mV | 16 | 17 R486 | 750
  current : Nat                    -- VDD_CE current B000.06, 0.1 A | 16 | 17 R505 | DESIGN CHOICE 0 (log 5)
  rails : List Nat                 -- rail voltages B000.02, mV | 10 x 16 | 17 R484 | DESIGN CHOICE zeros (log 5)
  railBad : List Nat               -- rails beyond a fault level in the last sample; 10 VPP_W above 2.45 V, 11 VDD_BD below 0.81 V | 12 | 17 R499 | empty
  railFault : List Nat             -- rails in fault, with the same codes | 12 | 17 R499 | empty
  railGood : Nat                   -- consecutive samples with every rail in range, to 10000 (100 ms) | 14 | 10 Table 10-13 | 0
  temps : List Int                 -- temperatures B000.01, 1/16 C | 72 x 16 | 17 R498 | DESIGN CHOICE zeros (log 5)
  sensorFail : List Nat            -- sensors marked failed B000.04 | 72 | 17 R498 | empty
  throttle : Bool                  -- throttle state B010.03 | 1 | 17 R487 | false
  hotWarned : Bool                 -- record 0x54 written for this excursion | 1 | 17 R497 | false
  noAnswer : Nat                   -- consecutive AVSBus transactions unanswered | 2 | 17 R489 | 0
  avsStopped : Bool                -- setpoint writes stopped | 1 | 17 R489 | false
  powerMs : Nat                    -- adjustments until record 0x55 may be written again | 16 | 17 R488 | 0
  avsRead : Nat                    -- latest Voltage read over AVSBus, mV | 16 | 17 R486 | 750, the start-up value
  inlet : Option Int               -- coolant inlet B020.01, 1/16 C, while valid | 16 | 17 R496 | none, taken as 65 C
  crystalBad : Nat                 -- consecutive deviating tokens | 4 | 17 R495 | 0
  refLost : Bool                   -- 156.25 MHz reference lost | 1 | 17 R495 | false
  cals : Tbl Nat                   -- calibration count of the 378 timing domains, key Domain.number | 24 each | 01 R26, R29 | DESIGN CHOICE 0 (log 5)
  deriving DecidableEq, Repr

/-- An entry of the pass log (09_tuning_passes.md R267). -/
structure PassRec where
  ordinal : Nat
  site : Nat
  cause : PassCause
  passed : Bool
  staleMade : Bool
  boot : Nat
  deriving DecidableEq, Repr

/-- The state of the block. -/
structure State where
  pending : List Instr             -- commands waiting, first in first out | - | the block form | empty
  dev : Dev
  dict : Dict
  obs : Obs
  sites : Tbl Site                 -- engine sites, key site ordinal (default: Site with state active, or standby for site 4)
  planes : Tbl Plane               -- cell planes, key 2*site + side
  cores : Tbl Core                 -- cores, key core ordinal
  clusters : Tbl Cluster           -- clusters, key cluster ordinal
  walk : Walk
  capo : Capo
  mem : Memory
  scene : Scene
  pub : Publish
  faults : Faults
  keep : Keep
  flash : Flash
  macsec : Macsec
  group : Group
  power : Power
  passLog : List PassRec           -- pass log 8010.02, latest first | 256 | 09 R267 | empty
  tx : List Tx                     -- what the device has sent, oldest first | - | 13 R390, 11 R330 | empty
  deriving DecidableEq, Repr

/-- The machine right after reset, RESET_N still low: every volatile field at its reset value, every non-volatile field as
the part leaves the factory (assumption log entry 5 names the values the spec does not give). -/
def State.reset : State where
  pending := []
  dev :=
    { state := .boot, gradeB := false, clusterMask := 0xFFFFFFFF, stepping := 0xB1
      ordering := [76#8, 77#8, 45#8, 49#8, 48#8, 50#8, 52#8, 45#8, 65#8, 45#8, 81#8, 49#8, 45#8, 84#8, 0#8, 0#8]
      serial := List.replicate 16 0#8, resetHeld := true, testEn := false, abandoned := false, recovered := false
      bootStuck := false, bootPath := 0, slotsFailed := 0, debug := false, selftestRound := 0, entropyBad := false, noImage := false
      safeCauses := [], batchOpening := false, draining := false, drainReset := false, drained := false
      stopping := false, stopHang := none, priorState := .boot, unfrozen := [], bOpen := none, modeEpoch := 0
      lastOutcome := 0, bootCount := 0, fwver := 0, secver := 0, rollfwd := false, measure := [], certs := [], dikLocked := false, pairHalted := []
      straps := 0, safeNLow := false, thermNLow := false, pfailLow := false, freeCount := 0 }
  dict :=
    { settings := [], sessions := [], handshake := none, challenge := [], fails := [], locked := [], transfers := []
      rejection := {}, comm := [], memRead := {}, outbox := [], answerNo := 0 }
  obs :=
    { engine := [], core := [], event := [], link := [], proto := [], macsec := [], imports := [], eventSel := []
      epochNo := 0, epochMask := 0, epochBatch := none, epochUsed := false, epochCores := [], epochClusters := []
      epochBase := false, rings := [], ringSeq := [], traceEnable := 1, traceMode := 0, traceSources := 7, traceSize := 1, trace := []
      traceWritten := 0, traceDropped := 0, traceWraps := 0, watch := {}, watchState := 0
      watchData := [], dump := [], stats := [], statsAcc := [], batchSums := List.replicate 8 0 }
  sites := []
  planes := []
  cores := []
  clusters := []
  walk :=
    { batches := [], runs := [], tiles := [], tileNo := 0, policy := {}, fraction := 2, release := 0, intake := {}
      intakeCfg := [], window := none, windowSet := none, periodDue := false, tuningCfg := [6, 4096, 4, 1024], sets := [], filling := [], frameSeq := [], lost := [], goodRun := []
      csiDiscards := 0, csiCorrected := 0, csiIgnored := 0, csiLate := 0, replay := false, replayBoot := 0
      replayNext := none, replayIn := {}, replayLast := none, liveOpen := none, imports := [] }
  capo :=
    { state := .idle, side := 0, outcome := 0, bstar := 281474976710655, armDone := false, refresh := false
      rejected := false, mirror := false, staged := none, former := none, stagedRaw := [], selectedRaw := [], selected := none, selDigest := [], objects := [], delivery := [], arrived := [], objectHead := [], vppQueue := []
      manifestBuf := [], neighbours := [], corrupt := [], excluded := [], late := 0, programOk := false, programBad := false
      incomplete := 0, epochDigest := none, vppBad := false }
  mem :=
    { sram := [], sb := [], bdsram := [], dram := [], slow := [], slowAlt := [], frames := [], imports := [], planes := []
      scales := [], lutWritten := [], parity := [], poison := [], slowBad := [], tabBad := [], tabs := [], counters := [], orders := [] }
  scene :=
    { grid := [], warped := none, egoSeq := none, held := [], egoLate := 0, lastEgo := none, noEgoAll := false
      exports := [], liveSeq := none }
  pub :=
    { macDown := [], full := [], dropped := 0, retracts := 0, retractLog := [], lastResult := [], leaves := [], ledgerFrom := 0
      ledgerPrev := List.replicate 32 0#8, ledger := [], sealList := [], partialDue := false, cfg := [] }
  faults :=
    { seq := 0, recs := [], unacked := [], stored := [], exported := 0, missed := [], exportDrops := 0, allowance := 32 }
  keep :=
    { flash := [], log := [], sectors := [], head := none, freed := [], recovery := [], nextFresh := 16, seq := 0, pending := [], compacting := none
      eraseFails := 0, compactions := 0, appendVol := 0, volWarned := false, limited := false, retired := 0, flags := 0
      counters := [], kept := [], sideRec := none, retirements := [], setBuf := [], chained := [], window := []
      writeCounts := [], interrupted := 0xFFFF, page := none, segPage := [], pageQueue := [], protect := 0, oldProtect := 0, protectBusy := false, hist := [] }
  flash :=
    { dirs := [[], []], dirBusy := none, slots := [], romBuf := [], delivered := none, deliveryAt := 0, activateNext := false
      images := [], manifests := [], objects := [], armed := [], arb := [], fuseBusy := false, provisioned := false
      rootFuse :=
        [1#8, 43#8, 28#8, 29#8, 139#8, 106#8, 118#8, 160#8, 172#8, 78#8, 187#8, 53#8, 200#8, 104#8, 2#8, 137#8] ++
        [146#8, 8#8, 3#8, 140#8, 190#8, 223#8, 152#8, 218#8, 30#8, 7#8, 2#8, 143#8, 87#8, 21#8, 116#8, 97#8]
      dik := List.replicate 64 0#8
      uds := List.replicate 32 0#8, clientKeys := [], imageKeys := [] }
  macsec := { txSci := [], txAn := [], sas := [], stopped := [], nearWarned := [], stopTold := [], marks := [] }
  group :=
    { devno := 0, arrange := 0, ports := [], peers := [], formed := true, members := [], memberStates := [], leader := 0
      windows := [], depends := [], readyFor := [], fences := [], armed := [], sealLost := false
      digests := [], publishers := [], ids := [], tables := [], joinPending := [] }
  power :=
    { v := 750, current := 0, rails := List.replicate 10 0, railBad := [], railFault := [], railGood := 0
      temps := List.replicate 72 0, sensorFail := [], throttle := false, hotWarned := false, noAnswer := 0
      avsStopped := false, powerMs := 0, avsRead := 750, inlet := none, crystalBad := 0, refLost := false, cals := [] }
  passLog := []
  tx := []

end Sys2Proof.Machine
end

