-- ==== Sys2Proof/Machine/Ops.lean ====
section
/-!
DEFINITION. The named operations over the state: sparse tables, byte strings, access to units, counters, fault records,
keep-store appends and the answers of the dictionary. Everything later is written over these.
-/

namespace Sys2Proof.Machine

/-! ### Sparse tables and memories -/

/-- The entry of key `k`; an unlisted key reads as the default. -/
def tget {α : Type} (d : Nat → α) : Tbl α → Nat → α
  | [], k => d k
  | (j, v) :: t, k => if j = k then v else tget d t k

/-- Put an entry in front of a table, unless it is the default. -/
def tcons {α : Type} [DecidableEq α] (d : Nat → α) (k : Nat) (v : α) (t : Tbl α) : Tbl α :=
  if v = d k then t else (k, v) :: t

/-- Write an entry and keep the canonical form: keys strictly rising, no entry equal to its default. -/
def tput {α : Type} [DecidableEq α] (d : Nat → α) (k : Nat) (v : α) : Tbl α → Tbl α
  | [] => tcons d k v []
  | (j, w) :: t =>
    if k < j then tcons d k v ((j, w) :: t)
    else if j = k then tcons d k v t
    else (j, w) :: tput d k v t

/-- Change an entry. -/
def tmod {α : Type} [DecidableEq α] (d : Nat → α) (k : Nat) (f : α → α) (t : Tbl α) : Tbl α :=
  tput d k (f (tget d t k)) t

/-- Every key of the table is above `lo` (at or above it when `lo` is 0 stands for no bound). -/
def tAbove {α : Type} (lo : Nat) : Tbl α → Bool
  | [] => true
  | (j, _) :: t => lo < j && tAbove lo t

/-- The canonical form of a table. -/
def twf {α : Type} [DecidableEq α] (d : Nat → α) : Tbl α → Bool
  | [] => true
  | (j, v) :: t => tAbove j t && decide (v ≠ d j) && twf d t

/-- A table whose default is one value. -/
def tget0 {α : Type} (d : α) (t : Tbl α) (k : Nat) : α := tget (fun _ => d) t k

/-- Write an entry of a table whose default is one value. -/
def tput0 {α : Type} [DecidableEq α] (d : α) (k : Nat) (v : α) (t : Tbl α) : Tbl α := tput (fun _ => d) k v t

/-- Change an entry of a table whose default is one value. -/
def tmod0 {α : Type} [DecidableEq α] (d : α) (k : Nat) (f : α → α) (t : Tbl α) : Tbl α := tmod (fun _ => d) k f t

/-- `n` bytes of a memory from address `a`. -/
def mread (d : Nat → Byte) (m : Mem) (a n : Nat) : Bytes := (List.range n).map fun i => tget d m (a + i)

/-- Write bytes from address `a` upwards. -/
def mwrite (d : Nat → Byte) (a : Nat) : Bytes → Mem → Mem
  | [], m => m
  | b :: bs, m => mwrite d (a + 1) bs (tput d a b m)

/-- The canonical form of a memory. -/
abbrev Memory.wf (d : Nat → Byte) (m : Mem) : Bool := twf d m

/-! ### Bytes and numbers -/

/-- A number as `w` bytes, least significant first (00_scope.md R9). -/
def leBytes (w n : Nat) : Bytes := (List.range w).map fun i => BitVec.ofNat 8 (n / 256 ^ i)

/-- The number that bytes stand for, least significant first. -/
def leNat : Bytes → Nat
  | [] => 0
  | b :: bs => b.toNat + 256 * leNat bs

/-- Bits [hi:lo] of a number. -/
def bits (n hi lo : Nat) : Nat := n / 2 ^ lo % 2 ^ (hi + 1 - lo)

/-- One bit of a number. -/
def bit (n i : Nat) : Bool := n / 2 ^ i % 2 == 1

/-- The two's complement value of the low `w` bits. -/
def sext (w n : Nat) : Int :=
  let m := n % 2 ^ w
  if m < 2 ^ (w - 1) then (m : Int) else (m : Int) - (2 ^ w : Nat)

/-- The low `w` bits of a signed number. -/
def unsext (w : Nat) (i : Int) : Nat := (i % ((2 ^ w : Nat) : Int)).toNat

/-- A signed number as `w` bytes. -/
def leBytesI (w : Nat) (i : Int) : Bytes := leBytes w (unsext (8 * w) i)

/-- `n` bytes of a byte string from an offset; bytes past the end read 0. -/
def slice (b : Bytes) (off n : Nat) : Bytes := (List.range n).map fun i => b.getD (off + i) 0#8

/-- A number of `n` bytes at an offset. -/
def num (b : Bytes) (off n : Nat) : Nat := leNat (slice b off n)

/-- Zero bytes. -/
def zeros (n : Nat) : Bytes := List.replicate n 0#8

/-- Pad with zero bytes to a length. -/
def padTo (n : Nat) (b : Bytes) : Bytes := (b ++ zeros n).take (max n b.length)

/-- The big-endian form of `w` bytes (CBOR, RFC 8949). -/
def beBytes (w n : Nat) : Bytes := (leBytes w n).reverse

/-- The ASCII digits of a number. -/
def digits (n : Nat) : Bytes :=
  if n < 10 then [BitVec.ofNat 8 (48 + n)]
  else if n < 100 then [BitVec.ofNat 8 (48 + n / 10), BitVec.ofNat 8 (48 + n % 10)]
  else if n < 1000 then [BitVec.ofNat 8 (48 + n / 100), BitVec.ofNat 8 (48 + n / 10 % 10), BitVec.ofNat 8 (48 + n % 10)]
  else [BitVec.ofNat 8 (48 + n / 1000 % 10), BitVec.ofNat 8 (48 + n / 100 % 10), BitVec.ofNat 8 (48 + n / 10 % 10),
    BitVec.ofNat 8 (48 + n % 10)]

/-- A mask whose bit i says whether i is in the list. -/
def maskOf (n : Nat) (l : List Nat) : Nat := ((List.range n).map fun i => if l.contains i then 2 ^ i else 0).sum

/-- The numbers below `n` whose bit is set in a mask. -/
def listOf (n m : Nat) : List Nat := (List.range n).filter fun i => bit m i

/-- Put a number into a list that holds each number once. -/
def insertNew (n : Nat) (l : List Nat) : List Nat := if l.contains n then l else l ++ [n]

/-- 2^48 - 1, the ordinal that stands for none. -/
def ord48 : Nat := 281474976710655

/-! ### AES-256-GCM (13_malrov_dictionary.md R401) -/

/-- Encrypt, or decrypt: the bytes with the keystream added. -/
def gcmXor (key nonce data : Bytes) : Bytes := data.zipIdx.map fun e => e.1 ^^^ Config.gcmStream key nonce e.2

/-- The first `n` bytes of the tag over the additional data and the plaintext. -/
def gcmTagOf (n : Nat) (key nonce ad data : Bytes) : Bytes := padTo n ((Config.gcmTag key nonce ad data).take n)

/-- Seal a value that the device stores: nonce, ciphertext, tag (15_keep_store.md Table 15-4; log 91). -/
def gcmSeal (key nonce ad data : Bytes) : Bytes := nonce ++ gcmXor key nonce data ++ gcmTagOf 16 key nonce ad data

/-- Open a sealed value; none when its tag does not verify. -/
def gcmOpen (key ad b : Bytes) : Option Bytes :=
  let nonce := b.take 12
  let data := gcmXor key nonce ((b.drop 12).take (b.length - 28))
  if 28 ≤ b.length ∧ b.drop (b.length - 16) = gcmTagOf 16 key nonce ad data then some data else none

/-! ### Groups of the state -/

def State.onDev (f : Dev → Dev) (s : State) : State := { s with dev := f s.dev }
def State.onDict (f : Dict → Dict) (s : State) : State := { s with dict := f s.dict }
def State.onObs (f : Obs → Obs) (s : State) : State := { s with obs := f s.obs }
def State.onSites (f : Tbl Site → Tbl Site) (s : State) : State := { s with sites := f s.sites }
def State.onPlanes (f : Tbl Plane → Tbl Plane) (s : State) : State := { s with planes := f s.planes }
def State.onCores (f : Tbl Core → Tbl Core) (s : State) : State := { s with cores := f s.cores }
def State.onClusters (f : Tbl Cluster → Tbl Cluster) (s : State) : State := { s with clusters := f s.clusters }
def State.onWalk (f : Walk → Walk) (s : State) : State := { s with walk := f s.walk }
def State.onCapo (f : Capo → Capo) (s : State) : State := { s with capo := f s.capo }
def State.onMem (f : Memory → Memory) (s : State) : State := { s with mem := f s.mem }
def State.onScene (f : Scene → Scene) (s : State) : State := { s with scene := f s.scene }
def State.onPub (f : Publish → Publish) (s : State) : State := { s with pub := f s.pub }
def State.onFaults (f : Faults → Faults) (s : State) : State := { s with faults := f s.faults }
def State.onKeep (f : Keep → Keep) (s : State) : State := { s with keep := f s.keep }
def State.onFlash (f : Flash → Flash) (s : State) : State := { s with flash := f s.flash }
def State.onMacsec (f : Macsec → Macsec) (s : State) : State := { s with macsec := f s.macsec }
def State.onGroup (f : Group → Group) (s : State) : State := { s with group := f s.group }
def State.onPower (f : Power → Power) (s : State) : State := { s with power := f s.power }
def State.onPassLog (f : List PassRec → List PassRec) (s : State) : State := { s with passLog := f s.passLog }
def State.onTx (f : List Tx → List Tx) (s : State) : State := { s with tx := f s.tx }

/-- What the device sends goes to the end of the list. -/
def State.send (t : Tx) (s : State) : State := s.onTx (· ++ [t])

/-! ### Images of the two sides -/

/-- The image whose objects stand in a side's image region: the selected one; on the other side the former one until that side is released,
else the staged one. -/
def State.sideImage (s : State) (side : Nat) : Option Image :=
  if side = s.capo.side then s.capo.selected else if s.capo.state = .releasing then s.capo.former else s.capo.staged

def State.onSideImage (side : Nat) (f : Image → Image) (s : State) : State :=
  s.onCapo fun c =>
    if side = c.side then { c with selected := c.selected.map f }
    else if c.state = .releasing then { c with former := c.former.map f }
    else { c with staged := c.staged.map f }

/-- Entry n of a side's image. -/
def State.entryAt (s : State) (side n : Nat) : Option (Image × Entry) := (s.sideImage side).bind fun i => (i.entries[n]?).map fun e => (i, e)

def State.onEntryAt (side n : Nat) (f : Entry → Entry) (s : State) : State :=
  s.onSideImage side fun i => { i with entries := i.entries.mapIdx fun k e => if k = n then f e else e }

/-! ### Units -/

/-- The site that a table does not list: site 4 of a core is the standby (02_count_exact_crossbar.md Table 02-10). -/
def siteDefault (n : Nat) : Site := if n % 5 = 4 then { state := .standby } else {}

def State.site (s : State) (n : Nat) : Site := tget siteDefault s.sites n
def State.onSite (n : Nat) (f : Site → Site) (s : State) : State := s.onSites (tmod siteDefault n f)
def State.plane (s : State) (n : Nat) : Plane := tget0 {} s.planes n
def State.onPlane (n : Nat) (f : Plane → Plane) (s : State) : State := s.onPlanes (tmod0 {} n f)
def State.core (s : State) (n : Nat) : Core := tget0 {} s.cores n
def State.onCore (n : Nat) (f : Core → Core) (s : State) : State := s.onCores (tmod0 {} n f)
def State.cluster (s : State) (n : Nat) : Cluster := tget0 {} s.clusters n
def State.onCluster (n : Nat) (f : Cluster → Cluster) (s : State) : State := s.onClusters (tmod0 {} n f)
def State.port (s : State) (n : Nat) : Port := tget0 {} s.group.ports n
def State.onPort (n : Nat) (f : Port → Port) (s : State) : State :=
  s.onGroup fun g => { g with ports := tmod0 {} n f g.ports }
def State.peer (s : State) (n : Nat) : Peer := tget0 {} s.group.peers n
def State.onPeer (n : Nat) (f : Peer → Peer) (s : State) : State :=
  s.onGroup fun g => { g with peers := tmod0 {} n f g.peers }

/-- Active clusters take part; the others are unpowered (00_scope.md R2, 01_engine_to_package.md R20). -/
def State.clusterActive (s : State) (cl : Nat) : Bool := cl < 32 && bit s.dev.clusterMask cl
def State.coreActive (s : State) (c : Nat) : Bool := s.clusterActive (c / 8)
def State.siteActive (s : State) (n : Nat) : Bool := s.clusterActive (n / 40)
def State.activeClusters (s : State) : List Nat := (List.range 32).filter s.clusterActive
def State.activeCores (s : State) : List Nat := (List.range 256).filter s.coreActive
def State.activeSites (s : State) : List Nat := (List.range 1280).filter s.siteActive

/-- The cluster that a unit belongs to (32 for a unit of the base die). -/
def unitCluster : UnitId → Nat
  | .site n => n / 40
  | .core n => n / 8
  | .array c | .shared c | .cluster c => c
  | _ => 32

/-- A unit of an active cluster, or of the base die: the others take no part in any check, scan or record (00 R2, 01 R20). -/
def State.unitActive (s : State) (u : UnitId) : Bool := unitCluster u == 32 || s.clusterActive (unitCluster u)

/-- The failed-check record of a unit (10_fault_containment.md R292). -/
def State.check (s : State) : UnitId → Check
  | .site n => (s.site n).check
  | .core n => (s.core n).check
  | .array c => (s.cluster c).arrayCheck
  | .shared c => (s.cluster c).sharedCheck
  | _ => {}

def State.onCheck (u : UnitId) (f : Check → Check) (s : State) : State :=
  match u with
  | .site n => s.onSite n fun x => { x with check := f x.check }
  | .core n => s.onCore n fun x => { x with check := f x.check }
  | .array c => s.onCluster c fun x => { x with arrayCheck := f x.arrayCheck }
  | .shared c => s.onCluster c fun x => { x with sharedCheck := f x.sharedCheck }
  | _ => s

/-- A free value, and the state whose counter has moved on (log 2). -/
def State.freeValue (s : State) : Nat := Config.freeNat s.dev.freeCount
def State.useFree (s : State) : State := s.onDev fun d => { d with freeCount := d.freeCount + 1 }

/-! ### Counters (16_observation.md R465 to R469) -/

/-- Advance a counter: 48 bits, saturating, never wrapping (02_count_exact_crossbar.md R72). -/
def Ctr.add (n : Nat) (c : Ctr) : Ctr := { c with value := min (c.value + n) ord48 }

/-- Switch a counter to an epoch (R468): the companion takes what it held. -/
def Ctr.toEpoch (e : Nat) (c : Ctr) : Ctr := { epoch := e, value := 0, oldEpoch := c.epoch, oldValue := c.value }

/-- The 64-bit entry and its companion entry (R465). -/
def Ctr.entry (c : Ctr) : Nat := c.value + 2 ^ 48 * c.epoch
def Ctr.companion (c : Ctr) : Nat := c.oldValue + 2 ^ 48 * c.oldEpoch

/-- Count an event of a cluster in every event counter that selects its source (R466). -/
def State.countEvent (cl code n : Nat) (s : State) : State :=
  s.onObs fun o => { o with event := (List.range 16).foldl (fun t i =>
    if tget0 0 o.eventSel (cl * 16 + i) = code then tmod0 {} (cl * 16 + i) (Ctr.add n) t else t) o.event }

/-- Advance an engine counter (1 to 8, Table 02-13) while its site is not RETIRED. -/
def State.countEngine (site k n : Nat) (s : State) : State :=
  if (s.site site).state = .retired then s
  else (s.onObs fun o =>
    { o with engine := tmod0 {} (site * 8 + k - 1) (Ctr.add n) o.engine
             batchSums := o.batchSums.set (k - 1) (o.batchSums.getD (k - 1) 0 + n) }).countEvent (site / 40) k n

/-- Advance a core counter (1 to 8, Table 05-17). -/
def State.countCore (core k n : Nat) (s : State) : State :=
  (s.onObs fun o => { o with core := tmod0 {} (core * 8 + k - 1) (Ctr.add n) o.core }).countEvent (core / 8) (8 + k) n

/-- Advance a link counter (1 to 8, Table 12-6). -/
def State.countLink (port k n : Nat) (s : State) : State :=
  s.onObs fun o => { o with link := tmod0 {} (port * 8 + k - 1) (Ctr.add n) o.link }

/-- Advance a protocol counter of an endpoint: 0 discarded frames, 1 queue overflows, 2 tag failures (1100.0A). -/
def State.countProto (ep k : Nat) (s : State) : State :=
  s.onObs fun o => { o with proto := tmod0 {} (ep * 3 + k) (Ctr.add 1) o.proto }

/-- Advance a MACsec counter: 0 protected, 1 validated, 2 discarded (9050.04). -/
def State.countMacsec (mac k : Nat) (s : State) : State :=
  s.onObs fun o => { o with macsec := tmod0 {} (mac * 3 + k) (Ctr.add 1) o.macsec }

/-- Advance an import counter: 0 NaN, 1 saturation (03_integer_pipeline.md R101). -/
def State.countImport (k n : Nat) (s : State) : State :=
  s.onObs fun o => { o with imports := tmod0 {} k (Ctr.add n) o.imports }

/-! ### Device state and pins -/

/-- State codes of Table 13-8. -/
def DevState.code : DevState → Nat
  | .boot => 1 | .selftest => 2 | .ready => 3 | .serving => 4 | .degraded => 5 | .safe => 6 | .halted => 7

/-- FAULT_N is driven low in BOOT, SELFTEST, SAFE and HALTED, and while a record is unacknowledged (R307). -/
def State.faultNLow (s : State) : Bool :=
  s.dev.state == .boot || s.dev.state == .selftest || s.dev.state == .safe || s.dev.state == .halted ||
    !s.faults.unacked.isEmpty

/-- SAFE cause 2000.04: the recorded cause whose exit is strictest (R310): reset-only causes, then 0x07, 0x08, 0x01,
0x04, 0x05. -/
def safeCauseShown (l : List Nat) : Nat :=
  ([0x02, 0x03, 0x06, 0x07, 0x08, 0x01, 0x04, 0x05].find? fun c => l.contains c).getD 0

/-! ### Settings -/

/-- A setting of the dictionary as it was written, none while it holds its default. -/
def State.setting? (s : State) (idx sub : Nat) : Option Bytes :=
  (s.dict.settings.find? fun e => e.1 == idx * 256 + sub).map (·.2)

/-- A setting as a number, with its default. -/
def State.setting (s : State) (idx sub dflt : Nat) : Nat :=
  match s.setting? idx sub with
  | some b => leNat b
  | none => dflt

/-- A setting as bytes, with its default. -/
def State.settingBytes (s : State) (idx sub : Nat) (dflt : Bytes) : Bytes := (s.setting? idx sub).getD dflt

/-! ### Keep-store appends (15_keep_store.md R443) -/

/-- Ask for an append. Types 0x0001 and 0x0002 are class 2. -/
def State.append (cls type key : Nat) (payload : Bytes) (s : State) : State :=
  s.onKeep fun k => { k with pending := k.pending ++ [⟨cls, type, key, payload, none⟩] }

/-- A value of an object of 9000 to 90FF, sealed under the key that the UDS gives (Table 15-4; 14_boot_and_trust.md R436): its nonce is its
place among all appends, and its KEY is the additional data (log 91). -/
def State.sealKept (key : Nat) (v : Bytes) (s : State) : Bytes :=
  gcmSeal (Config.storeKey s.flash.uds) (leBytes 8 (s.keep.seq + s.keep.pending.length + 1) ++ leBytes 4 key) (leBytes 4 key) v

/-- Ask for the append of a kept object's value (R442); sealed for the indices 9000 to 90FF (type 0x0002). -/
def State.appendKept (idx sub : Nat) (v : Bytes) (answer : Option Nat) (s : State) : State :=
  let key := idx * 256 + sub
  let a : Append := if 0x9000 ≤ idx ∧ idx < 0x9100 then ⟨2, 2, key, s.sealKept key v, answer⟩ else ⟨2, 1, key, v, answer⟩
  s.onKeep fun k => { k with pending := k.pending ++ [a] }

/-- An increment of a lifetime counter waits for its unary bit (R453). -/
def State.lifeCount (n : Nat) (s : State) : State :=
  s.onKeep fun k => { k with counters := tmod0 {} n (fun c => { c with pending := c.pending + 1 }) k.counters }

/-- Count a sample in a bin of a lifetime histogram (R460). -/
def State.histogram (n bin : Nat) (s : State) : State :=
  s.onKeep fun k => { k with hist := tmod0 0 (n * 512 + bin) (· + 1) k.hist }

/-- Bins of the lifetime histograms 0 to 6 (Table 15-13). -/
def histBins : List Nat := [36, 22, 16, 18, 18, 17, 256]

/-- The bin of a count in histograms 3 and 4: 0, then [2^k, 2^(k+1)) for k from 0 to 15, then 65,536 and above. -/
def powerBin (n : Nat) : Nat := ((List.range 17).filter fun k => 2 ^ k ≤ n).length

/-- Histogram 5, recomputed: the WRITES of every plane of the active sites. -/
def State.cycleHist (s : State) : Tbl Nat :=
  let bins := ((List.range 2560).filter fun p => bit s.dev.clusterMask (p / 80)).map fun p =>
    min ((tget0 {} s.planes p).writes / 6250) 16
  bins.foldl (fun t b => tmod0 0 (5 * 512 + b) (· + 1) t) (s.keep.hist.filter fun e => e.1 / 512 != 5)

/-- The lifetime histograms and APPENDVOL (R460, 6000.02). -/
def State.histBytes (s : State) : Bytes :=
  (histBins.zipIdx.flatMap fun e => leBytes 2 e.2 ++ leBytes 2 e.1 ++
    (List.range e.1).flatMap fun b => leBytes 8 (tget0 0 s.keep.hist (e.2 * 512 + b))) ++ leBytes 8 s.keep.appendVol

/-- A histogram snapshot (R460): histogram 5 is recomputed and a record of type 0x0040 is appended, class 4. -/
def State.snapshot (s : State) : State :=
  let s1 := s.onKeep fun k => { k with hist := s.cycleHist }
  s1.append 4 0x40 0 s1.histBytes

/-! ### Fault records (10_fault_containment.md R302 to R305) -/

/-- CBOR head of a major type (RFC 8949, core deterministic encoding). -/
def cborHead (major n : Nat) : Bytes :=
  let m := major * 32
  if n < 24 then [BitVec.ofNat 8 (m + n)]
  else if n < 256 then BitVec.ofNat 8 (m + 24) :: beBytes 1 n
  else if n < 65536 then BitVec.ofNat 8 (m + 25) :: beBytes 2 n
  else if n < 4294967296 then BitVec.ofNat 8 (m + 26) :: beBytes 4 n
  else BitVec.ofNat 8 (m + 27) :: beBytes 8 n

def cborUint (n : Nat) : Bytes := cborHead 0 n
def cborText (b : Bytes) : Bytes := cborHead 3 b.length ++ b
def cborArray (l : List Nat) : Bytes := cborHead 4 l.length ++ (l.map cborUint).flatten
def cborNull : Bytes := [0xF6#8]

/-- The value of a detail entry. -/
def Detail.cbor : Detail → Bytes
  | .num n => cborUint n
  | .nums l => cborArray l
  | .bytes b => cborHead 2 b.length ++ b
  | .counts l => cborHead 5 l.length ++ (l.map fun e => cborUint e.1 ++ cborUint e.2).flatten

/-- ".n" of a path. -/
def dotted (n : Nat) : Bytes := 46#8 :: digits n

/-- "BD." -/
def pathBase : Bytes := [66#8, 68#8, 46#8]

/-- A cluster's path "Cd.c". -/
def pathCluster (cl : Nat) : Bytes := 67#8 :: digits (cl / 8) ++ dotted (cl % 8)

/-- The path of a unit (Table 10-8b), without the device prefix. -/
def unitPath : UnitId → Bytes
  | .site n => pathCluster (n / 40) ++ dotted (n / 5 % 8) ++ dotted (n % 5)
  | .core n => pathCluster (n / 8) ++ dotted (n % 8)
  | .array c => pathCluster c ++ [46#8, 65#8]
  | .shared c => pathCluster c ++ [46#8, 83#8]
  | .cluster c => pathCluster c
  | .die d => 67#8 :: digits d
  | .pair n => pathBase ++ 80#8 :: digits n
  | .intake => pathBase ++ [73#8, 78#8]
  | .mac n => pathBase ++ [77#8, 65#8, 67#8] ++ digits n
  | .can n => pathBase ++ [67#8, 65#8, 78#8] ++ digits n
  | .exham n => pathBase ++ [69#8, 88#8] ++ digits n
  | .ddr n => pathBase ++ [68#8, 68#8, 82#8] ++ digits n
  | .xspi => pathBase ++ [88#8, 83#8, 80#8, 73#8]
  | .keep => pathBase ++ [75#8, 69#8, 69#8, 80#8]
  | .sec => pathBase ++ [83#8, 69#8, 67#8]
  | .scene => pathBase ++ [83#8, 67#8, 69#8, 78#8, 69#8]
  | .hub => pathBase ++ [72#8, 85#8, 66#8]
  | .mon => pathBase ++ [77#8, 79#8, 78#8]

/-- A unit's path with its device prefix "Dn/" (R511). -/
def unitFullPath (dev : Nat) (u : UnitId) : Bytes := 68#8 :: digits dev ++ 47#8 :: unitPath u

/-- The name of a device state (key 12). -/
def DevState.name : DevState → Bytes
  | .boot => [66#8, 79#8, 79#8, 84#8]
  | .selftest => [83#8, 69#8, 76#8, 70#8, 84#8, 69#8, 83#8, 84#8]
  | .ready => [82#8, 69#8, 65#8, 68#8, 89#8]
  | .serving => [83#8, 69#8, 82#8, 86#8, 73#8, 78#8, 71#8]
  | .degraded => [68#8, 69#8, 71#8, 82#8, 65#8, 68#8, 69#8, 68#8]
  | .safe => [83#8, 65#8, 70#8, 69#8]
  | .halted => [72#8, 65#8, 76#8, 84#8, 69#8, 68#8]

/-- An optional number, null when there is none. -/
def cborOpt : Option Nat → Bytes
  | some n => cborUint n
  | none => cborNull

/-- The entries of a record's map, in rising key order, with a given detail list. -/
def Rec.entries (dev : Nat) (r : Rec) (detail : List (Nat × Detail)) : List Bytes :=
  [cborUint 0 ++ cborUint 1, cborUint 1 ++ cborUint r.boot, cborUint 2 ++ cborUint r.seq, cborUint 3 ++ cborUint r.kind,
    cborUint 4 ++ cborUint r.severity, cborUint 5 ++ cborOpt r.detected] ++
  (if r.exposed then [cborUint 6 ++ cborOpt r.exposure] else []) ++
  [cborUint 7 ++ cborText (unitFullPath dev r.unit)] ++
  (match r.unit2 with | some u => [cborUint 8 ++ cborText (unitFullPath dev u)] | none => []) ++
  (match r.run with | some n => [cborUint 9 ++ cborUint n] | none => []) ++
  (match r.step with | some n => [cborUint 10 ++ cborUint n] | none => []) ++
  [cborUint 11 ++ cborArray r.reactions, cborUint 12 ++ cborText r.state.name] ++
  (match r.programme with | some p => [cborUint 13 ++ cborArray [p.1, p.2]] | none => []) ++
  (if detail.isEmpty then []
   else [cborUint 14 ++ cborHead 5 detail.length ++ (detail.map fun e => cborUint e.1 ++ e.2.cbor).flatten])

/-- The record as one CBOR map. -/
def Rec.encode (dev : Nat) (r : Rec) (detail : List (Nat × Detail)) : Bytes :=
  let e := r.entries dev detail
  cborHead 5 e.length ++ e.flatten

/-- Add detail key 11 in its place among the rising keys. -/
def withOmitted (n : Nat) (l : List (Nat × Detail)) : List (Nat × Detail) :=
  l.filter (fun e => e.1 < 11) ++ (11, .num n) :: l.filter (fun e => 11 < e.1)

/-- Omit detail entries, highest key first, until the record with key 11 is at most 512 bytes long (R302). -/
def Rec.fit (dev : Nat) (r : Rec) : Nat → Nat → Bytes
  | 0, omitted => r.encode dev (withOmitted omitted [])
  | k + 1, omitted =>
    let b := r.encode dev (withOmitted omitted (r.detail.take (k + 1)))
    if b.length ≤ 512 then b else r.fit dev k (omitted + 1)

/-- The bytes of a record (R302). -/
def Rec.cbor (dev : Nat) (r : Rec) : Bytes :=
  let b := r.encode dev r.detail
  if b.length ≤ 512 then b else r.fit dev (r.detail.length - 1) 1

/-! ### Frames of an Ethernet MAC (14_boot_and_trust.md R434, R435) -/

/-- MACsec is enabled on a MAC (9050.01). -/
def State.macsecOn (s : State) (mac : Nat) : Bool := ((s.settingBytes 0x9050 1 []).getD mac 0#8) == 1#8

/-- A frame that a MAC received is discarded and counted: MACsec is on, and it did not pass (14_boot_and_trust.md R435). -/
def State.macDrops (mac : Nat) (secured : Bool) (s : State) : Bool := s.macsecOn mac && !secured

/-- The SA that a MAC transmits on, with its key in the table. -/
def State.txSa (s : State) (mac : Nat) : Nat × Option Sa :=
  let key := mac * 16 + tget0 0 s.macsec.txAn mac
  (key, (s.macsec.sas.find? fun e => e.1 == key && e.2.installed).map (·.2))

/-- A MAC can send now: its link is up and, while MACsec is on, its transmit SA is installed and has a PN left. -/
def State.canSend (s : State) (mac : Nat) : Bool :=
  !s.pub.macDown.contains mac && !s.macsec.stopped.contains mac && (!s.macsecOn mac || (s.txSa mac).2.isSome)

/-- SecTAG of a protected frame (IEEE 802.1AE): EtherType 0x88E5, TCI with the explicit SCI, encryption and change, the AN, a short length of
0, the PN and the SCI (log 99). -/
def secTag (an pn : Nat) (sci : Bytes) : Bytes := [0x88#8, 0xE5#8] ++ leBytes 1 (0x2C + an % 4) ++ [0#8] ++ beBytes 4 pn ++ padTo 8 sci

/-- The smallest data length of CAN FD that holds `n` bytes (13_malrov_dictionary.md R391). -/
def dlcLen (n : Nat) : Nat := (([8, 12, 16, 20, 24, 32, 48, 64] : List Nat).find? fun k => decide (n ≤ k)).getD n

/-- The 20-byte header of a response (Table 13-2). -/
def pduHeader (op tid idx sub status len sid : Nat) (last : Bool) (seq offset : Nat) : Bytes :=
  leBytes 1 op ++ leBytes 1 tid ++ leBytes 2 idx ++ leBytes 1 sub ++ leBytes 1 status ++ leBytes 2 len ++ leBytes 1 sid ++
    leBytes 1 last.toNat ++ zeros 2 ++ leBytes 4 seq ++ leBytes 4 offset

/-- The bytes that are handed to a controller, a MAC or the hub for what is sent. -/
def Tx.bytes : Tx → Bytes
  | .response ep _ op tid idx sub status sid seq last offset data tag =>
    let b := pduHeader op tid idx sub status data.length sid last seq offset ++ data ++ tag
    if ep < 2 then padTo (dlcLen b.length) b else b
  | .datagram _ _ header payload => header ++ payload
  | .faultExport _ b => b
  | .message _ _ _ b => b
  | .flit _ b => b
  | .secured _ tag body _ => tag ++ body

/-- A frame under MACsec (R435): what it carries is encrypted under the SA's key and the nonce SCI and PN, and its ICV covers the SecTAG. -/
def securedFrame (mac an : Nat) (sci : Bytes) (sa : Sa) (t : Tx) : Tx :=
  let tag := secTag an sa.pn sci
  let nonce := padTo 8 sci ++ beBytes 4 sa.pn
  .secured mac tag (gcmXor sa.sak nonce t.bytes ++ gcmTagOf 16 sa.sak nonce tag t.bytes) t

/-- A frame takes the next PN of its SA (R435): a high-water mark every 2^20 frames, and no further frame once the PN has reached
0xFFFF_FFFF. -/
def State.takePn (mac key : Nat) (sa : Sa) (s : State) : State :=
  let pn := sa.pn + 1
  let s1 := (s.onMacsec fun m =>
    { m with sas := m.sas.map fun e => if e.1 = key then (key, { e.2 with pn := pn }) else e
             stopped := if pn ≥ 0xFFFFFFFF then insertNew mac m.stopped else m.stopped }).countMacsec mac 0
  if pn % 2 ^ 20 = 0 then (s1.onMacsec fun m => { m with marks := tput0 0 key pn m.marks }).append 2 0x31 key (leBytes 4 pn) else s1

/-- A MAC that can send sends a frame: protected while MACsec is on. -/
def State.frame (mac : Nat) (t : Tx) (s : State) : State :=
  if s.macsecOn mac then
    match s.txSa mac with
    | (key, some sa) => (s.takePn mac key sa).send (securedFrame mac (key % 16) (tget0 [] s.macsec.txSci mac) sa t)
    | (_, none) => s
  else s.send t

/-! ### Export and storage of records (10_fault_containment.md R305) -/

/-- The MACs that an export setting selects: 0x00 MAC 0, 0x01 MAC 1, 0x02 both (5110.05). -/
def exportMacs (n : Nat) : List Nat := if n = 0 then [0] else if n = 1 then [1] else [0, 1]

/-- Send one datagram of a record on each selected MAC; one that cannot leave, or that finds its transmit queue full, is dropped and counted
(R305; 11 R334). No record is written about the datagram of a record, whose own datagram would find the same queue full (log 106). -/
def State.exportOn (macs : List Nat) (b : Bytes) (s : State) : State :=
  macs.foldl (fun t m =>
    if t.canSend m && !t.pub.full.contains m then t.frame m (.faultExport m b) else t.onFaults fun f => { f with exportDrops := f.exportDrops + 1 }) s

/-- Whether records of a severity are exported (R305). -/
def State.exports (s : State) (severity : Nat) : Bool :=
  s.setting 0x5110 1 1 == 1 && s.setting 0x5110 2 0 != 0 && s.setting 0x5110 4 0 ≤ severity

/-- Export a record: at most 200 in a second, the rest counted per kind (R305). DESIGN CHOICE (R305 does not say whether the two equal datagrams
of a record that leaves on both MACs are one or two, log 116): the limit counts a record once. -/
def State.exportRec (r : Rec) (s : State) : State :=
  if s.exports r.severity then
    if s.faults.exported < 200 ∨ r.kind = 0x1C then
      (s.exportOn (exportMacs (s.setting 0x5110 5 2)) (r.cbor s.group.devno)).onFaults fun f =>
        { f with exported := f.exported + 1 }
    else s.onFaults fun f => { f with missed := tmod0 0 r.kind (· + 1) f.missed }
  else s

/-- Store a record: every one of severity 2 or 3; the others against the allowance (R305). -/
def State.storeRec (r : Rec) (s : State) : State :=
  let key := r.boot % 65536 * 65536 + r.seq % 65536
  if r.severity ≥ 2 then s.append 1 0x30 key (r.cbor s.group.devno)
  else if s.faults.allowance > 0 then
    (s.append 4 0x30 key (r.cbor s.group.devno)).onFaults fun f => { f with allowance := f.allowance - 1 }
  else s

/-- The units of R292, which keep a last passed check. -/
def unitChecked : UnitId → Bool
  | .site _ | .core _ | .array _ | .shared _ => true
  | _ => false

/-- The record as it is written: boot count, sequence number, state and programme are the device's; the detection ordinal
is the caller's, or that of the latest batch opened, or none before the first batch (Table 10-8a). A record that names a unit of R292 carries
its exposure window (R301). -/
def State.completeRec (s : State) (r : Rec) : Rec :=
  { r with
    exposed := r.exposed || unitChecked r.unit
    exposure := if r.exposed then r.exposure else (s.check r.unit).lastPass
    boot := s.dev.bootCount, seq := s.faults.seq
    detected := if s.dev.bOpen.isNone then none else r.detected.orElse fun _ => s.dev.bOpen
    state := s.dev.state, programme := s.capo.selected.map fun i => (i.progid, i.imgseq) }

/-- Write a fault record (R302 to R306): it becomes the latest, counts in histogram 6, is exported and stored, and one of
severity 2 or 3 stays unacknowledged. -/
def State.writeRec (r0 : Rec) (s : State) : State :=
  let r := s.completeRec r0
  ((((s.onFaults fun f =>
      { f with seq := f.seq + 1, recs := r :: f.recs
               unacked := if r.severity ≥ 2 then f.unacked ++ [r.seq] else f.unacked }).histogram 6 (r.kind % 256)).exportRec
    r).storeRec r)

/-- The records of a MAC whose PN nears its end, 0x4A, and of one that has stopped, 0x4B; each is written once for an SA (R435). -/
def State.warnPn (mac : Nat) (s : State) : State :=
  let near := (s.txSa mac).2.elim false fun sa => decide (0xFF000000 < sa.pn)
  let s1 := if near ∧ ¬ s.macsec.nearWarned.contains mac then
      (s.onMacsec fun m => { m with nearWarned := m.nearWarned ++ [mac] }).writeRec { kind := 0x4A, severity := 1, unit := .mac mac }
    else s
  if s1.macsec.stopped.contains mac ∧ ¬ s1.macsec.stopTold.contains mac then
    (s1.onMacsec fun m => { m with stopTold := m.stopTold ++ [mac] }).writeRec { kind := 0x4B, severity := 2, unit := .mac mac }
  else s1

/-- The same on both MACs. The export of one MAC's record may use up the PNs of the other. -/
def State.warnPns (s : State) : State := ([0, 1, 0, 1] : List Nat).foldl (fun t m => t.warnPn m) s

/-- Write a fault record, with those that its own export gives rise to. -/
def State.record (r : Rec) (s : State) : State := (s.writeRec r).warnPns

/-- A setting of 1100 to 11FF in force, as bytes and as a number (R408). -/
def State.commBytes (s : State) (sub : Nat) : Option Bytes := (s.dict.comm.find? fun e => e.1 == 0x110000 + sub).map (·.2)

def State.commSetting (s : State) (sub dflt : Nat) : Nat := ((s.commBytes sub).map leNat).getD dflt

/-! ### Answers of the dictionary (13_malrov_dictionary.md R389, R390) -/

/-- Send an answer on its endpoint; one that a MAC cannot send is lost. -/
def State.sendAnswer (ep : Nat) (t : Tx) (s : State) : State :=
  if ep < 2 then s.send t else if s.canSend (ep - 2) then (s.frame (ep - 2) t).warnPns else s

/-- Send an answer: behind the answers of its endpoint that still wait (R390). -/
def State.deliver (ep : Nat) (t : Tx) (s : State) : State :=
  if s.dict.outbox.any fun a => a.ep == ep then
    s.onDict fun d => { d with outbox := d.outbox ++ [⟨d.answerNo, true, ep, t⟩], answerNo := d.answerNo + 1 }
  else s.sendAnswer ep t

/-- Register an answer that waits for something else; its number is the old `answerNo`. -/
def State.holdAnswer (ep : Nat) (t : Tx) (s : State) : State :=
  s.onDict fun d => { d with outbox := d.outbox ++ [⟨d.answerNo, false, ep, t⟩], answerNo := d.answerNo + 1 }

/-- The answers that may leave: those that are ready and have no waiting answer of their endpoint before them. -/
def outboxReady : List Nat → List Answer → List Answer × List Answer
  | _, [] => ([], [])
  | blocked, a :: l =>
    if a.ready && !blocked.contains a.ep then
      let r := outboxReady blocked l
      (a :: r.1, r.2)
    else
      let r := outboxReady (a.ep :: blocked) l
      (r.1, a :: r.2)

/-- The answer with this number is ready: send what may leave. -/
def State.release (no : Nat) (s : State) : State :=
  let box := s.dict.outbox.map fun a => if a.no = no then { a with ready := true } else a
  let r := outboxReady [] box
  r.1.foldl (fun t a => t.sendAnswer a.ep a.tx) (s.onDict fun d => { d with outbox := r.2 })

end Sys2Proof.Machine
end

