-- ==== Sys2Proof/Machine/Codec.lean ====
section
/-!
DEFINITION. SHAKE256, CRC-32C, the drone operand generator, and the number formats of tensors with their conversions
(00_scope.md R13; 15_keep_store.md R441; 08_bit_identity_and_seals.md R238; 03_integer_pipeline.md R74 to R101).
-/

namespace Sys2Proof.Machine

/-! ### SHAKE256 (FIPS 202) -/

/-- A 64-bit lane rotated left. -/
def rotl64 (x n : Nat) : Nat := (x * 2 ^ n + x / 2 ^ (64 - n)) % 2 ^ 64

/-- Rotation offsets of the rho step, lane x + 5y. -/
def rhoOffsets : List Nat :=
  [0, 1, 62, 28, 27, 36, 44, 6, 55, 20, 3, 10, 43, 25, 39, 41, 45, 15, 21, 8, 18, 2, 61, 56, 14]

/-- Round constants of the iota step. -/
def iotaConstants : List Nat :=
  [0x0000000000000001, 0x0000000000008082, 0x800000000000808A, 0x8000000080008000, 0x000000000000808B,
   0x0000000080000001, 0x8000000080008081, 0x8000000000008009, 0x000000000000008A, 0x0000000000000088,
   0x0000000080008009, 0x000000008000000A] ++
  [0x000000008000808B, 0x800000000000008B, 0x8000000000008089, 0x8000000000008003, 0x8000000000008002,
   0x8000000000000080, 0x000000000000800A, 0x800000008000000A, 0x8000000080008081, 0x8000000000008080,
   0x0000000080000001, 0x8000000080008008]

/-- The theta step. -/
def keccakTheta (a : List Nat) : List Nat :=
  let c := (List.range 5).map fun x =>
    ((a.getD x 0 ^^^ a.getD (x + 5) 0) ^^^ (a.getD (x + 10) 0 ^^^ a.getD (x + 15) 0)) ^^^ a.getD (x + 20) 0
  let d := (List.range 5).map fun x => c.getD ((x + 4) % 5) 0 ^^^ rotl64 (c.getD ((x + 1) % 5) 0) 1
  (List.range 25).map fun i => a.getD i 0 ^^^ d.getD (i % 5) 0

/-- The rho and pi steps: lane (x, y) of the result is the rotated lane ((x + 3y) mod 5, x). -/
def keccakRhoPi (a : List Nat) : List Nat :=
  (List.range 25).map fun i =>
    let x := i % 5
    let y := i / 5
    let j := (x + 3 * y) % 5 + 5 * x
    rotl64 (a.getD j 0) (rhoOffsets.getD j 0)

/-- The chi step. -/
def keccakChi (b : List Nat) : List Nat :=
  (List.range 25).map fun i =>
    let x := i % 5
    let r := i - x
    b.getD i 0 ^^^ ((2 ^ 64 - 1 - b.getD (r + (x + 1) % 5) 0) &&& b.getD (r + (x + 2) % 5) 0)

/-- One round. -/
def keccakRound (a : List Nat) (rc : Nat) : List Nat :=
  match keccakChi (keccakRhoPi (keccakTheta a)) with
  | [] => []
  | h :: t => (h ^^^ rc) :: t

/-- Keccak-f[1600]. -/
def keccakF (a : List Nat) : List Nat := iotaConstants.foldl keccakRound a

/-- The padded message of SHAKE256, rate 136 bytes. -/
def shakePad (m : Bytes) : Bytes :=
  let fill := 135 - m.length % 136
  if fill = 0 then m ++ [0x9F#8] else m ++ 0x1F#8 :: zeros (fill - 1) ++ [0x80#8]

/-- Absorb `n` blocks. -/
def shakeAbsorb : Nat → Bytes → List Nat → List Nat
  | 0, _, a => a
  | n + 1, m, a =>
    let lanes := (List.range 25).map fun i => a.getD i 0 ^^^ (if i < 17 then num m (8 * i) 8 else 0)
    shakeAbsorb n (m.drop 136) (keccakF lanes)

/-- The first `n` bytes of SHAKE256, at most 136. -/
def shake256 (n : Nat) (m : Bytes) : Bytes :=
  let p := shakePad m
  ((shakeAbsorb (p.length / 136) p (List.replicate 25 0)).flatMap (leBytes 8)).take n

/-- The 32-byte digest of the manual (08_bit_identity_and_seals.md R225). -/
def digest32 (m : Bytes) : Bytes := shake256 32 m

/-! ### SHA-512 (FIPS 180-4; 14_boot_and_trust.md R417) -/

/-- Round constants of SHA-512. -/
def shaConstants : List Nat :=
  [0x428A2F98D728AE22, 0x7137449123EF65CD, 0xB5C0FBCFEC4D3B2F, 0xE9B5DBA58189DBBC, 0x3956C25BF348B538,
   0x59F111F1B605D019, 0x923F82A4AF194F9B, 0xAB1C5ED5DA6D8118, 0xD807AA98A3030242, 0x12835B0145706FBE,
   0x243185BE4EE4B28C, 0x550C7DC3D5FFB4E2, 0x72BE5D74F27B896F, 0x80DEB1FE3B1696B1, 0x9BDC06A725C71235,
   0xC19BF174CF692694, 0xE49B69C19EF14AD2, 0xEFBE4786384F25E3, 0x0FC19DC68B8CD5B5, 0x240CA1CC77AC9C65] ++
  [0x2DE92C6F592B0275, 0x4A7484AA6EA6E483, 0x5CB0A9DCBD41FBD4, 0x76F988DA831153B5, 0x983E5152EE66DFAB,
   0xA831C66D2DB43210, 0xB00327C898FB213F, 0xBF597FC7BEEF0EE4, 0xC6E00BF33DA88FC2, 0xD5A79147930AA725,
   0x06CA6351E003826F, 0x142929670A0E6E70, 0x27B70A8546D22FFC, 0x2E1B21385C26C926, 0x4D2C6DFC5AC42AED,
   0x53380D139D95B3DF, 0x650A73548BAF63DE, 0x766A0ABB3C77B2A8, 0x81C2C92E47EDAEE6, 0x92722C851482353B] ++
  [0xA2BFE8A14CF10364, 0xA81A664BBC423001, 0xC24B8B70D0F89791, 0xC76C51A30654BE30, 0xD192E819D6EF5218,
   0xD69906245565A910, 0xF40E35855771202A, 0x106AA07032BBD1B8, 0x19A4C116B8D2D0C8, 0x1E376C085141AB53,
   0x2748774CDF8EEB99, 0x34B0BCB5E19B48A8, 0x391C0CB3C5C95A63, 0x4ED8AA4AE3418ACB, 0x5B9CCA4F7763E373,
   0x682E6FF3D6B2B8A3, 0x748F82EE5DEFB2FC, 0x78A5636F43172F60, 0x84C87814A1F0AB72, 0x8CC702081A6439EC] ++
  [0x90BEFFFA23631E28, 0xA4506CEBDE82BDE9, 0xBEF9A3F7B2C67915, 0xC67178F2E372532B, 0xCA273ECEEA26619C,
   0xD186B8C721C0C207, 0xEADA7DD6CDE0EB1E, 0xF57D4F7FEE6ED178, 0x06F067AA72176FBA, 0x0A637DC5A2C898A6,
   0x113F9804BEF90DAE, 0x1B710B35131C471B, 0x28DB77F523047D84, 0x32CAAB7B40C72493, 0x3C9EBE0A15C9BEBC,
   0x431D67C49C100D4C, 0x4CC5D4BECB3E42B6, 0x597F299CFC657E2A, 0x5FCB6FAB3AD6FAEC, 0x6C44198C4A475817]

/-- The initial hash value. -/
def shaInit : List Nat :=
  [0x6A09E667F3BCC908, 0xBB67AE8584CAA73B, 0x3C6EF372FE94F82B, 0xA54FF53A5F1D36F1, 0x510E527FADE682D1,
   0x9B05688C2B3E6C1F, 0x1F83D9ABFB41BD6B, 0x5BE0CD19137E2179]

/-- A 64-bit word rotated right. -/
def rotr64 (x n : Nat) : Nat := (x / 2 ^ n + x * 2 ^ (64 - n)) % 2 ^ 64

/-- The value of bytes with the highest first. -/
def beNat (b : Bytes) : Nat := b.foldl (fun a x => a * 256 + x.toNat) 0

/-- The next words of the message schedule: `w` holds the last sixteen, oldest first. -/
def shaNext (w : List Nat) : Nat :=
  let a := w.getD 1 0
  let b := w.getD 14 0
  let s0 := rotr64 a 1 ^^^ rotr64 a 8 ^^^ (a / 2 ^ 7)
  let s1 := rotr64 b 19 ^^^ rotr64 b 61 ^^^ (b / 2 ^ 6)
  (w.getD 0 0 + s0 + w.getD 9 0 + s1) % 2 ^ 64

/-- One round on the eight working variables. -/
def shaRound (v : List Nat) (k w : Nat) : List Nat :=
  let a := v.getD 0 0
  let b := v.getD 1 0
  let c := v.getD 2 0
  let e := v.getD 4 0
  let s1 := rotr64 e 14 ^^^ rotr64 e 18 ^^^ rotr64 e 41
  let ch := (e &&& v.getD 5 0) ^^^ ((2 ^ 64 - 1 - e) &&& v.getD 6 0)
  let t1 := v.getD 7 0 + s1 + ch + k + w
  let s0 := rotr64 a 28 ^^^ rotr64 a 34 ^^^ rotr64 a 39
  let maj := (a &&& b) ^^^ (a &&& c) ^^^ (b &&& c)
  [(t1 + s0 + maj) % 2 ^ 64, a, b, c, (v.getD 3 0 + t1) % 2 ^ 64, e, v.getD 5 0, v.getD 6 0]

/-- The rounds over the constants: the working variables and the last sixteen schedule words. -/
def shaRounds : List Nat → List Nat → List Nat → List Nat
  | [], v, _ => v
  | k :: l, v, w => shaRounds l (shaRound v k (w.getD 0 0)) (w.drop 1 ++ [shaNext w])

/-- One block of 128 bytes. -/
def shaBlock (h : List Nat) (m : Bytes) : List Nat :=
  let w := (List.range 16).map fun i => beNat (slice m (8 * i) 8)
  List.zipWith (fun x y => (x + y) % 2 ^ 64) h (shaRounds shaConstants h w)

/-- `n` blocks. -/
def shaBlocks : Nat → Bytes → List Nat → List Nat
  | 0, _, h => h
  | n + 1, m, h => shaBlocks n (m.drop 128) (shaBlock h m)

/-- SHA-512 of a byte string. -/
def sha512 (m : Bytes) : Bytes :=
  let fill := (239 - m.length % 128) % 128
  let p := m ++ 0x80#8 :: zeros fill ++ beBytes 16 (8 * m.length)
  (shaBlocks (p.length / 128) p shaInit).flatMap (beBytes 8)

/-! ### CRC-32C -/

/-- One bit of the reflected CRC with polynomial 0x1EDC6F41. -/
def crcBit (c : Nat) : Nat := if c % 2 = 1 then (c / 2) ^^^ 0x82F63B78 else c / 2

/-- One byte. -/
def crcByte (c : Nat) (b : Byte) : Nat :=
  crcBit (crcBit (crcBit (crcBit (crcBit (crcBit (crcBit (crcBit (c ^^^ b.toNat))))))))

/-- CRC-32C of a byte string. -/
def crc32c (m : Bytes) : Nat := (m.foldl crcByte 0xFFFFFFFF) ^^^ 0xFFFFFFFF

/-! ### Drone operands and the drone plane pattern (R238, 10_fault_containment.md R283) -/

/-- One xorshift round of R238. -/
def xorshift (x : Nat) : Nat :=
  let a := x ^^^ (x * 2 ^ 13 % 2 ^ 64)
  let b := a ^^^ (a / 2 ^ 7)
  b ^^^ (b * 2 ^ 17 % 2 ^ 64)

/-- `n` rounds. -/
def xorshiftN : Nat → Nat → Nat
  | 0, x => x
  | n + 1, x => xorshiftN n (xorshift x)

/-- Word i of the operands of drone step k with seed d (R238). -/
def gen (d k i : Nat) : Nat :=
  let x := leNat (shake256 8 (leBytes 8 d ++ leBytes 4 k ++ leBytes 4 (i / 1024)))
  xorshiftN (i % 1024 + 1) (if x = 0 then 1 else x) / 2 ^ 32

/-- Data cell (r, c) of the drone plane pattern (R283). -/
def droneDataCell (r c : Nat) : Bool :=
  (c < 16 && r < 512) || bit (gen 0x4B52505400000000 0 (32 * r + c / 32)) (c % 32)

/-- The data cells of a row as one number, bit c the cell of column c. -/
def droneDataRow (r : Nat) : Nat :=
  let words := ((List.range 16).map fun j => gen 0x4B52505400000000 0 (32 * r + j) * 2 ^ (32 * j)).sum
  if r < 512 then words ||| 0xFFFF else words

/-- Reference column 532 + j of row r (02_count_exact_crossbar.md Table 02-3). -/
def referenceCell (r j : Nat) : Bool :=
  let m := r % 64
  match j with
  | 0 | 1 => false
  | 2 | 3 => m < 8
  | 4 | 5 => m < 16
  | 6 | 7 => m < 24
  | 8 => m % 2 == 0
  | 9 => m % 2 == 1
  | 10 => 32 ≤ m
  | _ => m % 4 < 2

/-- A full row of 544 cells from its 512 data cells: sum, index and reference columns (Tables 02-1 and 02-3). -/
def fullRow (r data : Nat) : Nat :=
  let p := ((List.range 512).filter (bit data)).length % 1024
  let i := (((List.range 512).filter (bit data)).map (· + 1)).sum % 1024
  let ref := ((List.range 12).map fun j => if referenceCell r j then 2 ^ j else 0).sum
  data + p * 2 ^ 512 + i * 2 ^ 522 + ref * 2 ^ 532

/-- Byte `a` of the plane memory where nothing is written: the drone plane pattern, 68 bytes a row. -/
def planeDefault (a : Nat) : Byte :=
  let o := a % 131072
  if o < 69632 then BitVec.ofNat 8 (fullRow (o / 68) (droneDataRow (o / 68)) / 256 ^ (o % 68)) else 0#8

/-- Byte `a` of the scale-table banks where nothing is written: QC = 1, BIAS = 0 (R283, R87). -/
def scaleDefault (a : Nat) : Byte := if a % 8 = 0 then 1#8 else 0#8

/-! ### Integer formats (03_integer_pipeline.md R74, R75) -/

/-- The integer formats, and the floating exchange formats. -/
inductive Fmt where
  | int8 | uint8 | int4 | b1 | int16 | int32 | int2 | fp16 | bf16 | e4m3 | e5m2
  deriving DecidableEq, Repr

/-- Bits of an element. -/
def Fmt.width : Fmt → Nat
  | .int8 | .uint8 | .e4m3 | .e5m2 => 8
  | .int4 => 4
  | .b1 => 1
  | .int2 => 2
  | .int16 | .fp16 | .bf16 => 16
  | .int32 => 32

/-- Whether a format has a sign. -/
def Fmt.signed : Fmt → Bool
  | .uint8 | .b1 => false
  | _ => true

/-- INFMT of BOW and array descriptors (Tables 05-5 and 04-3). -/
def inFmt : Nat → Option Fmt
  | 0 => some .int8
  | 1 => some .uint8
  | 2 => some .int4
  | 3 => some .b1
  | 4 => some .int16
  | _ => none

/-- WTFMT of BOW and array descriptors. -/
def wtFmt : Nat → Option Fmt
  | 0 => some .int8
  | 2 => some .int4
  | 3 => some .b1
  | 6 => some .int2
  | _ => none

/-- OUTFMT of a bridge descriptor (Table 03-7). -/
def outFmt : Nat → Option Fmt
  | 0 => some .int8
  | 1 => some .uint8
  | 2 => some .int4
  | 3 => some .b1
  | 4 => some .int16
  | 5 => some .int32
  | 8 => some .fp16
  | 9 => some .bf16
  | 10 => some .e4m3
  | 11 => some .e5m2
  | _ => none

/-- The code of element i of a packed tensor, as raw bits (R75). -/
def elemRaw (w : Nat) (b : Bytes) (i : Nat) : Nat :=
  if w < 8 then bits (b.getD (i * w / 8) 0#8).toNat (i * w % 8 + w - 1) (i * w % 8)
  else num b (i * w / 8) (w / 8)

/-- Element i of a packed tensor of an integer format, as the value of its code. -/
def elem (f : Fmt) (b : Bytes) (i : Nat) : Int :=
  let r := elemRaw f.width b i
  if f.signed then sext f.width r else r

/-- Pack raw codes of width `w` (R75). -/
def packRaw (w : Nat) (l : List Nat) : Bytes :=
  let n := (l.length * w + 7) / 8
  leBytes n ((l.mapIdx fun i v => v % 2 ^ w * 2 ^ (i * w)).sum)

/-- Bytes that n elements of a format take, rounded up to whole bytes. -/
def packedLen (f : Fmt) (n : Nat) : Nat := (n * f.width + 7) / 8

/-- The lowest and highest code of an integer format (Table 03-5). -/
def fmtLo : Fmt → Int
  | .int4 => -8
  | .int8 => -128
  | .int2 => -2
  | .int16 => -32768
  | .int32 => -2147483648
  | _ => 0

def fmtHi : Fmt → Int
  | .int4 => 7
  | .int8 => 127
  | .uint8 => 255
  | .int2 => 1
  | .int16 => 32767
  | .int32 => 2147483647
  | .b1 => 1
  | _ => 0

/-! ### Rounding (R89, R97, R118) -/

/-- Round a / b half to even, b > 0. -/
def rneDiv (a : Int) (b : Nat) : Int :=
  let q := a / (b : Int)
  let r := a % (b : Int)
  if 2 * r > b ∨ (2 * r = b ∧ q % 2 = 1) then q + 1 else q

/-- rne(p, k) of R89. -/
def rne (p : Int) (k : Nat) : Int := rneDiv p (2 ^ k)

/-- Saturate into a range. -/
def sat (v lo hi : Int) : Int := if v > hi then hi else if v < lo then lo else v

/-! ### Floating exchange formats (R76, R100, R101) -/

/-- Mantissa bits, exponent bits and exponent bias (Table 03-2). -/
def Fmt.float : Fmt → Nat × Nat × Nat
  | .fp16 => (10, 5, 15)
  | .bf16 => (7, 8, 127)
  | .e4m3 => (3, 4, 7)
  | _ => (2, 5, 15)

/-- The code of the largest finite value (Table 03-2). -/
def Fmt.maxCode : Fmt → Nat
  | .fp16 => 0x7BFF
  | .bf16 => 0x7F7F
  | .e4m3 => 0x7E
  | _ => 0x7B

/-- The magnitude of a finite code without its sign, in units of the smallest subnormal. -/
def floatUnits (f : Fmt) (c : Nat) : Nat :=
  let m := f.float.1
  let e := c / 2 ^ m
  let x := c % 2 ^ m
  if e = 0 then x else (2 ^ m + x) * 2 ^ (e - 1)

/-- The exponent of 2 of the smallest subnormal. -/
def floatUnitExp (f : Fmt) : Int := 1 - (f.float.2.2 : Int) - (f.float.1 : Int)

/-- Number of the highest set bit plus one. -/
def bitLen : Nat → Nat → Nat
  | 0, _ => 0
  | fuel + 1, n => if n = 0 then 0 else bitLen fuel (n / 2) + 1

/-- The code, without sign, nearest to num / den units of the smallest subnormal: ties to the even mantissa. The result may
lie above the largest finite code. -/
def floatRound (f : Fmt) (nu den : Nat) : Nat :=
  let m := f.float.1
  -- the exponent step: the quotient has bitLen bits, of which m + 1 are kept
  let q := nu / den
  let l := bitLen 512 q
  let sh := l - (m + 1)
  let r := (rneDiv (nu : Int) (den * 2 ^ sh)).toNat
  -- r counts steps of 2^sh; a carry into the next binade keeps the code arithmetic
  if sh = 0 then r else sh * 2 ^ m + r

/-- Export of sign · nu / den, in units of 1: code, clipped, near-clip (R100). The unit exponent is folded in here. -/
def floatExport (f : Fmt) (neg : Bool) (nu den : Nat) : Nat × Bool × Bool :=
  let e := floatUnitExp f
  let n' := if e < 0 then nu * 2 ^ (-e).toNat else nu
  let d' := if e < 0 then den else den * 2 ^ e.toNat
  let c := floatRound f n' d'
  let s := if neg then 2 ^ (f.width - 1) else 0
  if c > f.maxCode then (s + f.maxCode, true, false)
  else (if c = 0 then 0 else s + c, false, decide (16 * floatUnits f c > 15 * floatUnits f f.maxCode))

/-- What a floating code stands for. -/
inductive FloatVal where
  | nan
  | inf (neg : Bool)
  | fin (neg : Bool) (units : Nat)   -- magnitude in units of the smallest subnormal
  deriving DecidableEq, Repr

/-- Classify a floating code (Table 03-2). -/
def floatVal (f : Fmt) (code : Nat) : FloatVal :=
  let m := f.float.1
  let eb := f.float.2.1
  let neg := bit code (f.width - 1)
  let c := code % 2 ^ (f.width - 1)
  let emax := 2 ^ eb - 1
  match f with
  | .e4m3 => if c = 0x7F then .nan else .fin neg (floatUnits f c)
  | _ =>
    if c / 2 ^ m = emax then (if c % 2 ^ m = 0 then .inf neg else .nan) else .fin neg (floatUnits f c)

/-- Import of one element (R101): code, whether it saturated, whether it was a NaN. -/
def floatImport (f target : Fmt) (mant : Nat) (shift zp : Int) (code : Nat) : Int × Bool × Bool :=
  let lo := fmtLo target
  let hi := fmtHi target
  match floatVal f code with
  | .nan => (zp, false, true)
  | .inf neg => (if neg then lo else hi, true, false)
  | .fin neg u =>
    let a : Int := (if neg then -(u : Int) else u) * (mant : Int)
    let e := floatUnitExp f - shift
    let r := if e < 0 then rneDiv a (2 ^ (-e).toNat) else a * (2 ^ e.toNat : Nat)
    let v := r + zp
    (sat v lo hi, decide (v > hi ∨ v < lo), false)

/-! ### Shards -/

/-- Fields of a shard (Table 07-3). -/
def shardFmt (o : Bytes) : Nat := bits (num o 0xC 4) 17 15
def shardDigest (o : Bytes) : Bytes := slice o 0x10 32
def shardRow (o : Bytes) (r : Nat) : Nat := num o (0x80 + 68 * r) 68
def shardScales (o : Bytes) : Bytes := slice o 0x11080 4096

end Sys2Proof.Machine
end

