-- ==== Sys2Proof/Machine/Operands.lean ====
section
/-!
DEFINITION. Operands: the fields of a tab step, the memories that steps address in 64-byte lines, the buffers of a tab, and
which elements of a step are present (05_tablature.md R130, R136 to R143, R509).
-/

namespace Sys2Proof.Machine

/-! ### Step fields (Tables 05-3 to 05-14) -/

/-- Bits [hi:lo] of the word at byte offset `off` of a step. -/
def sfld (w : StepWord) (off hi lo : Nat) : Nat := bits w.toNat (8 * off + hi) (8 * off + lo)

def stepKind (w : StepWord) : Nat := sfld w 0 3 0
def stepVaries (w : StepWord) : Bool := sfld w 0 4 4 == 1
def stepPred (w : StepWord) : Nat := sfld w 0 7 5
def stepTreg (w : StepWord) : Nat := sfld w 0 9 8
def stepRun (w : StepWord) : Nat := sfld w 0 14 11
def stepNo (w : StepWord) : Nat := sfld w 0x1C 23 0

/-- TSTRIDE of a kind, 0 for a kind that has none. -/
def stepStride (w : StepWord) : Nat :=
  match stepKind w with
  | 1 => sfld w 0x18 31 16
  | 2 => sfld w 0x0C 15 0
  | 3 => sfld w 0x14 31 16
  | 4 => sfld w 0x10 31 16
  | 9 => sfld w 0x18 15 0
  | _ => 0

/-- The kinds that obey PRED (Table 05-4). -/
def kindObeysPred (k : Nat) : Bool := [1, 2, 3, 4, 5, 9, 10].contains k

/-- The unit that a step goes to: engines 0 to 3, bridges 4 to 7, array port 8, move port 9, sync port 10, scene port 11,
the sequencer itself 12 (R134). -/
def stepUnit (w : StepWord) : Nat :=
  match stepKind w with
  | 1 => sfld w 4 1 0
  | 2 => 8
  | 3 => 9
  | 4 => 4 + sfld w 4 16 15
  | 6 | 7 => 10
  | 9 => 11
  | _ => 12

/-- Lines that the capture of a BOW step's tile takes: inputs, 64-bit accumulators and one byte a code (log 11). -/
def bowCheckLines (w : StepWord) : Nat :=
  let width := ((inFmt (sfld w 4 4 2)).map Fmt.width).getD 8
  let outs := sfld w 8 29 20
  sfld w 4 16 8 * ((sfld w 4 27 17 * width + 511) / 512 + (outs * 8 + 63) / 64 + (outs + 63) / 64)

/-! ### Memories in 64-byte lines (R509) -/

/-- Lines of an area (R509); the sizes of spaces 2 and 3 are 2100.03's. -/
def sramLines : Nat := 16384
def sbLines : Nat := 131072
def checkingLine : Nat := 98304     -- first line of the checking area, the top 2 MiB (04 R123)

/-- The number that names a line in the poison list. -/
def Area.lineKey (a : Area) (line : Nat) : Nat :=
  match a with
  | .sram c => c * 2 ^ 14 + line
  | .sb c => 2 ^ 44 + c * 2 ^ 17 + line
  | .dram => 2 * 2 ^ 44 + line
  | .bdsram => 3 * 2 ^ 44 + line
  | .slow s => 4 * 2 ^ 44 + s * 2 ^ 29 + line
  | .frame s b => 5 * 2 ^ 44 + (s * 3 + b) * 2 ^ 18 + line
  | .scene => 6 * 2 ^ 44 + line
  | .imports t b => 7 * 2 ^ 44 + (t * 3 + b) * 2 ^ 18 + line
  | .remote u => 8 * 2 ^ 44 + u * 2 ^ 24 + line

/-- The manifest entry of the slower-tier segment that a line of a side's region lies in, as side * 8192 + entry number. -/
def State.segmentOf (s : State) (side line : Nat) : Option Nat :=
  let img := s.sideImage side
  (img.bind fun i => i.entries.findIdx? fun e =>
    e.kind == 2 && decide (e.target ≤ line) && decide (line < e.target + (e.length + 63) / 64)).map fun n => side * 8192 + n

/-- The copy of a slower-tier line that a read takes: the first, unless it has failed and the second has not (04 R122). -/
def State.slowCopy (s : State) (side line : Nat) : Mem :=
  match s.segmentOf side line with
  | some g => if s.mem.slowBad.contains (g, 0) && !s.mem.slowBad.contains (g, 1) then s.mem.slowAlt else s.mem.slow
  | none => s.mem.slow

/-- `n` bytes of an area from a byte address. -/
def State.load (s : State) (a : Area) (addr n : Nat) : Bytes :=
  let z : Nat → Byte := fun _ => 0#8
  match a with
  | .sram c => mread z s.mem.sram (c * 2 ^ 20 + addr) n
  | .sb c => mread z s.mem.sb (c * 2 ^ 23 + addr) n
  | .dram => mread z s.mem.dram addr n
  | .bdsram => mread z s.mem.bdsram addr n
  | .slow d => mread z (s.slowCopy d (addr / 64)) (d * 2 ^ 35 + addr) n
  | .frame t b => mread z s.mem.frames ((t * 3 + b) * 2 ^ 24 + addr) n
  | .imports t b => mread z s.mem.imports ((t * 3 + b) * 2 ^ 23 + addr) n
  | .scene | .remote _ => zeros n

/-- The parity list after a write of `n` bytes: every word that it touches is stored with good parity (01 R18, R27). -/
def parityAfter (a : Area) (addr n : Nat) (l : List Nat) : List Nat :=
  if n = 0 then l else l.filter fun k => !(decide (a.lineKey 0 * 16 + addr / 4 ≤ k) && decide (k ≤ a.lineKey 0 * 16 + (addr + n - 1) / 4))

/-- Bridges whose loaded lookup table a write of `n` bytes touches, as core * 16 + bridge (03_integer_pipeline.md R95). -/
def State.lutsHit (s : State) (a : Area) (addr n : Nat) : List Nat :=
  match a with
  | .sb cl =>
    if n = 0 then []
    else (List.range 8).flatMap fun k =>
      ((s.core (cl * 8 + k)).luts.filter fun l => decide (l.addr * 256 < addr + n) && decide (addr < l.addr * 256 + 256)).map fun l =>
        (cl * 8 + k) * 16 + l.bridge
  | _ => []

/-- Write bytes of an area from a byte address; the words they touch are stored with their parity. -/
def State.store (a : Area) (addr : Nat) (b : Bytes) (s : State) : State :=
  let z : Nat → Byte := fun _ => 0#8
  s.onMem fun m0 =>
    let m := { m0 with
      parity := parityAfter a addr b.length m0.parity
      lutWritten := (s.lutsHit a addr b.length).foldl (fun l k => insertNew k l) m0.lutWritten }
    match a with
    | .sram c => { m with sram := mwrite z (c * 2 ^ 20 + addr) b m.sram }
    | .sb c => { m with sb := mwrite z (c * 2 ^ 23 + addr) b m.sb }
    | .dram => { m with dram := mwrite z addr b m.dram }
    | .bdsram => { m with bdsram := mwrite z addr b m.bdsram }
    | .slow d => { m with slow := mwrite z (d * 2 ^ 35 + addr) b m.slow, slowAlt := mwrite z (d * 2 ^ 35 + addr) b m.slowAlt }
    | .frame t f => { m with frames := mwrite z ((t * 3 + f) * 2 ^ 24 + addr) b m.frames }
    | .imports t f => { m with imports := mwrite z ((t * 3 + f) * 2 ^ 23 + addr) b m.imports }
    | .scene | .remote _ => m

/-- Poison tags (10_fault_containment.md R272, R275). -/
def State.poisoned (s : State) (a : Area) (line : Nat) : Bool := s.mem.poison.contains (a.lineKey line)

/-- Add a line to the rising list of poisoned lines. -/
def poisonInsert (k : Nat) : List Nat → List Nat
  | [] => [k]
  | j :: l => if k < j then k :: j :: l else if j = k then j :: l else j :: poisonInsert k l

def State.setPoison (a : Area) (line : Nat) (p : Bool) (s : State) : State :=
  let k := a.lineKey line
  s.onMem fun m => { m with poison := if p then poisonInsert k m.poison else m.poison.filter (· != k) }

/-- Write bytes and mark the lines that they touch: a poisoned write poisons each; a clean write of all 64 bytes of a line
clears it (R273, R275). -/
def State.storeLines (a : Area) (addr : Nat) (b : Bytes) (p : Bool) (s : State) : State :=
  if b.isEmpty then s
  else
    let l0 := addr / 64
    let l1 := (addr + b.length - 1) / 64
    (List.range (l1 + 1 - l0)).foldl (fun t i =>
      let line := l0 + i
      let full := addr ≤ line * 64 && line * 64 + 64 ≤ addr + b.length
      if p then t.setPoison a line true else if full then t.setPoison a line false else t) (s.store a addr b)

/-- A verified slower-tier segment takes its place in both DRAM copies, the first in channel c and the second in channel c + 4: its lines
are clean and both copies are good (04 R120, R122; 10 R275). `g`: side * 8192 + entry number. -/
def State.placeSegment (g line : Nat) (o : Bytes) (s : State) : State :=
  let a := Area.slow (g / 8192)
  let n := (o.length + 63) / 64
  (s.store a (line * 64) o).onMem fun m =>
    { m with slowBad := m.slowBad.filter fun e => e.1 != g
             poison := m.poison.filter fun k => !(decide (a.lineKey line ≤ k) && decide (k < a.lineKey line + n)) }

/-- A failed copy of a segment is rewritten from the other, whose digest has been confirmed (04 R122). -/
def State.rewriteCopy (g line len copy : Nat) (s : State) : State :=
  let at_ := g / 8192 * 2 ^ 35 + line * 64
  let o := mread (fun _ => 0#8) (if copy = 0 then s.mem.slowAlt else s.mem.slow) at_ len
  s.placeSegment g line o

/-! ### Duplicate grants (06_mapping_and_tiles.md R172, R173) -/

/-- The duplicate grant whose tile register gives a step its addresses. -/
def Core.dupGrant (c : Core) (w : StepWord) : Option Grant :=
  if stepStride w = 0 then none else (c.grants.getD (stepTreg w) none).filter (·.dup)

/-- Lines of the checking area that a captured write takes. -/
def DupWrite.lines (w : DupWrite) : Nat := (w.bytes.length + 63) / 64

/-- A write of core `core` in batch b at an address that a step's tile register gives: to its destination or, for a duplicate
grant, as a capture into the checking area of the cluster's soundboard. -/
def State.tileStore (core b : Nat) (g : Option Grant) (a : Area) (addr : Nat) (bytes : Bytes) (p : Bool) (s : State) : State :=
  match g with
  | none => s.storeLines a addr bytes p
  | some x =>
    s.onCluster (core / 8) fun c =>
      { c with banks := tmod0 {} (x.counter * 2 + b % 2) (fun k => { k with captures := k.captures ++ [⟨x.n, a, addr, bytes⟩] }) c.banks
               checkLines := c.checkLines + (bytes.length + 63) / 64 }

/-- Close a work-counter bank: its captures leave the checking area. -/
def Cluster.closeBank (key : Nat) (c : Cluster) : Cluster :=
  { c with banks := tmod0 {} key (fun k => { k with state := .closed, captures := [], sent := [] }) c.banks
           checkLines := c.checkLines - ((tget0 {} c.banks key).captures.map DupWrite.lines).sum }

/-- Whether any line of a byte range is poisoned. -/
def State.rangePoisoned (s : State) (a : Area) (addr n : Nat) : Bool :=
  n != 0 && (List.range ((addr + n - 1) / 64 + 1 - addr / 64)).any fun i => s.poisoned a (addr / 64 + i)

/-! ### Units and sides -/

/-- Unit code of a core of this device (R130, device bits 0). -/
def coreCode (dev core : Nat) : Nat := dev * 256 + core

/-- The plane-select bit of batch b on a core: its capo registers decide (07_weight_courses.md R196, R197). -/
def State.sideOf (s : State) (core b : Nat) : Nat :=
  let c := s.core core
  if b < c.bstar then c.sideOld else c.sideNew

/-- The tab of a core's side. -/
def State.tab? (s : State) (core side : Nat) : Option Tab :=
  (s.mem.tabs.find? fun e => e.1 == core * 2 + side).map (·.2)

/-- The site that carries a logical engine: the substitution table (02_count_exact_crossbar.md R65); none when lost. -/
def State.siteOf (s : State) (core leng : Nat) : Option Nat :=
  let x := (s.core core).subst.getD leng 0xFF
  if x < 5 then some (core * 5 + x) else none

/-! ### Buffers (R130, R157) -/

/-- An operand of a step: a space, the unit code of spaces 4 to 7, and a line. -/
structure Opnd where
  space : Nat
  unit : Nat := 0
  line : Nat
  deriving DecidableEq, Repr

/-- The number of the buffer that contains an operand's first line. -/
def Tab.bufOf (t : Tab) (o : Opnd) : Option Nat :=
  t.bufs.findIdx? fun b =>
    b.space == o.space && (o.space < 4 || b.unit == o.unit) && b.base ≤ o.line && o.line < b.base + b.length

/-- How many of `n` lines from an operand's first line lie in the buffer that contains it: the first access outside faults
(R157). -/
def Tab.linesInside (t : Tab) (o : Opnd) (n : Nat) : Nat :=
  match t.bufOf o with
  | some i =>
    match t.bufs[i]? with
    | some b => min n (b.base + b.length - o.line)
    | none => 0
  | none => 0

/-- The frame buffer that a batch uses for a stream, if its frame is present. -/
def State.frameBuf (s : State) (b stream : Nat) : Option Nat :=
  match s.walk.batches.find? fun x => x.ordinal == b with
  | some x => (x.frames.find? fun f => f.stream == stream).map (·.buf)
  | none => none

/-- The area of an operand of a core's step in batch b; an inactive cluster's memories have none (01 R20). Space 6 is another device's memory and has none here. -/
def State.areaOf (s : State) (core b : Nat) (t : Tab) (o : Opnd) : Option Area :=
  match o.space with
  | 0 => some (.sram core)
  | 1 => some (.sb (core / 8))
  | 2 =>
    match t.bufOf o with
    | some i => if (t.bufs[i]?.map (·.siderel)).getD false then some (.slow (s.sideOf core b)) else some .dram
    | none => some .dram
  | 3 => some .bdsram
  | 4 => if s.coreActive (o.unit % 256) then some (.sram (o.unit % 256)) else none
  | 5 => if s.coreActive (o.unit % 256) then some (.sb (o.unit % 256 / 8)) else none
  | 7 => (s.frameBuf b (o.unit % 32)).map fun f => .frame (o.unit % 32) f
  | _ => none

/-! ### Masks (R141, R142) -/

def Core.pred (c : Core) (i : Nat) : Bool := if i = 0 then true else c.preds.getD i true
def Core.limit (c : Core) (i : Nat) : Nat := if i = 0 then 65535 else c.limits.getD i 65535
def Core.tile (c : Core) (i : Nat) : Nat := c.tiles.getD i 65535

/-- Whether the core knows a run of the batch it walks to be dead (R146). -/
def Core.runDead (c : Core) (run : Nat) : Bool :=
  match c.cur with
  | some b => c.dead.contains (b, run)
  | none => false

/-- Write a predicate register; P0 cannot be written. -/
def Core.setPred (i : Nat) (v : Bool) (c : Core) : Core := if i = 0 then c else { c with preds := c.preds.set i v }

/-- Write a limit register; L0 cannot be written. -/
def Core.setLimit (i v : Nat) (c : Core) : Core := if i = 0 then c else { c with limits := c.limits.set i (v % 65536) }

/-- Write a tile register and the grant kept beside it. -/
def Core.setTile (i v : Nat) (g : Option Grant) (c : Core) : Core :=
  { c with tiles := c.tiles.set i (v % 65536), grants := c.grants.set i g }

/-- The value of the tile register that a step uses, 0 for a step whose TSTRIDE is 0. -/
def stepTile (c : Core) (w : StepWord) : Nat := if stepStride w = 0 then 0 else c.tile (stepTreg w)

/-- A step is masked as a whole (R142): its predicate is false and its kind obeys it, its tile register holds NONE, or its
run is dead on the core (END, SIGNAL and WAIT act all the same: R146, log 21). -/
def stepMasked (c : Core) (w : StepWord) : Bool :=
  (kindObeysPred (stepKind w) && !c.pred (stepPred w)) ||
  (stepStride w != 0 && c.tile (stepTreg w) == 65535) ||
  (c.runDead (stepRun w) && !([0, 6, 7].contains (stepKind w)))

/-- Element i is present: its position lies below the limit (R142). -/
def isPresent (pos lim i : Nat) : Bool := pos + i < lim

/-- How many of `n` elements from a position are present: presence is a prefix (R142). -/
def presentCount (pos lim n : Nat) : Nat := min n (lim - pos)

end Sys2Proof.Machine
end

