-- ==== Sys2Proof/Machine/Flags.lean ====
section
/-!
DEFINITION. The checks and flags of the arithmetic: syndromes and their decisions, bow status words, the canonical
requantisation with its range fault and clip counts, activation and pooling
(02_count_exact_crossbar.md R57, R58, R64; 03_integer_pipeline.md R84 to R104).
-/

namespace Sys2Proof.Machine

/-! ### Syndromes (02 R57, R58) -/

/-- v1, v2, e1 and e2 over the totals S_0 to S_531. -/
def syndromes (s : List Nat) : Nat × Nat :=
  let v1 := ((List.range 10).map fun j => s.getD (512 + j) 0 * 2 ^ j).sum % 1024
  let v2 := ((List.range 10).map fun j => s.getD (522 + j) 0 * 2 ^ j).sum % 1024
  let t1 := (s.take 512).sum
  let t2 := ((s.take 512).mapIdx fun c x => (c + 1) * x).sum
  ((t1 % 1024 + 1024 - v1) % 1024, (t2 % 1024 + 1024 - v2) % 1024)

/-- The outcome of Table 02-6. -/
inductive SynOutcome where
  | pass
  | correct (col : Nat) (up : Bool)
  | replay
  deriving DecidableEq, Repr

/-- Table 02-6, rows in order; `n` is the number of rows driven. -/
def synDecide (e1 e2 : Nat) (s : List Nat) (n : Nat) : SynOutcome :=
  if e1 = 0 ∧ e2 = 0 then .pass
  else if e1 = 1 ∧ 1 ≤ e2 ∧ e2 ≤ 512 ∧ s.getD (e2 - 1) 0 ≥ 1 then .correct (e2 - 1) false
  else if e1 = 1023 ∧ 512 ≤ e2 ∧ e2 ≤ 1023 ∧ s.getD (1024 - e2 - 1) 0 + 1 ≤ n then .correct (1024 - e2 - 1) true
  else .replay

/-- The totals after a correction. -/
def SynOutcome.apply (o : SynOutcome) (s : List Nat) : List Nat :=
  match o with
  | .correct c up => s.set c (if up then s.getD c 0 + 1 else s.getD c 0 - 1)
  | _ => s

/-! ### Bow status words (Tables 02-8 and 02-9) -/

def bowStatus0 (e1 e2 outcome : Nat) (isOver margin split forced : Bool) : Nat :=
  e1 + e2 * 2 ^ 10 + outcome * 2 ^ 20 + isOver.toNat * 2 ^ 22 + margin.toNat * 2 ^ 23 + split.toNat * 2 ^ 24 +
    forced.toNat * 2 ^ 25

def bowStatus1 (splitMask marginMask : Nat) : Nat := splitMask % 65536 + marginMask % 65536 * 2 ^ 16

/-- A converter result (Table 02-4). -/
def convResult (count : Nat) (margin isOver : Bool) : Byte :=
  BitVec.ofNat 8 (count + margin.toNat * 64 + isOver.toNat * 128)

/-! ### Bridge descriptors (Table 03-7, R103) -/

/-- A bridge descriptor as its 32 bytes give it. -/
structure BDesc where
  outfmt : Nat
  act : Nat
  pool : Nat
  poolwin : Bool
  stride : Nat
  biasen : Bool
  staten : Bool
  b1in : Bool
  slot : Nat
  mant : Nat
  shift : Int
  zp : Int
  clo : Int
  chi : Int
  poolw : Nat
  poolh : Nat
  lutaddr : Nat
  rsvd : Bool            -- a reserved field is not 0
  deriving DecidableEq, Repr

def parseBDesc (b : Bytes) : BDesc :=
  let w (i : Nat) := num b (4 * i) 4
  { outfmt := bits (w 0) 3 0, act := bits (w 0) 5 4, pool := bits (w 0) 7 6, poolwin := bit (w 0) 8
    stride := bits (w 0) 10 9, biasen := bit (w 0) 11, staten := bit (w 0) 12, b1in := bit (w 0) 13
    slot := bits (w 0) 25 16, mant := bits (w 1) 23 0, shift := sext 8 (bits (w 1) 31 24)
    zp := sext 16 (bits (w 2) 15 0), clo := sext 16 (bits (w 3) 15 0), chi := sext 16 (bits (w 3) 31 16)
    poolw := bits (w 4) 8 0, poolh := bits (w 4) 24 16, lutaddr := bits (w 5) 22 8
    rsvd := bits (w 0) 15 14 != 0 || bits (w 0) 31 26 != 0 || bits (w 2) 31 16 != 0 || bits (w 4) 15 9 != 0 ||
      bits (w 4) 31 25 != 0 || bits (w 5) 7 0 != 0 || bits (w 5) 31 23 != 0 || w 6 != 0 || w 7 != 0 }

/-- Whether a BRIDGE step with this descriptor and planned V is free of the faults of R103. Coded fields must hold a defined
code even where unused: POOLSTRIDE 0 is reserved. DESIGN CHOICE (R103's second bullet is unconditional, its text exempts an ignored numeric field,
log 111): MANT and SHIFT are checked for every OUTFMT, INT32 included. -/
def BDesc.ok (d : BDesc) (v : Nat) : Bool :=
  match outFmt d.outfmt with
  | none => false
  | some f =>
    let isInt := [Fmt.int4, .int8, .uint8, .int16].contains f
    !d.rsvd && d.act != 3 && d.pool != 3 && d.stride != 0 && d.mant != 0 && (-8 ≤ d.shift) && (d.shift ≤ 71) &&
    (!isInt || (fmtLo f ≤ d.zp && d.zp ≤ fmtHi f)) &&
    (!(d.act == 1) || (fmtLo f ≤ d.clo && d.clo ≤ d.chi && d.chi ≤ fmtHi f)) &&
    (!(d.act == 2) || f == .int8 || f == .uint8) &&
    ((d.act == 0 && d.pool == 0) || isInt) &&
    (d.pool == 0 || d.poolw * d.poolh == v)

/-! ### The canonical requantisation (R84, R89 to R92, R100) -/

/-- What one output value counts as (R104). -/
inductive Clip where
  | none | hi | lo | nearHi | nearLo
  deriving DecidableEq, Repr

/-- A requantised value: its code as raw bits, and what it counts as. -/
structure Quant where
  code : Int
  clip : Clip
  deriving DecidableEq, Repr

/-- Steps 1 and 2 of R84: double when B1IN, add the bias when BIASEN. -/
def biased (d : BDesc) (sum bias : Int) : Int :=
  (if d.b1in then 2 * sum else sum) + (if d.biasen then bias else 0)

/-- Step 3 of R84: the 40-bit signed range. -/
def accInRange (a : Int) : Bool := decide (-549755813888 ≤ a ∧ a ≤ 549755813887)

/-- y of R89 before the zero point. -/
def scaled (d : BDesc) (acc : Int) (qc : Nat) : Int :=
  let p := acc * (qc : Int) * (d.mant : Int)
  if d.shift > 0 then rne p d.shift.toNat else p * (2 ^ (-d.shift).toNat : Nat)

/-- The near-clip bands of Table 03-5. -/
def nearHigh : Fmt → Int
  | .int4 => 7
  | .int8 => 112
  | .uint8 => 240
  | .int16 => 28672
  | _ => 2147483648 - 268435456

def nearLow : Fmt → Int
  | .int4 => -8
  | .int8 => -113
  | .uint8 => 15
  | .int16 => -28673
  | _ => -2147483648 + 268435455

/-- Saturate v into a format and say what it counts as (R90). -/
def clipTo (f : Fmt) (v : Int) : Quant :=
  if v > fmtHi f then ⟨fmtHi f, .hi⟩
  else if v < fmtLo f then ⟨fmtLo f, .lo⟩
  else if v ≥ nearHigh f then ⟨v, .nearHi⟩
  else if v ≤ nearLow f then ⟨v, .nearLo⟩
  else ⟨v, .none⟩

/-- Requantise a checked accumulator (R89 to R92, R100). -/
def requant (d : BDesc) (acc : Int) (qc : Nat) : Quant :=
  match outFmt d.outfmt with
  | some .b1 => ⟨if scaled d acc qc + d.zp ≥ 0 then 1 else 0, .none⟩
  | some .int32 => clipTo .int32 acc
  | some .fp16 => export_ .fp16
  | some .bf16 => export_ .bf16
  | some .e4m3 => export_ .e4m3
  | some .e5m2 => export_ .e5m2
  | some f => clipTo f (scaled d acc qc + d.zp)
  | none => ⟨0, .none⟩
where
  /-- R100: one rounding of acc · q_c · M · 2^(−SHIFT). -/
  export_ (f : Fmt) : Quant :=
    let a := acc.natAbs * qc * d.mant
    let nu := if d.shift > 0 then a else a * 2 ^ (-d.shift).toNat
    let den := if d.shift > 0 then 2 ^ d.shift.toNat else 1
    let neg := decide (acc < 0)
    let r := floatExport f neg nu den
    ⟨r.1, if r.2.1 then (if neg then .lo else .hi)
          else if r.2.2 then (if neg then .nearLo else .nearHi) else .none⟩

/-! ### Activation and pooling (R93 to R97) -/

/-- The activation of a code; `lut` is the loaded table. -/
def activate (d : BDesc) (lut : Bytes) (q : Int) : Int :=
  if d.act = 1 then min (max q d.clo) d.chi
  else if d.act = 2 then
    match outFmt d.outfmt with
    | some .int8 => sext 8 (lut.getD (q + 128).toNat 0#8).toNat
    | _ => (lut.getD q.toNat 0#8).toNat
  else q

/-- The present codes of the window of output position (i, j). -/
def window (d : BDesc) (codes : List (Option Int)) (i j : Nat) : List Int :=
  let k := if d.poolwin then 3 else 2
  ((List.range k).flatMap fun a => (List.range k).filterMap fun b =>
    let r := i * d.stride + a
    let c := j * d.stride + b
    if r < d.poolh ∧ c < d.poolw then (codes.getD (r * d.poolw + c) none) else none)

/-- One pooled output (R97); none when no position of its window is present. -/
def poolOne (d : BDesc) (l : List Int) : Option Int :=
  match l with
  | [] => none
  | x :: xs => if d.pool = 1 then some (xs.foldl max x) else some (rneDiv (l.sum) l.length)

/-- How many output rows or columns a dimension gives. -/
def pooledDim (n stride : Nat) : Nat := if stride = 0 then 0 else (n + stride - 1) / stride

/-- Pool the codes of one output channel over its V vectors, in row-major order of the output positions; without pooling the
codes stand. -/
def pool (d : BDesc) (codes : List (Option Int)) : List (Option Int) :=
  if d.pool = 0 then codes
  else (List.range (pooledDim d.poolh d.stride)).flatMap fun i =>
    (List.range (pooledDim d.poolw d.stride)).map fun j => poolOne d (window d codes i j)

/-! ### Integer softmax (04 R118) -/

/-- Whether an exponent table conforms: entry 0 is 32,768 and no entry exceeds the one before it. -/
def expTableOk : List Nat → Bool
  | [] => false
  | x :: xs => x == 32768 && go x xs
where
  go : Nat → List Nat → Bool
  | _, [] => true
  | p, y :: ys => y ≤ p && go y ys

/-- One softmax row: codes x, of which the first `n` are present. -/
def softmaxRow (tab : List Nat) (x : List Int) (n : Nat) : List Nat :=
  let p := x.take n
  match p with
  | [] => x.map fun _ => 0
  | y :: ys =>
    let m := ys.foldl max y
    let e := p.map fun v => tab.getD (m - v).toNat 0
    let s := e.sum
    (e.map fun v => (rneDiv ((v * 255 : Nat) : Int) s).toNat) ++ (x.drop n).map fun _ => 0

/-! ### Check bytes (10_fault_containment.md Table 10-12) -/

/-- Failed checks that lie in the window of 1,024 ordinals that ends at b (R293). -/
def recentFails (b : Nat) (l : List Nat) : List Nat := l.filter fun x => b < x + 1024

/-- The check state byte of a unit, `b` being the present ordinal. -/
def checkByte (b : Nat) (c : Check) (fullDup : Bool) : Nat :=
  (if c.retired then 2 else if c.suspect then 1 else 0) + min (recentFails b c.fails).length 3 * 4 + fullDup.toNat * 16

end Sys2Proof.Machine
end

