-- ==== Sys2Proof/Machine/Link.lean ====
section
/-!
DEFINITION. The sending side of the Exham links: the arrangement and routes, the bytes of messages, flits with their credits and
replay buffer (12_exham_group.md R352 to R366, R371, Tables 12-1, 12-3 and 12-4).
-/

namespace Sys2Proof.Machine

/-! ### The arrangement (12 Table 12-3) -/

def arrX (a : Nat) : Nat := bits a 6 2
def arrY (a : Nat) : Nat := bits a 9 7
def arrSize (a : Nat) : Nat := if bits a 1 0 = 0 then 1 else arrX a * arrY a

/-- Hops between two positions of a dimension of n devices. -/
def ringHops (n a b : Nat) : Nat := min ((a + n - b) % n) ((b + n - a) % n)

/-- Hops between two devices. -/
def hops (arr a b : Nat) : Nat :=
  let x := max 1 (arrX arr)
  ringHops x (a % x) (b % x) + ringHops (max 1 (arrY arr)) (a / x) (b / x)

/-- The port on which a route to a device begins when nothing is down (R365): X first, + when equal. -/
def portToward (arr a b : Nat) : Nat :=
  let x := max 1 (arrX arr)
  let y := max 1 (arrY arr)
  if a % x ≠ b % x then
    if (b % x + x - a % x) % x ≤ (a % x + x - b % x) % x then 0 else 1
  else if (b / x + y - a / x) % y ≤ (a / x + y - b / x) % y then 2 else 3

/-! ### Routes (R365, R366) -/

def State.portUp (s : State) (p : Nat) : Bool := (s.port p).state == .up

/-- A port that is UP, or its twin. -/
def State.eitherUp (s : State) (p twin : Nat) : Option Nat :=
  if s.portUp p then some p else if bit s.group.arrange 10 && s.portUp twin then some twin else none

/-- The port for a direction of a dimension, when one is UP. -/
def State.direction (s : State) (x plus : Bool) : Option Nat :=
  if x then (if plus then s.eitherUp 0 4 else s.eitherUp 1 5)
  else if plus then (if s.portUp 2 then some 2 else none)
  else if s.portUp 3 then some 3 else none

/-- The ports by which a flit for a device can leave, in the order in which they are tried. X goes first, the shorter direction, + when
both are equal; a blocked direction gives way to the other one, a blocked dimension to the other dimension. -/
def State.routePorts (s : State) (dst : Nat) : List Nat :=
  let a := s.group.arrange
  let me := s.group.devno
  let x := max 1 (arrX a)
  let y := max 1 (arrY a)
  let dx := (dst % x + x - me % x) % x
  let dy := (dst / x + y - me / x) % y
  let px := decide (dx ≤ x - dx)
  let py := decide (dy ≤ y - dy)
  let xs := [(true, px), (true, !px)]
  let ys := if bits a 1 0 = 2 ∧ 2 ≤ y then [(false, py), (false, !py)] else []
  let tries := if dx ≠ 0 then xs ++ ys else if dy ≠ 0 then ys ++ xs else []
  tries.filterMap fun d => s.direction d.1 d.2

/-- The port by which a flit for a device leaves; none when the device cannot be reached. -/
def State.routePort (s : State) (dst : Nat) : Option Nat := (s.routePorts dst).head?

/-- A port and its twin lead the same way. -/
def wayOf (port : Nat) : Nat := if port < 4 then port else port - 4

/-- The port by which a flit that came in on a port goes on: it turns back only when nothing else is left, or a detour would never end
(R366; log 103). -/
def State.routeOn (s : State) (arrived dst : Nat) : Option Nat :=
  let l := s.routePorts dst
  ((l.filter fun p => wayOf p != wayOf arrived) ++ l).head?

/-! ### Flits (Table 12-1) -/

/-- The header word. -/
def flitHeader (kind : Nat) (nak : Bool) (poison cls ackseq seqlo crclass credits : Nat) : Nat :=
  kind + nak.toNat * 2 ^ 3 + poison * 2 ^ 4 + cls * 2 ^ 8 + ackseq % 1024 * 2 ^ 10 + seqlo % 64 * 2 ^ 20 + crclass * 2 ^ 26 +
    credits * 2 ^ 28

/-- The 272 bytes: header, ciphertext, 64-bit tag, CRC (R352, R355). `key`: 32 bytes of key and 4 of salt. -/
def flitWire (key : Bytes) (seq header : Nat) (plain : Bytes) : Bytes :=
  let h := leBytes 4 header
  let nonce := padTo 4 ((key.drop 32).take 4) ++ leBytes 8 seq
  let body := h ++ padTo 256 ((gcmXor (key.take 32) nonce plain).take 256) ++ gcmTagOf 8 (key.take 32) nonce h plain
  body ++ leBytes 4 (crc32c body)

/-- The class whose credits the next flit returns: the first with credits owed (log 41). -/
def Port.creditClass (p : Port) : Nat := ((List.range 4).find? fun c => 0 < p.owed.getD c 0).getD 0

/-- The port stands at a key boundary: the sequence number is a multiple of 2^32, beyond the first (R363). -/
def atBoundary (seq : Nat) : Bool := decide (0 < seq) && seq % 2 ^ 32 == 0

/-- A new flit may be sent: UP, a place in the replay buffer, and a key for its sequence number. -/
def Port.maySend (p : Port) : Bool :=
  p.state == .up && decide (p.unacked.length < 512) && (!atBoundary p.txSeq || !p.nextTx.isEmpty)

/-- Send one flit on a port: it takes the next sequence number and is held until it is acknowledged. -/
def State.emitFlit (port kind cls poison dst : Nat) (plain : Bytes) (s : State) : State :=
  let p := s.port port
  let key := if atBoundary p.txSeq then p.nextTx else p.keyTx
  let c := p.creditClass
  let n := min (p.owed.getD c 0) 15
  let payload := padTo 256 (plain.take 256)
  let wire := flitWire key p.txSeq (flitHeader kind p.nak poison cls (p.rxSeq + 1023) p.txSeq c n) payload
  ((s.onPort port fun x =>
    { x with
      txSeq := x.txSeq + 1, unacked := x.unacked ++ [⟨x.txSeq, kind, cls, poison, dst, payload, wire⟩], nak := false
      owed := x.owed.set c (x.owed.getD c 0 - n), keyTx := key
      nextTx := if atBoundary x.txSeq then [] else x.nextTx, rekeying := if atBoundary x.txSeq then false else x.rekeying
      credits := if kind = 0 then x.credits else x.credits.set cls (x.credits.getD cls 0 - 1) }).send (.flit port wire)).countLink port 1 1

/-- The flit that is served next: class 2, then 0 and 1 in turn, then 3, each against a credit (R357). -/
def Port.nextFlit (p : Port) : Option Held :=
  [2, p.turn, 1 - p.turn, 3].findSome? fun c => if 0 < p.credits.getD c 0 then p.queue.find? fun h => h.cls == c else none

/-- Take one flit off the queue. -/
def dropHeld (h : Held) : List Held → List Held
  | [] => []
  | x :: l => if x = h then l else x :: dropHeld h l

/-- Send what a port may send, at most `n` flits. -/
def pumpPort : Nat → Nat → State → State
  | 0, _, s => s
  | n + 1, port, s =>
    let p := s.port port
    if p.maySend then
      match p.nextFlit with
      | some h =>
        pumpPort n port ((s.onPort port fun x =>
          { x with queue := dropHeld h x.queue, turn := if h.cls < 2 then 1 - h.cls else x.turn }).emitFlit port h.kind h.cls h.poison h.dst
            h.plain)
      | none => s
    else s

/-- Let a port send all it may. -/
def State.pumpFlits (port : Nat) (s : State) : State := pumpPort (s.port port).queue.length port s

/-- Put flits on a port, which sends what it may. -/
def State.queueOn (port : Nat) (l : List Held) (s : State) : State :=
  (s.onPort port fun x => { x with queue := x.queue ++ l }).pumpFlits port

/-- Put flits for a device on the port that leads to it. A device that cannot be reached gets none. -/
def State.queueFlits (dst : Nat) (l : List Held) (s : State) : State :=
  match s.routePort dst with
  | some p => s.queueOn p l
  | none => s

/-! ### Messages (R371, Table 12-4) -/

/-- Widths in bytes of a message's fields after the prefix. A TOKEN's token is 11 bytes (log 42). -/
def msgWidths (type : Nat) : List Nat :=
  match type with
  | 0x01 => [1, 1, 4, 4, 4]
  | 0x10 => [4, 6, 1, 1, 2, 1, 4, 4, 4]
  | 0x11 => [4, 6, 1, 2, 1, 4, 4, 2, 1, 4]
  | 0x12 => [4, 6, 2, 1, 1, 1, 2]
  | 0x20 => [4, 4, 1]
  | 0x21 => [6, 4, 1]
  | 0x22 => [6, 1, 1, 1, 1, 2]
  | 0x23 | 0x24 | 0x2A | 0x2B | 0x2C => if type ≤ 0x24 then [6, 1, 1] else [1, 6, 1]
  | 0x25 => [6]
  | 0x26 | 0x27 => [1, 6, 4, 1]
  | 0x28 => [2]
  | 0x29 => [8]
  | 0x30 => [4, 4, 2]
  | _ => []

/-- The fields in their widths. -/
def packFields : List Nat → List Nat → Bytes
  | w :: ws, f :: fs => leBytes w f ++ packFields ws fs
  | w :: ws, [] => zeros w ++ packFields ws []
  | [], _ => []

/-- The message's bytes: prefix, fields, bytes. -/
def msgBytes (src dst type : Nat) (fields : List Nat) (bytes : Bytes) : Bytes :=
  let body := packFields (msgWidths type) fields ++ bytes
  leBytes 2 type ++ leBytes 2 body.length ++ leBytes 1 src ++ leBytes 1 dst ++ zeros 2 ++ body

/-- The class of a message: transfer or reduce for a WRITE, image for 0x30 to 0x32, control otherwise. -/
def msgClass (type : Nat) (fields : List Nat) : Nat :=
  if type = 0x10 then fields.getD 3 0 % 2 else if 0x30 ≤ type ∧ type ≤ 0x32 then 3 else 2

/-- Cut bytes into payloads of 256. -/
def payloads : Nat → Bytes → List Bytes
  | 0, _ => []
  | n + 1, b => if b.isEmpty then [] else b.take 256 :: payloads n (b.drop 256)

/-- A BRINGUP flit: KIND 3 and nothing else in the header, the payload in clear, a TAG of zeros (Table 12-1; log 104). -/
def bringupWire (plain : Bytes) : Bytes :=
  let body := leBytes 4 3 ++ padTo 256 (plain.take 256) ++ zeros 8
  body ++ leBytes 4 (crc32c body)

/-- Send a bring-up message on a port: its BRINGUP flits take no sequence number and are not held (R354). -/
def State.sendBringup (port type dst : Nat) (fields : List Nat) (bytes : Bytes) (s : State) : State :=
  let m := msgBytes s.group.devno dst type fields bytes
  (payloads (m.length / 256 + 1) m).foldl (fun t b => (t.send (.flit port (bringupWire b))).countLink port 1 1)
    (s.send (.message type dst fields bytes))

/-- The flits of a message: MESSAGE flits, then DATA flits with the poison tags of their four lines. -/
def msgFlits (src dst via type : Nat) (fields : List Nat) (bytes data : Bytes) (poison : List Nat) : List Held :=
  let cls := msgClass type fields
  let m := msgBytes src dst type fields bytes
  ((payloads (m.length / 256 + 1) m).map fun b => (⟨0, 2, cls, 0, via, b, []⟩ : Held)) ++
    (payloads (data.length / 256 + 1) data).zipIdx.map fun e =>
      (⟨0, 1, cls, maskOf 4 ((List.range 4).filter fun i => poison.contains (4 * e.2 + i)), via, e.1, []⟩ : Held)

/-- Send a message to a member, or to every other member (255): one copy for each, which names that member, so that every hub on its way
forwards it (R365, log 41). -/
def State.sendMsg (type dst : Nat) (fields : List Nat) (bytes data : Bytes) (poison : List Nat) (s : State) : State :=
  let targets := if dst = 255 then s.group.members.filter (· != s.group.devno) else [dst]
  targets.foldl (fun t d => t.queueFlits d (msgFlits s.group.devno d d type fields bytes data poison))
    (s.send (.message type dst (fields ++ poison) (bytes ++ data)))

/-- Send a message of the group to another member, or to every one (255), when the device is in a group. -/
def State.groupMsg (type dst : Nat) (fields : List Nat) (bytes : Bytes) (s : State) : State :=
  if s.group.members.length > 1 ∧ dst ≠ s.group.devno then s.sendMsg type dst fields bytes [] [] else s

/-- Tell the leader, by a SAFE message, that this device leaves service (R382); the leader tells every member. -/
def State.saySafe (cause : Nat) (s : State) : State :=
  s.groupMsg 0x2A (if s.group.leader = s.group.devno then 255 else s.group.leader) [s.group.devno, s.dev.bOpen.getD 0, cause] []

/-- Send a message to the member that publishes a run, when there is one (R372, R374). -/
def State.toPublisher (run type : Nat) (fields : List Nat) (bytes : Bytes) (s : State) : State :=
  match s.group.publishers[run]? with
  | some d => if d < 24 then s.groupMsg type d fields bytes else s
  | none => s

end Sys2Proof.Machine
end

