-- ==== Sys2Proof/Machine/Units.lean ====
section
/-!
DEFINITION. What several families do to the machine as a whole: deaths of runs, failed checks, suspects and retirements,
the order of a substitution, DEGRADED and SAFE (05_tablature.md R146; 10_fault_containment.md R292 to R297, R309;
02_count_exact_crossbar.md R66, Table 02-11).
-/

namespace Sys2Proof.Machine

/-! ### Sides and programmes -/

/-- The side that a batch uses on the device: the capo's selected side, and the other from B* on (07 R196, R204). -/
def State.devSide (s : State) (b : Nat) : Nat :=
  if s.capo.state = .releasing then (if b ≥ s.capo.bstar then s.capo.side else 1 - s.capo.side)
  else if b ≥ s.capo.bstar then 1 - s.capo.side else s.capo.side

/-- The tabs of a side with their cores. -/
def State.tabsOf (s : State) (side : Nat) : List (Nat × Tab) :=
  s.mem.tabs.filterMap fun e => if e.1 % 2 = side then some (e.1 / 2, e.2) else none

/-- The runs that a side's programme holds (RUNMASK of every tab). -/
def State.runsOf (s : State) (side : Nat) : List Nat :=
  (List.range 16).filter fun r => (s.tabsOf side).any fun t => bit t.2.runmask r

/-- The counter table entry of a cluster's work counter on a side (06 Table 06-5), 0 when there is none. -/
def State.counterEntry (s : State) (cl side k : Nat) : Nat :=
  match s.mem.counters.find? fun e => e.1 == cl * 2 + side with
  | some e => (e.2.getD k 0#128).toNat
  | none => 0

/-! ### Runs -/

def State.run? (s : State) (b r : Nat) : Option RunRec := s.walk.runs.find? fun x => x.ordinal == b && x.run == r

def State.onRun (b r : Nat) (f : RunRec → RunRec) (s : State) : State :=
  s.onWalk fun w => { w with runs := w.runs.map fun x => if x.ordinal = b ∧ x.run = r then f x else x }

def State.batch? (s : State) (b : Nat) : Option Batch := s.walk.batches.find? fun x => x.ordinal == b

def State.onBatch (b : Nat) (f : Batch → Batch) (s : State) : State :=
  s.onWalk fun w => { w with batches := w.batches.map fun x => if x.ordinal = b then f x else x }

/-- The lowest non-zero VOIDCAUSE stands (08 R227). -/
def lowestCause (a b : Nat) : Nat := if a = 0 then b else if b = 0 then a else min a b

/-! ### Tuning passes (09 R247, R248, R251) -/

/-- The sensor of a site among the 72 of B000.01 (Table 09-2): 16 for each compute die. -/
def sensorOf (site : Nat) : Nat := site / 320 * 16 + site / 40 % 8 * 2 + site / 5 % 8 / 4

/-- The sensor that a site uses: its own, or the other one of the pair when its own is marked failed (17 R498). -/
def State.sensorAt (s : State) (site : Nat) : Nat :=
  let k := sensorOf site
  if s.power.sensorFail.contains k then k / 2 * 2 + (1 - k % 2) else k

/-- A pass that starts on a site in batch `start` (2^48 - 1 outside a batch): it drives the plane that the capo selects for the batch, and
its T_ref is the reading at the opening of that batch, or the present one outside a batch (R248, R251). -/
def State.newPass (s : State) (site : Nat) (cause : PassCause) (start : Nat) (retry stale window : Bool) : Passing :=
  { cause := cause, start := start, retry := retry, stale := stale, window := window, held := []
    side := s.sideOf (site / 5) (if start = ord48 then s.dev.bOpen.getD 0 else start)
    temp := match s.batch? start with
      | some b => b.temps.getD (s.sensorAt site) (s.site site).temp
      | none => s.power.temps.getD (s.sensorAt site) 0 }

/-- A site that is RETIRED has no pending pass and runs none (R248). -/
def Site.retire (x : Site) : Site :=
  { x with state := .retired, check := { x.check with retired := true }, pending := [], passing := none, leaving := false }

/-- Close the work-counter banks of a dead run without a check (06 Table 06-6). -/
def State.closeBanks (b r : Nat) (s : State) : State :=
  s.activeClusters.foldl (fun t cl =>
    (List.range 16).foldl (fun u k =>
      let e := u.counterEntry cl (u.devSide b) k
      let key := k * 2 + b % 2
      let x := tget0 {} (u.cluster cl).banks key
      if x.state ≠ .closed ∧ x.ordinal = b ∧ bits e 17 14 = r ∧ bits e 12 0 ≠ 0 then
        u.onCluster cl (Cluster.closeBank key)
      else u) t) s

/-- The other members that a run depends on (12 R372), as far as they have not left the group (R379). -/
def State.partners (s : State) (run : Nat) : List Nat :=
  (s.group.depends.filter fun d => d.1 == run && d.2 != s.group.devno && s.group.members.contains d.2).map (·.2)

/-- The statistics records of a batch to whose slots a run writes are VOID (03 R106). -/
def State.voidStats (b r : Nat) (s : State) : State :=
  if s.obs.stats.any fun e => e.2.ordinal == b && e.2.runs.contains r then
    s.onObs fun o => { o with stats := o.stats.map fun e => if e.2.ordinal = b ∧ e.2.runs.contains r = true then (e.1, { e.2 with isVoid := true }) else e }
  else s

/-- A run of a batch dies as VOID (05 R146). A published status that is final stands. Control pair 3 tells every core by
RUN DEATH NOTICE; in a group the death goes to every member the run depends on (12 R374). -/
def State.killRun (b r cause : Nat) (s : State) : State :=
  match s.run? b r with
  | none => s
  | some x =>
    if x.status.isSome ∧ x.final then s
    else if x.cause ≠ 0 then s.onRun b r fun y => { y with cause := lowestCause y.cause cause }
    else (s.partners r).foldl (fun t m => t.groupMsg 0x23 m [b, r, cause] []) (((s.onRun b r fun y => { y with cause := cause }).closeBanks b r).voidStats b r)

/-- A core learns that a run is dead. -/
def State.coreLearns (core b r : Nat) (s : State) : State :=
  s.onCore core fun c =>
    if c.dead.contains (b, r) then c else { c with dead := c.dead ++ [(b, r)], deadFrom := c.deadFrom ++ [(b, r, if c.cur = some b then c.next else 0)] }

/-- A run dies on the core whose step found it: the core learns at once. -/
def State.runDiesHere (core b r cause : Nat) (s : State) : State := (s.killRun b r cause).coreLearns core b r

/-- A step of a core faults: record 0x0A naming the step, the step-faults counter, and its run dies with cause 0x02. -/
def State.stepFault (core b r stepno : Nat) (detail : List (Nat × Detail)) (s : State) : State :=
  (((s.countCore core 7 1).runDiesHere core b r 2).record
    { kind := 0x0A, severity := 1, detected := some b, unit := .core core, run := some r, step := some stepno
      reactions := [2], detail := detail })

/-- A step of a core reads a poisoned word: its run dies with cause 0x03 (10 R273). -/
def State.poisonDeath (core b r stepno : Nat) (s : State) : State :=
  (((s.countEvent (core / 8) 0x2F 1).runDiesHere core b r 3).record
    { kind := 0x09, severity := 1, detected := some b, unit := .core core, run := some r, step := some stepno
      reactions := [2] })

/-! ### SAFE (10 R309) -/

/-- A core abandons its walk and returns to IDLE without a dump. DESIGN CHOICE (05 R140 clears probes at END, and an abandoned walk has none, log
101): probes that are armed stay armed into the core's next batch. -/
def State.abandonWalk (core : Nat) (s : State) : State :=
  let c := s.core core
  if c.seq = .walk ∨ c.seq = .stalled ∨ c.seq = .draining then
    let s1 := (s.onCore core fun c =>
      { c with seq := .idle, cur := none, flight := [], moves := [], scenes := [], sync := [], droneLive := none }).countEvent (core / 8) 0x4D 1
    let s2 := (List.range 5).foldl (fun t i => t.onSite (core * 5 + i) fun x => { x with tile := none, queue := [] }) s1
    let held := (((List.range 5).flatMap fun i => (s.site (core * 5 + i)).tile.toList ++ (s.site (core * 5 + i)).queue).filter
      (·.sampled)).map fun t => bowCheckLines t.word
    s2.onCluster (core / 8) fun k =>
      { k with owner := if k.owner = some (core % 8) then none else k.owner
               waiters := k.waiters.filter (· != core % 8), checkLines := k.checkLines - held.sum - (c.flight.map (·.room)).sum }
  else s

/-- A watch that is armed and cannot be taken is missed (16 R475). -/
def State.missWatch (s : State) : State :=
  if s.obs.watchState = 1 then s.onObs fun o => { o with watchState := 3 } else s

/-- A plane's scan sum of its latest scan within epoch k (07 R209). -/
def Plane.sumIn (p : Plane) (k : Nat) : Option Bytes :=
  let within (a : Option Nat) : Bool := a.any fun n => n / 1024 == k
  if within p.scanAt then some p.scanSum else if within p.prevAt then some p.prevSum else none

/-- Scan epoch k ends (07 R209): its digest is formed when every selected plane of a carrying site was scanned in it. -/
def State.closeEpoch (k : Nat) (s : State) : State :=
  match s.capo.selected with
  | none => s
  | some i =>
    let sums := i.entries.filterMap fun e =>
      if e.kind = 1 then (s.siteOf (e.unit % 256) e.leng).map fun n => (s.plane (2 * n + s.devSide (1024 * k + 1023))).sumIn k else none
    if sums.all (·.isSome) then
      s.onCapo fun c =>
        { c with epochDigest := some (k, digest32 (leBytes 8 k ++ leBytes 4 i.progid ++ leBytes 4 i.imgseq ++ sums.flatMap (·.getD []))) }
    else s.onCapo fun c => { c with incomplete := min (c.incomplete + 1) 0xFFFFFFFF }

/-- The device enters SAFE from READY, SERVING or DEGRADED (R309). In SAFE a further cause is recorded beside the first
(13 R406); before READY a cause is acted on at the end of SELFTEST (log 22). A batch that a core has still to walk counts as ended on
every core, and its scene updates are discarded (log 74). `note`: the record of the entry, none where it was written before. -/
def State.intoSafe (cause : Nat) (unit : UnitId) (note : Option Rec) (s : State) : State :=
  match s.dev.state with
  | .ready | .serving | .degraded =>
    let s1 := s.onDev fun d =>
      { d with state := .safe, safeCauses := insertNew cause d.safeCauses, batchOpening := false
               lastOutcome := if d.draining then 2 else d.lastOutcome, draining := false, drainReset := false
               drained := false }
    let s2 := s1.activeCores.foldl (fun t c =>
      (t.abandonWalk c).onCore c fun x =>
        { x with ordinals := [], done := s.dev.bOpen.orElse fun _ => x.done, seq := if x.seq = .stopped then .idle else x.seq }) s1
    let s3 := s2.onWalk fun w =>
      { w with runs := w.runs.filter fun r => r.status.isSome
               batches := w.batches.map fun x =>
                 if (s.tabsOf (s.devSide x.ordinal)).all fun e => x.ended.contains e.1 then x else { x with ended := s.activeCores, updates := [] } }
    -- an epoch whose last batch is cut off here ends with it (07 R209)
    let s4 := ((s.walk.batches.filter fun x => x.ordinal % 1024 == 1023 &&
      !(s.tabsOf (s.devSide x.ordinal)).all fun e => x.ended.contains e.1).foldl (fun t x => t.closeEpoch (x.ordinal / 1024)) s3).onPub fun p =>
        { p with partialDue := unit != .pair 2 }
    let s5 := s4.missWatch.snapshot.lifeCount 1
    (match note with
      | some r => s5.record r
      | none => s5).saySafe cause
  | .safe | .boot | .selftest => s.onDev fun d => { d with safeCauses := insertNew cause d.safeCauses }
  | .halted => s

/-- Entry into SAFE with its record: 0x19, or 0x1A for a lockstep mismatch (R309). -/
def State.enterSafe (cause kind : Nat) (unit : UnitId) (s : State) : State :=
  s.intoSafe cause unit (some { kind := kind, severity := 3, unit := unit, reactions := [9] })

/-! ### DEGRADED (10 R295 to R297) -/

/-- A condition of Table 10-7 that calls for DEGRADED is in force: an array, core or shared unit is retired, a logical
engine is lost, or a site is RETIRING with no standby on its way. -/
def State.degradedCondition (s : State) : Bool :=
  s.activeClusters.any (fun c => (s.cluster c).arrayCheck.retired || (s.cluster c).sharedCheck.retired) ||
  s.activeCores.any (fun c =>
    (s.core c).check.retired || (s.core c).subst.contains 0xFF ||
    ((List.range 5).any fun i => (s.site (c * 5 + i)).state == .retiring) && (s.site (c * 5 + 4)).state != .copying)

/-- STRAP3: VDD_CE is held by the board, and the device does not use AVSBus (17 R490). -/
def State.fixedVdd (s : State) : Bool := bit s.dev.straps 3

/-- A state change raised the floor of VDD_CE: the setpoint is raised at once (17 R486). -/
def State.raiseFloor (s : State) : State :=
  if s.fixedVdd || s.power.avsStopped then s else s.onPower fun p => { p with v := max p.v 720 }

/-- A Voltage read has returned at least the floor of service (17 R486). -/
def State.vddReady (s : State) : Bool := s.fixedVdd || decide (720 ≤ s.power.avsRead)

/-- The Exham ports and the MACs cannot run: the 156.25 MHz reference is lost, or a VDD_SD rail is in fault (17 R495, R499). -/
def State.serdesOff (s : State) : Bool := s.power.refLost || s.power.railFault.contains 5 || s.power.railFault.contains 6

/-- Enter DEGRADED from SERVING or READY, or SAFE when 5000.04 says so (R297). -/
def State.degrade (s : State) : State :=
  if s.dev.state = .serving ∨ s.dev.state = .ready then
    if s.setting 0x5000 4 0 = 1 then s.enterSafe 4 0x19 (.pair 0)
    else (s.onDev fun d => { d with state := .degraded }).raiseFloor.record
      { kind := 0x18, severity := 2, unit := .pair 0, reactions := [8] }
  else s

/-! ### The flash directory and the anti-rollback value (14 R416, R422, R424) -/

/-- A directory record (Table 14-3). -/
def dirBytes (gen active : Nat) (trial : Bool) (attempts imgsel : Nat) : Bytes :=
  let b := leBytes 4 0x4B444952 ++ leBytes 4 1 ++ leBytes 4 gen ++ leBytes 4 (active % 2 + 2 * trial.toNat + 4 * (attempts % 4) + 16 * (imgsel % 2)) ++
    zeros 44
  b ++ leBytes 4 (crc32c b)

/-- CHECK of a directory copy is correct. -/
def dirOk (b : Bytes) : Bool := b.length == 64 && num b 0x3C 4 == crc32c (b.take 0x3C)

/-- The copy that the boot ROM uses: the higher GEN among those whose CHECK is correct. -/
def Flash.dirUsed (f : Flash) : Option Nat :=
  let ok (i : Nat) : Bool := dirOk (f.dirs.getD i [])
  let gen (i : Nat) : Nat := num (f.dirs.getD i []) 8 4
  if ok 0 && ok 1 then some (if gen 1 > gen 0 then 1 else 0) else if ok 0 then some 0 else if ok 1 then some 1 else none

/-- The record in force; when both copies fail, slot 0 with TRIAL clear. -/
def Flash.dir (f : Flash) : Bytes := match f.dirUsed with
  | some i => f.dirs.getD i []
  | none => zeros 64

def Flash.gen (f : Flash) : Nat := num f.dir 8 4
def Flash.active (f : Flash) : Nat := num f.dir 0xC 4 % 2
def Flash.trial (f : Flash) : Bool := bit (num f.dir 0xC 4) 1
def Flash.attempts (f : Flash) : Nat := bits (num f.dir 0xC 4) 3 2
def Flash.imgsel (f : Flash) : Nat := bits (num f.dir 0xC 4) 4 4

/-- Write the directory copy that is not in use, with GEN + 1 (R416). -/
def Flash.writeDir (active : Nat) (trial : Bool) (attempts imgsel : Nat) (f : Flash) : Flash :=
  let n := 1 - f.dirUsed.getD 1
  { f with dirs := f.dirs.set n (dirBytes (f.gen + 1) active trial attempts imgsel), dirBusy := some n }

/-- A directory copy that changes the firmware fields alone. -/
def Flash.writeDirectory (active : Nat) (trial : Bool) (attempts : Nat) (f : Flash) : Flash := f.writeDir active trial attempts f.imgsel

/-- What is written to the flash, the fuses and the control rows stands: no loss of power can tear it any more (log 92). -/
def State.writesStand (s : State) : State :=
  (s.onFlash fun f => { f with dirBusy := none, fuseBusy := false }).onKeep fun k => { k with protectBusy := false }

/-- The anti-rollback value in force (R422). -/
def Flash.arbValue (f : Flash) : Nat := (f.arb.filterMap id).foldl max 0

/-! ### Firmware slots (14 R417, R418) -/

/-- Offsets of a slot's parts (R417): certificate, signatures, body. -/
def fwCertAt : Nat := 0x100
def fwEdAt : Nat := 0x166D
def fwMlAt : Nat := 0x16AD
def fwBodyAt : Nat := 0x2400

/-- The header and the certificate of a slot. -/
def fwHeader (f : FwSlot) : Bytes := f.bytes.take fwCertAt
def fwCert (f : FwSlot) : Bytes := (f.bytes.drop fwCertAt).take 5485

/-- Fields of the header (Table 14-4). -/
def fwRollfwd (f : FwSlot) : Bool := bit (num (fwHeader f) 4 4) 16
def fwRecovery (f : FwSlot) : Bool := bit (num (fwHeader f) 4 4) 17
def fwVersion (f : FwSlot) : Nat := num (fwHeader f) 8 4
def fwBodyLen (f : FwSlot) : Nat := num (fwHeader f) 0xC 4
def fwSecver (f : FwSlot) : Nat := num (fwHeader f) 0x10 8
def fwKeyid (f : FwSlot) : Bytes := slice (fwHeader f) 0x18 8
def fwBodyDigest (f : FwSlot) : Bytes := slice (fwHeader f) 0x20 64

/-- The firmware measurement: the first 32 bytes of SHAKE256 over the header (R417). -/
def fwMeasure (f : FwSlot) : Bytes := digest32 (fwHeader f)

/-- MAGIC, VERSION, BODYLEN in its range, and every reserved field 0; RECOVERY firmware stands in the recovery area only. -/
def fwHeaderOk (recoveryArea : Bool) (f : FwSlot) : Bool :=
  (fwHeader f).length == 256 && num (fwHeader f) 0 4 == 0x4B46574D && num (fwHeader f) 4 2 == 1 && bits (num (fwHeader f) 4 4) 31 18 == 0 &&
    (slice (fwHeader f) 0x60 160).all (· == 0#8) && decide (1 ≤ fwBodyLen f) &&
    decide (fwBodyLen f ≤ if recoveryArea then 2087936 else 4185088) && (recoveryArea || !fwRecovery f)

/-- The certificate has ROLE firmware-signing, the header's KEYID and the fields of its role (Table 14-6), and chains to the root. -/
def fwCertOk (f : FwSlot) : Bool :=
  (fwCert f).length == 5485 && num (fwCert f) 0 4 == 0x4B524354 && num (fwCert f) 4 4 == 0x20001 && slice (fwCert f) 8 8 == fwKeyid f &&
    (slice (fwCert f) 0x18 104).all (· == 0#8) && f.chainOk

/-- The BODYLEN bytes of the body, which the boot ROM loads into base-die SRAM. -/
def fwBody (f : FwSlot) : Bytes := (f.bytes.drop fwBodyAt).take (fwBodyLen f)

/-- The body is whole, and its SHA-512 is BODYDIGEST. -/
def fwBodyOk (f : FwSlot) : Bool := (fwBody f).length == fwBodyLen f && sha512 (fwBody f) == fwBodyDigest f

/-- R418: a firmware slot is accepted. -/
def FwSlot.accepted (arb : Nat) (recoveryArea : Bool) (f : FwSlot) : Bool :=
  fwHeaderOk recoveryArea f && fwCertOk f && f.edOk && f.mlOk && fwBodyOk f && decide (arb ≤ fwSecver f)

/-- Firmware slot i (2: the recovery area) passes R418. -/
def Flash.slotOk (f : Flash) (i : Nat) : Bool := (f.slots[i]?.map (FwSlot.accepted f.arbValue (i == 2))).getD false

/-- The anti-rollback value advances when the device has reached SERVING (R424). -/
def State.advanceRollback (s : State) : State :=
  let secver (i : Nat) : Nat := (s.flash.slots[i]?.map fwSecver).getD 0
  let v := min (secver 0) (secver 1)
  let row := s.flash.arb.length
  if s.dev.state = .serving ∧ s.dev.rollfwd ∧ ¬ s.flash.trial ∧ s.flash.slotOk 0 ∧ s.flash.slotOk 1 ∧ s.flash.arbValue < v ∧ row < 64 then
    if Config.fuseRowOk row then
      (s.onFlash fun f => { f with arb := f.arb ++ [some v], fuseBusy := true }).record { kind := 0x43, severity := 0, unit := .sec }
    else (s.onFlash fun f => { f with arb := f.arb ++ [none] }).record { kind := 0x44, severity := 1, unit := .sec }
  else s

/-- READY to SERVING without command while 2000.03 is 1, with a selected image and the group formed; DEGRADED serves in its place
(13 Table 13-8, R297). Looked at on entry into READY, when the first image is selected and when the group forms (log 33). -/
def State.autoStart (s : State) : State :=
  if s.setting 0x2000 3 1 = 1 ∧ s.capo.selected.isSome ∧ ¬ s.dev.noImage ∧ s.group.formed ∧ ¬ s.dev.debug ∧
      (s.dev.state = .ready ∨ s.dev.state = .degraded) then
    (s.onDev fun d =>
      { d with state := if d.state = .ready then .serving else d.state, batchOpening := true, drained := false }).raiseFloor.advanceRollback
  else s

/-- The device reaches READY from SELFTEST or SAFE (13 Table 13-8, R297); a firmware that does from a trial slot has its TRIAL cleared
(14 R419): that is the slot named by ACTIVE, and not one that FIRMWARE_ACTIVATE has named for the next reset. -/
def State.becomeReady (s : State) : State :=
  let s0 := s.onDev fun d => { d with state := .ready, batchOpening := false, draining := false, drained := false }
  let s1 := if s0.flash.trial && s0.dev.bootPath == 0 && !s0.flash.activateNext then s0.onFlash fun f => f.writeDirectory f.active false 0 else s0
  let s2 := if s1.degradedCondition then s1.degrade else s1
  s2.autoStart

/-- The device is frozen by a hard stop, or HALTED: no unit accepts another handshake (16 R480). -/
def State.frozen (s : State) : Bool := s.dev.stopping || s.dev.state == .halted

/-- The device serves in a group; and it is not the group's leader. Commands of the group are accepted on the leader alone
(12_exham_group.md R376). -/
def State.inGroup (s : State) : Bool := decide (s.group.members.length > 1)
def State.notLeader (s : State) : Bool := s.inGroup && s.group.leader != s.group.devno

/-! ### Objects and their sources (07 R186, R187) -/

/-- The manifest entry of a key (entry number + 1) of a side's image. -/
def State.keyEntry (s : State) (side key : Nat) : Option (Image × Entry) :=
  if key = 0 then none else s.entryAt side (key - 1)

/-- The shard of a key as DRAM holds it, checked again: its digest is that of its entry, and its bitmap is `want` (R186). -/
def State.keyShard (s : State) (side key : Nat) (want : Bytes) : Option Bytes :=
  if key = 0 then none
  else ((s.capo.objects.find? fun e => e.1 == side * 8192 + key - 1).map (·.2)).filter fun o =>
    shardDigest o == want && (s.keyEntry side key).elim true fun e => digest32 o == e.2.digest

/-- Sources that can supply an entry, in the order of Table 07-4. -/
def State.sourcesOf (s : State) (i : Image) (e : Entry) : List Nat :=
  let delivered := s.capo.arrived.any fun r => r.1 ≤ e.offset && e.offset + e.length ≤ r.1 + r.2
  let near := (List.range 24).filter fun n =>
    n != s.group.devno && !s.capo.excluded.contains n && s.capo.neighbours.any fun o => o.1 == n && o.2 == e.digest
  let sorted := near.mergeSort fun a b => decide (hops s.group.arrange s.group.devno a ≤ hops s.group.arrange s.group.devno b)
  (if delivered then [0] else []) ++ sorted.map (· + 1) ++
    (if s.flash.images.any fun f => f.2.progid == i.progid && f.2.imgseq == i.imgseq then [25] else [])

/-- The first source of an entry that has not failed. -/
def State.nextSource (s : State) (i : Image) (e : Entry) : Option Nat := (s.sourcesOf i e).find? fun k => !e.tried.contains k

/-- The source that an entry is asked from now: the one that was asked, or the one whose turn it is. -/
def State.sourceNow (s : State) (i : Image) (e : Entry) : Option Nat := e.asked.orElse fun _ => s.nextSource i e

/-- Ask the source whose turn it is for an entry of a side's image. A neighbour is asked by a REQUEST message; the delivery region and boot
flash give the object without one (R187). -/
def State.askAt (side n : Nat) (s : State) : State :=
  match s.entryAt side n with
  | some (i, e) =>
    let s1 := s.onEntryAt side n fun x => { x with asked := s.nextSource i e }
    match s.nextSource i e with
    | some k => if 1 ≤ k ∧ k < 25 then s1.groupMsg 0x31 (k - 1) [] e.digest else s1
    | none => s1
  | none => s

/-- An object that DRAM should hold is fetched again, from the first source on (04 R122, 05 R156, 07 R216). A fetch under way goes on. -/
def State.fetchAgain (side n : Nat) (s : State) : State :=
  match s.entryAt side n with
  | some (_, e) => if e.asked.isSome then s else (s.onEntryAt side n fun x => { x with tried := [], round := 0 }).askAt side n
  | none => s

/-! ### Wear (R211, R212; 15_keep_store.md R448) -/

/-- A plane wear record (Table 07-8). -/
def Plane.wearBytes (p : Plane) : Bytes :=
  leBytes 4 (min p.writes 0xFFFFFFFF) ++ leBytes 4 (min p.retryLoops 0xFFFFFFFF) ++ leBytes 2 p.failCount ++ leBytes 2 p.lastMargin ++
    leBytes 2 p.peakMargin ++ leBytes 2 p.endurance

/-- Whether x and y lie on different sides of a threshold. -/
def crosses (th x y : Nat) : Bool := (x < th) != (y < th)

/-- Append the record of a plane when R448 asks for it; `p` is the plane before the write or the scan. -/
def State.appendWear (plane : Nat) (p : Plane) (s : State) : State :=
  let q := s.plane plane
  let m := q.lastMargin
  let due := p.writes != q.writes || p.retryLoops != q.retryLoops || p.failCount != q.failCount || p.endurance != q.endurance ||
    p.peakMargin != q.peakMargin || 16 ≤ m - p.storedMargin || 16 ≤ p.storedMargin - m ||
    crosses (s.setting 0x2230 1 64) p.storedMargin m || crosses (s.setting 0x2230 2 1024) p.storedMargin m
  if due then (s.onPlane plane fun x => { x with storedMargin := m }).append 3 0x20 plane q.wearBytes else s

/-- A write of a plane has ended: WRITES advances when it pulsed a cell, and ENDURANCE follows (R212). -/
def State.countWrite (plane : Nat) (s : State) : State :=
  let p := s.plane plane
  if p.pulsed then
    let w := p.writes + 1
    let e := if w ≥ 100000 then 2 else if w ≥ 90000 then 1 else 0
    let s1 := s.onPlane plane fun x => { x with writes := w, endurance := e, peakMargin := 0 }
    let u := UnitId.site (plane / 2)
    if e = 2 ∧ p.endurance ≠ 2 then s1.record { kind := 0x10, severity := 2, unit := u }
    else if e = 1 ∧ p.endurance = 0 then s1.record { kind := 0x10, severity := 1, unit := u }
    else s1
  else s

/-! ### Plane writes -/

/-- The write in progress of a plane is given up: it counts when it pulsed a cell (07 R211). A loop that runs goes on to its end (R193), and
counts as a retry loop when it is one (R211). -/
def State.dropWrite (plane : Nat) (s : State) : State :=
  let p := s.plane plane
  if p.cls = 0 then s
  else
    let s1 := s.onPlane plane fun x => { x with pulsed := x.pulsed || x.running != 0 }
    let s2 := (s1.countWrite plane).onPlane plane fun x =>
      { x with cls := 0, pulsed := false, awaits := false, loops := 0
               dropped := if x.running ≠ 0 ∧ x.dropped.isNone then some (decide (x.loops ≥ 1)) else x.dropped }
    (s2.appendWear plane p).onCapo fun c => { c with vppQueue := c.vppQueue.filter fun w => w.1 != plane }

/-- Begin to write a plane: every row from the pre-read on (07 R190). `want` is the shard's BMDIGEST, empty for the drone
plane pattern; `key` its manifest entry + 1, 0 for none; `cls` its VPP_W class (07 R193). -/
def State.startWrite (plane : Nat) (want : Bytes) (key fmt cls : Nat) (s : State) : State :=
  (s.dropWrite plane).onPlane plane fun p =>
    { p with want := want, wantKey := key, wtfmt := fmt, cls := cls, row := if p.running = 0 then 0 else p.row, loops := 0, retry := 0
             pulsed := false, written := false, isSealed := false, awaits := false }

/-- A write whose shard DRAM no longer holds waits, and the shard is fetched (07 R216). -/
def State.awaitShard (plane : Nat) (s : State) : State :=
  let p := s.plane plane
  if p.want.isEmpty ∨ (s.keyShard (plane % 2) p.wantKey p.want).isSome = true then s
  else
    let s1 := s.onPlane plane fun p => { p with awaits := true }
    if p.wantKey = 0 then s1 else s1.fetchAgain (plane % 2) (p.wantKey - 1)

/-- Order a substitution for a site (02 R66, Table 02-11 order 1): it enters RETIRING, site 4 enters COPYING and begins to
write the failing site's selected plane with VPP_W priority 1, from its shard in DRAM or from the sources of 07 Table 07-4 (R67, R216). A
standby whose plane is at its endurance limit is never written again (07 R212), so it is no usable one: the site is RETIRING then, with no
substitution under way. -/
def State.orderSubstitution (n : Nat) (s : State) : State :=
  let core := n / 5
  let side := s.sideOf core (s.dev.bOpen.getD 0)
  if (s.plane (2 * (core * 5 + 4) + side)).endurance = 2 then s.onSite n fun x => { x with state := .retiring } else
  let p := s.plane (2 * n + side)
  let s1 := s.onSite n fun x => { x with state := .retiring }
  let s2 := s1.onSite (core * 5 + 4) fun x =>
    { x with state := .copying, copyFor := some (n % 5), copyStage := 2, copyTries := 0 }
  (s2.startWrite (2 * (core * 5 + 4) + side) p.shard p.shardKey p.wtfmt 1).awaitShard (2 * (core * 5 + 4) + side)

/-! ### Failed checks and retirement (10 R292 to R296) -/

/-- Keep a retirement for the life of the part (R295, 15 Table 15-4 type 0x0021). -/
def State.keepRetirement (u : UnitId) (s : State) : State :=
  let path := unitFullPath s.group.devno u
  ((s.onKeep fun k => { k with retirements := k.retirements ++ [u] }).append 1 0x21
    (leNat ((digest32 path).take 4)) path).lifeCount 6

/-- Record 0x16 for a retired unit. DESIGN CHOICE (00 R10 and Table 10-8a do not say which records of a substitution carry both paths, log 108):
this one names the unit alone, also where its substitution is ordered; record 0x17, of the substitution in effect, carries the substitute in
key 8. -/
def State.recordRetired (u : UnitId) (b : Nat) (reactions : List Nat) (s : State) : State :=
  s.record { kind := 0x16, severity := 2, detected := some b, unit := u, reactions := reactions }

/-- What a reaction DEGRADED of Table 10-7 came to, from `s` to `t`, in the codes of Table 10-10: DEGRADED, or SAFE where 5000.04 asks for it
(R297); none where the device does not serve yet, or is degraded already. -/
def degradeCodes (s t : State) : List Nat :=
  if t.dev.state = s.dev.state then []
  else match t.dev.state with
    | .degraded => [8]
    | .safe => [9]
    | _ => []

/-- Record 0x16 of a retirement that degrades the device: it shows the state after that reaction (Table 10-8a key 12). -/
def State.recordDegrading (u : UnitId) (b : Nat) (reactions : List Nat) (s : State) : State :=
  let t := s.degrade
  t.recordRetired u b (reactions ++ degradeCodes s t)

/-- The logical engine that a site carries is lost: the site leaves, and no site carries the engine any more (R296). -/
def State.loseEngine (n : Nat) (s : State) : State :=
  (s.onSite n Site.retire).onCore (n / 5) fun c => { c with subst := c.subst.map fun k => if k = n % 5 then 0xFF else k }

/-- Every run in a core's RUNMASK dies in a batch. -/
def State.killCoreRunsBy (cause core b : Nat) (s : State) : State :=
  match s.tab? core (s.devSide b) with
  | some t => ((List.range 16).filter (bit t.runmask)).foldl (fun u r => u.killRun b r cause) s
  | none => s

/-- Every run in a core's RUNMASK dies with cause 0x04 in a batch (Table 10-7). -/
def State.killCoreRuns (core b : Nat) (s : State) : State := s.killCoreRunsBy 4 core b

/-- The same in every batch that is alive. -/
def State.killCoreRunsNow (core : Nat) (s : State) : State :=
  (s.walk.batches.map (·.ordinal)).foldl (fun t b => t.killCoreRuns core b) s

/-- Retire a site (Table 10-7, 02 Table 02-12). A second retirement, of a site that is RETIRING, is kept as well, and stays in force (R295,
log 107). -/
def State.retireSite (n b : Nat) (s : State) : State :=
  let u := UnitId.site n
  let standby := n / 5 * 5 + 4
  let x := s.site n
  let side := s.sideOf (n / 5) (s.dev.bOpen.getD 0)
  let usable := n % 5 ≠ 4 ∧ (s.site standby).state = .standby ∧ (s.plane (2 * standby + side)).endurance ≠ 2
  match x.state with
  | .standby =>
    ((s.onSite n Site.retire).keepRetirement u).recordRetired
      u b [5]
  | .copying =>
    let s1 := s.onSite n fun x => { x.retire with copyStage := 0, copyFor := none }
    let s2 := match x.copyFor with
      | some f => s1.onCheck (.site (n / 5 * 5 + f)) fun c => { c with fails := [] }
      | none => s1
    (s2.keepRetirement u).recordDegrading u b [5]
  | .active | .substitute =>
    if usable then
      (((s.onCheck u fun c => { c with retired := true }).orderSubstitution n).keepRetirement u).recordRetired u b [5, 6]
    else
      ((s.onSite n fun x => { x with state := .retiring, check := { x.check with retired := true, fails := [] } }).keepRetirement
        u).recordDegrading u b [5]
  | .retiring =>
    if (s.site standby).state = .copying ∨ x.leaving then s
    else ((s.onSite n fun x => { x with leaving := true }).keepRetirement u).recordDegrading u b [5, 7]
  | .retired => s

/-- A site is ordered out (02 R66) for a cause that has a record of its own: the record shows the state after the reaction. -/
def State.orderOut (n b : Nat) (r : Rec) (s : State) : State :=
  let t := s.retireSite n b
  let standby := n / 5 * 5 + 4
  let ordered := (t.site standby).state == .copying && (s.site standby).state != .copying
  t.record { r with reactions := (if ordered then [6] else [5]) ++ degradeCodes s t }

/-- Retire a unit (Table 10-7). -/
def State.retire (u : UnitId) (b : Nat) (s : State) : State :=
  match u with
  | .site n => s.retireSite n b
  | .array _ =>
    ((s.onCheck u fun c => { c with retired := true }).keepRetirement u).recordDegrading u b [5]
  | .core n =>
    (((s.onCheck u fun c => { c with retired := true }).killCoreRunsNow n).keepRetirement u).recordDegrading u b [5, 2]
  | .shared cl =>
    (((List.range 8).foldl (fun t i => t.killCoreRunsNow (cl * 8 + i)) (s.onCheck u fun c => { c with retired := true })).keepRetirement
      u).recordDegrading u b [5, 2]
  | _ => s

/-- Whether a unit can still be charged: it is a unit of R292 that is not retired, or a site that is RETIRING with no standby on its
way. -/
def State.chargeable (s : State) (u : UnitId) : Bool :=
  match u with
  | .site n =>
    let x := s.site n
    !x.check.retired || (x.state == .retiring && (s.site (n / 5 * 5 + 4)).state != .copying && !x.leaving)
  | .core _ | .array _ | .shared _ => !(s.check u).retired
  | _ => false

/-- Charge one failed check (R293): SUSPECT at the first, retired at the third within 1,024 ordinals. -/
def State.chargeFail (u : UnitId) (b : Nat) (s : State) : State :=
  if s.chargeable u then
    let l := recentFails b (s.check u).fails ++ [b]
    let s1 := s.onCheck u fun c => { c with fails := l }
    let s2 :=
      if (s.check u).suspect then s1
      else (s1.onCheck u fun c => { c with suspect := true }).record
        { kind := 0x14, severity := 1, detected := some b, unit := u, reactions := [4], detail := [(9, .num l.length)] }
    if l.length ≥ 3 then s2.retire u b else s2
  else s

/-- What a charge brought to a unit, as reaction codes of Table 10-10: SUSPECT, retired. -/
def State.chargeCodes (s t : State) (u : UnitId) : List Nat :=
  (if (t.check u).suspect && !(s.check u).suspect then [4] else []) ++ (if (t.check u).retired && !(s.check u).retired then [5] else [])

/-- Charge one failed check, and write the record of the event that it is charged for: the record shows the state after the reaction, what
the charge brought to the unit, and the failed checks in the window (Table 10-8a keys 11, 12 and detail key 9; log 88). -/
def State.chargeRecord (r : Rec) (b : Nat) (s : State) : State :=
  let n := (recentFails b (s.check r.unit).fails).length + 1
  let t := s.chargeFail r.unit b
  let codes := r.reactions.filter (· != 0) ++ s.chargeCodes t r.unit
  t.record
    { r with reactions := if codes.isEmpty then [0] else codes
             detail := r.detail.filter (·.1 < 9) ++ [(9, .num n)] ++ r.detail.filter (9 < ·.1) }

/-- A unit passes a check in a batch (R301). -/
def State.passCheck (u : UnitId) (b : Nat) (s : State) : State :=
  s.onCheck u fun c => { c with lastPass := some (max b (c.lastPass.getD 0)) }

/-- Every tile run on a core is duplicated: the core is SUSPECT (R279). -/
def State.coreFullDup (s : State) (core : Nat) : Bool := (s.core core).check.suspect && !(s.core core).check.retired

/-- Every tile of a site is duplicated: it is SUSPECT or RETIRING, or its core is SUSPECT (R279). -/
def State.siteFullDup (s : State) (n : Nat) : Bool :=
  let x := s.site n
  x.state == .retiring || (x.check.suspect && !x.check.retired) || s.coreFullDup (n / 5)

/-- Every DIG step of an array is duplicated (R279). -/
def State.arrayFullDup (s : State) (cl : Nat) : Bool :=
  (s.cluster cl).arrayCheck.suspect && !(s.cluster cl).arrayCheck.retired

/-- The clusters in the order of R287: ascending, cyclically from the one above `p`. -/
def clustersFrom (p : Nat) : List Nat := (List.range 32).map fun i => (p + 1 + i) % 32

/-- The third unit of R287: the first active cluster in that order that is none of `excl` and whose array is not RETIRED;
SUSPECT arrays only in the second pass. -/
def State.thirdUnit (s : State) (primary : Nat) (excl : List Nat) : Option Nat :=
  let ok (c : Nat) := s.clusterActive c && !excl.contains c && !(s.cluster c).arrayCheck.retired
  match (clustersFrom primary).find? fun c => ok c && !(s.cluster c).arrayCheck.suspect with
  | some c => some c
  | none => (clustersFrom primary).find? ok

/-- The partner array of a cluster: the one that R287 would choose as a third unit for it (R279, R295). -/
def State.partner (s : State) (cl : Nat) : Option Nat := s.thirdUnit cl [cl]

/-- The array that does a cluster's array work: its own, or its partner once it is RETIRED (Table 10-7). -/
def State.arrayFor (s : State) (cl : Nat) : Option Nat :=
  if (s.cluster cl).arrayCheck.retired then s.partner cl else some cl

end Sys2Proof.Machine
end

