-- ==== Sys2Proof/Machine/Trace.lean ====
section
/-!
DEFINITION. Trace records with the sync rings and the trace region, and the tensor watch (16_observation.md R470 to R475).
-/

namespace Sys2Proof.Machine

/-- The fields of a trace record that the event gives (Table 16-3); the durations and CAL are added when it is written. -/
structure TraceRec where
  ordinal : Nat
  kind : Nat
  chan : Nat := 0
  run : Nat := 0
  stepno : Nat := 0
  unit : Nat
  partner : Nat := 0
  svc : Bool := false
  isEmpty : Bool := false
  dead : Bool := false
  markid : Nat := 0
  deriving DecidableEq, Repr

/-- The 32 bytes of a record (Table 16-3). -/
def TraceRec.bytes (r : TraceRec) (waited start cal seq : Nat) : Bytes :=
  leBytes 8 (r.ordinal + r.kind * 2 ^ 48 + r.chan * 2 ^ 52 + r.run * 2 ^ 56) ++
  leBytes 8 (r.stepno + r.unit * 2 ^ 24 + r.partner * 2 ^ 37 + r.svc.toNat * 2 ^ 50 + r.isEmpty.toNat * 2 ^ 51 +
    r.dead.toNat * 2 ^ 52) ++
  leBytes 4 waited ++ leBytes 4 start ++
  leBytes 8 (cal % 2 ^ 24 + seq % 256 * 2 ^ 24 + r.markid % 65536 * 2 ^ 32)

/-- Records that the trace region holds: 256 MiB × SIZE less the 32 MiB watch area, in 32-byte slots (R472). -/
def State.traceCapacity (s : State) : Nat := (s.obs.traceSize * 2 ^ 28 - 2 ^ 25) / 32

/-- SOURCES admits a kind (R472). -/
def traceAdmits (sources kind : Nat) : Bool :=
  if kind ≤ 5 then bit sources 0 else if kind ≤ 7 then bit sources 1 else bit sources 2

/-- Write a record to the region (R472): a ring in MODE 0, until it is full in MODE 1. `cl` is the recording cluster, 32 for
a base-die service. The cap of R473 costs time only here: no buffer of waiting records fills (log 9). -/
def State.traceRegion (cl kind : Nat) (b : Bytes) (s : State) : State :=
  if s.obs.traceEnable = 1 ∧ traceAdmits s.obs.traceSources kind then
    let cap := s.traceCapacity
    let n := s.obs.trace.length
    if s.obs.traceMode = 1 ∧ cap ≤ n then
      (s.onObs fun o => { o with traceDropped := o.traceDropped + 1 }).countEvent cl 0x4F 1
    else
      let slot := s.obs.traceWritten % cap
      (s.onObs fun o =>
        { o with
          trace := if slot < n then o.trace.set slot b else o.trace ++ [b]
          traceWritten := o.traceWritten + 1
          traceWraps := if slot = 0 ∧ o.traceWritten ≠ 0 then o.traceWraps + 1 else o.traceWraps }).countEvent cl 0x4E 1
  else s

/-- Write a record to its ring, which holds the last 64, and to the region (R470, R472). `ring` is the core ordinal, or 256 +
the service; WAITED and START are free values, since they are times (log 2). -/
def State.trace (ring cal : Nat) (waitedZero : Bool) (r : TraceRec) (s : State) : State :=
  let waited := if waitedZero then 0 else s.freeValue % 2 ^ 32
  let start := s.useFree.freeValue % 2 ^ 32
  let seq := tget0 0 s.obs.ringSeq ring
  let b := r.bytes waited start cal seq
  let s1 := s.useFree.useFree.onObs fun o =>
    { o with
      rings := tmod0 [] ring (fun l => (l ++ [b]).drop (l.length + 1 - 64)) o.rings
      ringSeq := tput0 0 ring ((seq + 1) % 256) o.ringSeq }
  s1.traceRegion (if ring < 256 then ring / 8 else 32) r.kind b

/-- A record of a core. -/
def State.traceCore (core : Nat) (waitedZero : Bool) (r : TraceRec) (s : State) : State :=
  s.trace core (s.core core).cal waitedZero r

/-! ### Lines as dumps show them (R475, R482) -/

/-- 68 bytes a line: 64 data bytes, then a word with the poison tag in bit 16. No word stays stored with bad parity: a bad
word is repaired or its line poisoned where it is read (R271). -/
def State.dumpLines (s : State) (a : Area) (first n : Nat) : Bytes :=
  (List.range n).flatMap fun i =>
    s.load a ((first + i) * 64) 64 ++ leBytes 4 (if s.poisoned a (first + i) then 65536 else 0)

/-- The watch header: Table 16-4 again, and MASKED and DEAD in bits 0 and 1 of the word at 0x18 (DESIGN CHOICE: the spec says
that the header carries them and not where; log 10). -/
def watchHeader (w : Watch) (masked dead : Bool) : Bytes :=
  leBytes 4 w.core ++ leBytes 4 (w.stepno + w.bufidx * 2 ^ 24) ++ leBytes 8 (w.ordinal + 2 ^ 48) ++
  leBytes 4 w.first ++ leBytes 4 w.lines ++ leBytes 8 (masked.toNat + dead.toNat * 2)

/-- The lines of a watch's buffer. -/
def State.watchLines (s : State) (core b : Nat) (t : Tab) : Option (Area × Nat × Nat) :=
  let w := s.obs.watch
  match t.bufs[w.bufidx]? with
  | some u =>
    match s.areaOf core b t { space := u.space, unit := u.unit, line := u.base } with
    | some a => if w.first + w.lines ≤ u.length then some (a, u.base + w.first, w.lines) else none
    | none => none
  | none => none

/-- A step of a core completes in batch b: an armed watch that names it is taken (R475). A watch whose buffer or lines do not
exist in the tab is missed (log 10). -/
def State.watchStep (core b stepno : Nat) (masked dead : Bool) (s : State) : State :=
  let w := s.obs.watch
  if s.obs.watchState = 1 ∧ w.core = core ∧ w.stepno = stepno ∧ w.ordinal = b then
    match s.tab? core (s.core core).side with
    | some t =>
      match s.watchLines core b t with
      | some (a, first, n) =>
        (s.onObs fun o =>
          { o with watchState := 2, watchData := watchHeader w masked dead ++ s.dumpLines a first n }).countEvent
            (core / 8) 0x50 1
      | none => s.missWatch
    | none => s.missWatch
  else s

end Sys2Proof.Machine
end

