-- ==== Sys2Proof/Machine/Sequencer.lean ====
section
/-!
DEFINITION. The sequencer: descriptors, the resources of a step, when a step can issue, what issue and completion do, decision
records, and the ends of runs (05_tablature.md R134, R135, R142, R143, R150, R158; 04_digital_arrays.md R115;
08_bit_identity_and_seals.md R221, R241; 10_fault_containment.md R278, R291).
-/

namespace Sys2Proof.Machine

/-! ### Array descriptors (Table 04-3) -/

/-- An array descriptor as its 32 bytes give it. -/
structure ADesc where
  op : Nat
  infmt : Nat
  wtfmt : Nat
  rowForm : Bool
  k : Nat
  n : Nat
  v : Nat
  inaddr : Nat
  waddr : Nat
  outaddr : Nat
  scaleaddr : Nat
  wpitch : Nat
  bdesc : Nat
  rsvd : Bool
  deriving DecidableEq, Repr

def parseADesc (b : Bytes) : ADesc :=
  let w (i : Nat) := num b (4 * i) 4
  { op := bits (w 0) 3 0, infmt := bits (w 0) 6 4, wtfmt := bits (w 0) 10 8, rowForm := bit (w 0) 11
    k := bits (w 1) 12 0, n := bits (w 1) 25 16, v := bits (w 2) 8 0, inaddr := bits (w 3) 16 0
    waddr := bits (w 4) 16 0, outaddr := bits (w 5) 16 0, scaleaddr := bits (w 6) 16 0, wpitch := bits (w 7) 15 0
    bdesc := bits (w 7) 30 16
    rsvd := bit (w 0) 7 || bits (w 0) 31 12 != 0 || bits (w 1) 15 13 != 0 || bits (w 1) 31 26 != 0 ||
      bits (w 2) 31 9 != 0 || bits (w 3) 31 17 != 0 || bits (w 4) 31 17 != 0 || bits (w 5) 31 17 != 0 ||
      bits (w 6) 31 17 != 0 || bit (w 7) 31 }

/-- The 32 bytes at a descriptor address, none outside the descriptor section (R157). -/
def State.descriptor (s : State) (core : Nat) (t : Tab) (addr : Nat) : Option Bytes :=
  if t.descbase ≤ addr ∧ addr < t.descbase + t.desclen then some (s.load (.sram core) (addr * 32) 32) else none

/-! ### Resources (R135) -/

/-- The buffer resource of an operand, if a buffer contains its first line. -/
def Tab.bufRes (t : Tab) (o : Opnd) : List Res := (t.bufOf o).toList.map .buffer

/-- A soundboard operand of a core's own cluster. -/
def sbOpnd (line : Nat) : Opnd := { space := 1, line := line }
def sramOpnd (line : Nat) : Opnd := { space := 0, line := line }

/-- The tile offset of a step in lines: T × TSTRIDE, 0 while T holds NONE. -/
def tileOffset (c : Core) (w : StepWord) : Nat :=
  let t := stepTile c w
  if t = 65535 then 0 else t * stepStride w

/-- The tile multiple for position fields. -/
def tileMul (c : Core) (w : StepWord) : Nat :=
  let t := stepTile c w
  if t = 65535 then 0 else t

/-- Source and destination of a MOVE step, after the tile offset (Table 05-7). -/
def moveSrc (c : Core) (w : StepWord) : Opnd :=
  let sp := sfld w 4 2 0
  { space := sp, unit := if 4 ≤ sp then sfld w 4 18 6 else 0, line := sfld w 8 28 0 + tileOffset c w }
def moveDst (c : Core) (w : StepWord) : Opnd :=
  let sp := sfld w 4 5 3
  { space := sp, unit := if 4 ≤ sp then sfld w 4 18 6 else 0, line := sfld w 0xC 28 0 + tileOffset c w }

/-- Every resource that a step reads, and every one that it writes. -/
def State.stepRes (s : State) (core : Nat) (t : Tab) (w : StepWord) : List Res × List Res :=
  let c := s.core core
  let off := tileOffset c w
  let base := (if kindObeysPred (stepKind w) ∨ stepKind w = 6 then [Res.pred (stepPred w)] else []) ++
    (if stepStride w ≠ 0 then [Res.tile (stepTreg w)] else [])
  match stepKind w with
  | 1 =>
    let mode := sfld w 0xC 15 14
    let bank := Res.bank (sfld w 0xC 17 16)
    (base ++ [.limit (sfld w 0x10 2 0), .limit (sfld w 0x10 5 3), .limit (sfld w 0x10 8 6)] ++
      t.bufRes (sramOpnd (sfld w 0xC 13 0 + off)) ++ (if mode = 1 then [bank] else []),
     if mode = 2 then t.bufRes (sramOpnd (sfld w 0xC 31 18 + off)) else [bank])
  | 2 =>
    let d := parseADesc ((s.descriptor core t (sfld w 4 14 0)).getD [])
    let lut := (parseBDesc ((s.descriptor core t d.bdesc).getD []))
    (base ++ [.limit (sfld w 4 17 15), .limit (sfld w 4 20 18)] ++ t.bufRes (sbOpnd (d.inaddr + off)) ++
      t.bufRes (sbOpnd d.waddr) ++
      (if d.op = 0 then t.bufRes (sbOpnd d.scaleaddr) ++
        (if lut.act = 2 then t.bufRes (sbOpnd (lut.lutaddr * 4)) else []) else []),
     t.bufRes (sbOpnd (d.outaddr + off)))
  | 3 =>
    let dst := t.bufRes (moveDst c w)
    (base ++ [.limit (sfld w 4 22 20)] ++ t.bufRes (moveSrc c w) ++ (if sfld w 4 19 19 = 1 then dst else []), dst)
  | 4 =>
    let d := parseBDesc ((s.descriptor core t (sfld w 4 14 0)).getD [])
    let out := { space := sfld w 8 17 17, line := sfld w 8 16 0 + off : Opnd }
    (base ++ [.limit (sfld w 0xC 2 0), .limit (sfld w 0xC 5 3)] ++
      (if sfld w 4 18 17 = 0 then [Res.bank (sfld w 4 16 15)] else t.bufRes (sramOpnd (sfld w 8 31 18 + off))) ++
      (if d.act = 2 then t.bufRes (sbOpnd (d.lutaddr * 4)) else []),
     t.bufRes out)
  | 5 => (base, [.tile (sfld w 4 5 4), .pred (sfld w 4 8 6)])
  | 7 => (base, [.pred (sfld w 8 26 24)])
  | 8 =>
    let addr := sfld w 8 20 0
    (base ++ (match sfld w 4 1 0 with
      | 1 => t.bufRes (sramOpnd (addr / 16))
      | 2 => t.bufRes (sbOpnd (addr / 16))
      | _ => []),
     [.limit (sfld w 4 4 2), .pred (sfld w 4 7 5)])
  | 9 =>
    let sb := t.bufRes (sbOpnd (sfld w 0xC 16 0 + off))
    let lst := if sfld w 4 1 1 = 1 then t.bufRes (sbOpnd (sfld w 0x10 16 0 + off)) else []
    (base ++ [.limit (sfld w 4 4 2)] ++ lst ++ (if sfld w 4 0 0 = 1 then sb else []),
     if sfld w 4 0 0 = 0 then sb else [])
  | 10 => (base, t.bufRes (sramOpnd (sfld w 8 13 0)))
  | _ => (base, [])

/-- P0 and L0 cannot be written, so they are no hazard. -/
def Res.real : Res → Bool
  | .pred n | .limit n => n != 0
  | _ => true

/-- Whether an incomplete step conflicts with a new one (R135). -/
def InFlight.conflicts (f : InFlight) (reads writes : List Res) : Bool :=
  f.writes.any (fun r => r.real && (reads.contains r || writes.contains r)) ||
    f.reads.any fun r => r.real && writes.contains r

/-! ### Live DRONE steps (R154, R285) -/

/-- Every drone slot of a core is live in every batch: the core, one of its sites or its cluster's shared unit is SUSPECT. -/
def State.droneAlways (s : State) (core : Nat) : Bool :=
  let sus (c : Check) := c.suspect && !c.retired
  sus (s.core core).check || sus (s.cluster (core / 8)).sharedCheck ||
    (List.range 5).any fun i => sus (s.site (core * 5 + i)).check

/-- Whether a DRONE step is live in batch b. -/
def State.stepLive (s : State) (core b : Nat) (w : StepWord) : Bool :=
  b % (sfld w 4 9 7 + 1) == sfld w 4 12 10 || (sfld w 4 1 0 == 0 && s.droneAlways core)

/-- The sites that a DRONE step names: logical engines by the substitution table, and site 4 while it is STANDBY. -/
def State.droneSites (s : State) (core : Nat) (w : StepWord) : List Nat :=
  let m := sfld w 4 6 2
  ((List.range 4).filterMap fun i => if bit m i then s.siteOf core i else none) ++
    (if bit m 4 && (s.site (core * 5 + 4)).state == .standby then [core * 5 + 4] else [])

/-! ### Issue (R134, R135) -/

/-- A step that is about to issue. -/
structure Issue where
  b : Nat
  t : Tab
  w : StepWord
  deriving DecidableEq, Repr

/-- Steps of a unit that hold a place in its queue, which is two deep. -/
def Core.queued (c : Core) (unit : Nat) : Nat := (c.flight.filter fun f => f.unit == unit && !f.parked).length

/-- The next step of a core, when the sequencer's state lets steps issue. -/
def State.nextStep? (s : State) (core : Nat) : Option Issue :=
  let c := s.core core
  if (c.seq = .walk ∨ c.seq = .stalled ∨ c.seq = .draining) ∧ ¬ c.refetch then
    match c.cur, s.tab? core c.side with
    | some b, some t =>
      -- a step of a streamed tab issues when the tab buffer holds its block (R155)
      match t.steps[c.next]? with
      | some w => if t.steps.length ≤ 2048 ∨ c.ring.contains (c.next / 256) = true then some ⟨b, t, w⟩ else none
      | none => none
    | _, _ => none
  else none

/-- The conditions of R134 and R135, and what a kind adds: MARK and END wait for every earlier step, and a live DRONE for its sites. -/
def State.roomFor (s : State) (core : Nat) (i : Issue) : Bool :=
  let c := s.core core
  let r := s.stepRes core i.t i.w
  c.queued (stepUnit i.w) < 2 && !c.flight.any (·.conflicts r.1 r.2) &&
  match stepKind i.w with
  | 0 | 12 => c.flight.isEmpty
  | 11 => c.droneLive.isNone && (!s.stepLive core i.b i.w || (s.droneSites core i.w).all fun n => (s.site n).tile.isNone)
  | _ => true

/-- The next step can issue. -/
def State.canIssue (s : State) (core : Nat) : Bool :=
  match s.nextStep? core with
  | some i => s.roomFor core i
  | none => false

/-- The next step of a core, when it has this kind and can issue. -/
def State.issue? (s : State) (core kind : Nat) : Option Issue :=
  match s.nextStep? core with
  | some i => if stepKind i.w = kind ∧ s.roomFor core i then some i else none
  | none => none

/-- WALK while the next step can issue, STALLED while it cannot (Table 05-16). -/
def State.refreshSeq (core : Nat) (s : State) : State :=
  let c := s.core core
  if c.seq = .walk ∨ c.seq = .stalled then
    s.onCore core fun c => { c with seq := if s.canIssue core then .walk else .stalled }
  else s

/-- A step issues: the steps counter advances, and the masked-steps counter for a timed no-op (Table 05-17). -/
def State.issued (core : Nat) (masked : Bool) (s : State) : State :=
  let s1 := (s.onCore core fun c => { c with next := c.next + 1 }).countCore core 1 1
  if masked then s1.countCore core 2 1 else s1

/-- A step stays in flight on its unit; it is masked from its issue on, or not at all (R146). -/
def State.fly (core : Nat) (i : Issue) (parked masked : Bool) (s : State) : State :=
  let r := s.stepRes core i.t i.w
  s.onCore core fun c => { c with flight := c.flight ++ [⟨stepNo i.w, stepUnit i.w, parked, r.1, r.2, masked, 0⟩] }

/-- Lines of the checking area are kept for the captures of a step that waits in its port (06 R172). -/
def State.keepRoom (core stepno n : Nat) (s : State) : State :=
  if n = 0 then s
  else (s.onCore core fun c => { c with flight := c.flight.map fun f => if f.stepno = stepno then { f with room := f.room + n } else f }).onCluster
    (core / 8) fun c => { c with checkLines := c.checkLines + n }

/-- What was kept for a step is free: it captures now, or it has ended. -/
def State.freeRoom (core stepno : Nat) (s : State) : State :=
  let n := (((s.core core).flight.filter fun f => f.stepno == stepno).map (·.room)).sum
  if n = 0 then s
  else (s.onCore core fun c => { c with flight := c.flight.map fun f => if f.stepno = stepno then { f with room := 0 } else f }).onCluster
    (core / 8) fun c => { c with checkLines := c.checkLines - n }

/-- A line is captured in room that was kept for its step. -/
def State.useRoom (core stepno : Nat) (s : State) : State :=
  if (s.core core).flight.any fun f => f.stepno == stepno && f.room != 0 then
    (s.onCore core fun c => { c with flight := c.flight.map fun f => if f.stepno = stepno then { f with room := f.room - 1 } else f }).onCluster
      (core / 8) fun c => { c with checkLines := c.checkLines - 1 }
  else s

/-! ### Completion and the end of runs (R291) -/

/-- The step with which a run ends in a tab: its last run-end MARK, or its last step other than END. -/
def Tab.lastStep (t : Tab) (run : Nat) : Option Nat :=
  let z := t.steps.zipIdx
  let marks := z.filter fun e => stepKind e.1 == 12 && sfld e.1 4 17 16 == 2 && stepRun e.1 == run
  match marks.getLast? with
  | some e => some e.2
  | none => ((z.filter fun e => stepKind e.1 != 0 && stepRun e.1 == run).getLast?).map (·.2)

/-- A step of a core completes: a watch may be taken, a run may end, and a stalled step may go on. -/
def State.completeStep (core b : Nat) (w : StepWord) (masked : Bool) (s : State) : State :=
  let n := stepNo w
  let run := stepRun w
  let s1 := (s.freeRoom core n).onCore core fun c => { c with flight := c.flight.filter fun f => f.stepno != n }
  let s2 := s1.watchStep core b n masked ((s1.core core).dead.contains (b, run))
  let ends := match s2.tab? core (s2.core core).side with
    | some t => t.lastStep run == some n
    | none => false
  let s3 := if ends then s2.onRun b run fun r => { r with ended := insertNew core r.ended } else s2
  s3.refreshSeq core

/-- A step that issues and completes at once. -/
def State.stepDone (core : Nat) (i : Issue) (masked : Bool) (s : State) : State :=
  (s.issued core masked).completeStep core i.b i.w masked

/-! ### Decisions (R150, R151, R221, R241, R278) -/

/-- The selection function of R278 at a fraction code. -/
def sampled (fraction seed b stepno : Nat) : Bool :=
  if fraction = 0 then false
  else
    let x := leNat (shake256 8 (leBytes 8 seed ++ leBytes 8 b ++ leBytes 4 stepno))
    let d := if fraction = 1 then 64 else if fraction = 2 then 16 else if fraction = 3 then 4 else 1
    x % d == 0

/-- The seed that a core draws from: the tab's, or its per-boot seed when SEEDMODE is 1. -/
def State.drawSeed (s : State) (core : Nat) (t : Tab) : Nat := if t.seedmode then (s.core core).seed else t.seed

/-- Whether the step is sampled by R278 in batch b. -/
def State.samples (s : State) (core : Nat) (i : Issue) : Bool :=
  sampled ((s.batch? i.b).elim s.walk.fraction (·.fraction)) (s.drawSeed core i.t) i.b (stepNo i.w)

/-- A decision and its record. -/
structure Decided where
  outcome : Nat
  missing : Bool          -- replay mode has no record of the decision
  deriving DecidableEq, Repr

/-- The outcome in force of a decision: forced by the record in a replayed batch (R241), else the unit's own. -/
def State.outcomeOf (s : State) (core b stepno srckind own : Nat) : Decided :=
  match s.batch? b with
  | some x =>
    if x.replayed then
      match x.decisions.find? fun d =>
        d.unit == coreCode s.group.devno core && d.stepno == stepno && d.srckind == srckind with
      | some d => ⟨d.outcome, false⟩
      | none => ⟨own, true⟩
    else ⟨own, false⟩
  | none => ⟨own, false⟩

/-- Record a decision of a step for its run; a live run whose replay record is missing dies with cause 0x08. -/
def State.decided (core b run stepno srckind : Nat) (d : Decided) (s : State) : State :=
  let s1 := s.onRun b run fun r =>
    { r with decisions := r.decisions ++ [⟨stepno, srckind, coreCode s.group.devno core, d.outcome⟩] }
  if d.missing then s1.runDiesHere core b run 8 else s1

/-! ### Journal (08 R234) -/

/-- Add an entry to a core's regeneration journal. -/
def State.journal (core b stepno kind value : Nat) (s : State) : State :=
  s.onCore core fun c => { c with journal := c.journal ++ [⟨b, stepno, kind, value⟩] }

end Sys2Proof.Machine
end

