-- ==== Sys2Proof/Machine/Planes.lean ====
section
/-!
DEFINITION. Shards and planes as the walk sees them: the cells that a bow counts, the verified shard that an array computes
with, and exact accumulators (02_count_exact_crossbar.md R36 to R38, R54; 03_integer_pipeline.md R77 to R79, R86, R87;
04_digital_arrays.md R108, R124; 07_weight_courses.md R184).
-/

namespace Sys2Proof.Machine

/-- Cells of row `r` of a plane as one number, bit c the cell of column c. -/
def State.planeRow (s : State) (site side r : Nat) : Nat :=
  leNat (mread planeDefault s.mem.planes ((site * 2 + side) * 2 ^ 17 + 68 * r) 68)

/-- The verified shard of a logical engine of a core on a side, as DRAM holds it (R186). -/
def State.shardOf (s : State) (core leng side : Nat) : Option Bytes :=
  (s.capo.objects.find? fun e =>
    e.1 / 8192 == side && num e.2 0 4 == 0x4B575348 && bits (num e.2 0xC 4) 7 0 == core &&
      bits (num e.2 0xC 4) 14 13 == leng).map (·.2)

/-- The key of that shard: its manifest entry number + 1. -/
def State.shardKey (s : State) (core leng side : Nat) : Nat :=
  match s.capo.objects.find? fun e =>
    e.1 / 8192 == side && num e.2 0 4 == 0x4B575348 && bits (num e.2 0xC 4) 7 0 == core &&
      bits (num e.2 0xC 4) 14 13 == leng with
  | some e => e.1 % 8192 + 1
  | none => 0

/-- The weight of logical output j in a row, of width w bits (R38): two's complement, or ±1 for B1 (R78). -/
def weightOf (f : Fmt) (row j : Nat) : Int :=
  let w := f.width
  let raw := row / 2 ^ (w * j) % 2 ^ w
  if f = .b1 then (if raw = 1 then 1 else -1) else sext w raw

/-- The exact accumulator of output j: inputs x of the rows from row0, and the rows' cells (R124: B1 inputs are 0 and 1). -/
def accOf (f : Fmt) (rows : List Nat) (x : List Int) (j : Nat) : Int :=
  ((rows.zip x).map fun e => e.2 * weightOf f e.1 j).sum

/-- The exact accumulators of a BOW step's tile from a shard: one list per vector. -/
def tileAccs (o : Bytes) (f : Fmt) (w : StepWord) (inputs : List (List Int)) : List (List Int) :=
  let row0 := sfld w 8 9 0
  let rows := (List.range (sfld w 4 27 17)).map fun i => shardRow o (row0 + i)
  inputs.map fun x => (List.range (sfld w 8 29 20)).map fun j => accOf f rows x (sfld w 8 19 10 + j)

/-- The exact accumulators of a BOW step's vectors by the verified shard of its logical engine (R124), zeros without one. -/
def State.shardAccs (s : State) (core : Nat) (i : Issue) (inputs : List (List Int)) : List (List Int) :=
  match wtFmt (sfld i.w 4 7 5), s.shardOf core (sfld i.w 4 1 0) (s.sideOf core i.b) with
  | some f, some o => tileAccs o f i.w (inputs ++ List.replicate (sfld i.w 4 16 8 - inputs.length) [])
  | _, _ => List.replicate (sfld i.w 4 16 8) (List.replicate (sfld i.w 8 29 20) 0)

/-- The verified shard that a plane holds, as DRAM keeps it: the object of its manifest entry on its own side, with its digest (07 R186,
R208). -/
def State.planeShard (s : State) (plane : Nat) : Option Bytes :=
  s.keyShard (plane % 2) (s.plane plane).shardKey (s.plane plane).shard

/-- Entry j of a scale table: QC and BIAS (Table 03-4). -/
def scaleEntry (b : Bytes) (j : Nat) : Nat × Int := ((b.getD (8 * j) 0#8).toNat, sext 32 (num b (8 * j + 4) 4))

/-- The scale table that a bridge uses for a logical engine in a batch: the bank of the site that carries it, or, when the
engine is lost, its shard's, or QC 1 and BIAS 0 (R87). -/
def State.scaleTable (s : State) (core leng b : Nat) : Bytes :=
  let side := s.sideOf core b
  match s.siteOf core leng with
  | some n => mread scaleDefault s.mem.scales ((n * 2 + side) * 4096) 4096
  | none =>
    match s.shardOf core leng side with
    | some o => shardScales o
    | none => (List.range 4096).map scaleDefault

/-- The weight format that a BOW step must match (R77): that of the plane its batch selects, or of a lost engine's shard.
DESIGN CHOICE (the spec is silent where the image holds no shard of such an engine, log 112): code 0, INT8, is compared with then, which is also
what a plane that was never written holds. -/
def State.planeFmt (s : State) (core leng b : Nat) : Nat :=
  let side := s.sideOf core b
  match s.siteOf core leng with
  | some n => (s.plane (2 * n + side)).wtfmt
  | none => ((s.shardOf core leng side).map shardFmt).getD 0

/-- The m_f of the frets of a site for a side (R49). -/
def State.fretOnes (s : State) (site side f : Nat) : Nat :=
  let x := s.site site
  (if side = 0 then x.fretA else x.fretB).getD f 0

/-- Array cycles of a tile (04 R113): `p` passes, `l` cycles to load a block. -/
def arrayCycles (wtfmt infmt k n v : Nat) : Nat :=
  let p := if infmt = 4 then 2 else 1
  let l := if wtfmt = 0 then 8 else if wtfmt = 2 then 4 else if wtfmt = 6 then 2 else 1
  ((n + 63) / 64) * ((k + 31) / 32) * max (p * v) l + 24

/-- Array cycles of a BOW step's tile. -/
def bowCycles (w : StepWord) : Nat :=
  arrayCycles (sfld w 4 7 5) (sfld w 4 4 2) (sfld w 4 27 17) (sfld w 8 29 20) (sfld w 4 16 8)

/-- Array cycles of a softmax step of `v` rows of `n` codes (04 R119). -/
def softmaxCycles (n v : Nat) : Nat := v * (2 * ((n + 31) / 32) + (n + 7) / 8 + 12)

/-- Array cycles of a DIG step's tile. -/
def digCycles (d : ADesc) : Nat := if d.op = 1 then softmaxCycles d.k d.v else arrayCycles d.wtfmt d.infmt d.k d.n d.v

/-- Array cycles of the K-ENG passes on a plane of a weight format: INT8, UINT8, INT16 and INT4 inputs (10 Table 10-3). -/
def kEngCycles (wtfmt : Nat) : Nat :=
  ([0, 1, 4, 2].map fun f => arrayCycles wtfmt f 1024 (512 / ((wtFmt wtfmt).elim 8 Fmt.width)) 16).sum

/-! ### The checking area (04 R123) -/

/-- Lines that the capture of a DIG step takes: accumulators and codes; its inputs stay in the soundboard (log 11). -/
def digCheckLines (d : ADesc) : Nat :=
  if d.op = 0 then d.v * ((d.n * 8 + 63) / 64 + (d.n + 63) / 64) else d.v * ((d.k + 63) / 64)

/-- Whether the checking area of a cluster, 32,768 lines, has room (R123). -/
def State.checkRoom (s : State) (cl n : Nat) : Bool := (s.cluster cl).checkLines + n ≤ 32768

/-- A step whose writes would be captured waits for room for `n` lines (06 R172). -/
def State.dupWaits (s : State) (core : Nat) (w : StepWord) (n : Nat) : Bool :=
  ((s.core core).dupGrant w).isSome && !s.checkRoom (core / 8) n

/-- Take or free lines of the checking area. -/
def State.takeCheck (cl n : Nat) (s : State) : State := s.onCluster cl fun c => { c with checkLines := c.checkLines + n }
def State.freeCheck (cl n : Nat) (s : State) : State := s.onCluster cl fun c => { c with checkLines := c.checkLines - n }

end Sys2Proof.Machine
end

