-- ==== Sys2Proof/Machine/Results.lean ====
section
/-!
DEFINITION. What the units read and compute, without what issue and completion do: bows and accumulators (02_count_exact_crossbar.md R42
to R58), requantised tiles (03_integer_pipeline.md R82 to R97), matrix tiles (04_digital_arrays.md R110 to R117) and lines of
containers (02 R81). Steps and their regeneration (08_bit_identity_and_seals.md R235) work over the same definitions.
-/

namespace Sys2Proof.Machine

/-! ### Planned sizes -/

/-- Lines of one vector of containers. -/
def containerLines (outs : Nat) : Nat := (outs * 8 + 63) / 64

/-- The planned shape of a bank: the last replace-mode BOW step before the BRIDGE step (R139). -/
def Tab.bankShape (t : Tab) (bank stepno : Nat) : Nat × Nat × Nat :=
  match ((t.steps.take stepno).filter fun w => stepKind w == 1 && sfld w 0xC 15 14 == 0 && sfld w 0xC 17 16 == bank).getLast? with
  | some w => (sfld w 8 19 10, sfld w 8 29 20, sfld w 4 16 8)
  | none => (0, 0, 0)

/-- Lines of a lookup table that a bridge descriptor names. -/
def BDesc.lutLines (d : BDesc) : List (Opnd × Nat) := if d.act = 2 then [(sbOpnd (d.lutaddr * 4), 4)] else []

/-- Lines that the rows of a BRIDGE step take. -/
def State.bridgeLines (s : State) (core : Nat) (t : Tab) (w : StepWord) (shape : Nat × Nat × Nat) : Nat :=
  let d := parseBDesc ((s.descriptor core t (sfld w 4 14 0)).getD [])
  let rows := if d.pool = 0 then shape.2.2 else pooledDim d.poolw d.stride * pooledDim d.poolh d.stride
  rows * ((shape.2.1 * ((outFmt d.outfmt).map Fmt.width).getD 8 + 511) / 512)

/-- Bytes of one weight block (04 R114). -/
def blockBytes (f : Fmt) : Nat := 2048 * f.width / 8

/-- Lines of the weight operand that `outs` present outputs need. -/
def weightLines (d : ADesc) (f : Fmt) (outs : Nat) : Nat :=
  if d.rowForm then ((d.k - 1) * d.wpitch + (outs * f.width + 7) / 8 + 63) / 64
  else (outs + 63) / 64 * ((d.k + 31) / 32) * (blockBytes f / 64)

/-- The lines that a matrix tile reads for the weights of `outs` present outputs, from the first line of the operand: of a weight block
those of its rows below K, in row form those of each row that hold a present output (R114, R117; 10 R273). -/
def weightReads (d : ADesc) (f : Fmt) (outs : Nat) : List (Nat × Nat) :=
  if d.rowForm then (List.range d.k).map fun k => (k * d.wpitch / 64, (outs * f.width + 511) / 512)
  else (List.range ((outs + 63) / 64)).flatMap fun nb => (List.range ((d.k + 31) / 32)).map fun kb =>
    ((nb * ((d.k + 31) / 32) + kb) * (blockBytes f / 64), (min 32 (d.k - 32 * kb) * 64 * f.width + 511) / 512)

/-- Lines that the results of a DIG step take. -/
def State.digLines (s : State) (core : Nat) (t : Tab) (d : ADesc) : Nat :=
  if d.op = 1 then d.v * ((d.k + 63) / 64)
  else
    let bd := parseBDesc ((s.descriptor core t d.bdesc).getD [])
    let rows := if bd.pool = 0 then d.v else pooledDim bd.poolw bd.stride * pooledDim bd.poolh bd.stride
    rows * ((d.n * ((outFmt bd.outfmt).map Fmt.width).getD 8 + 511) / 512)

/-! ### A bow's counts (R42, R48 to R53) -/

/-- Rows of a fret that a bow drives, as cell numbers, in the first half-bow (or the bow) and in the second. -/
structure FretDrive where
  half0 : List Nat
  half1 : List Nat
  split : Bool
  deriving DecidableEq, Repr

/-- The driven rows of fret f: those of `rows` (row number, cells) that lie in it. A fret splits when more than 40 rows are
driven and m_f exceeds 40, or when the split is forced (R48, R52). -/
def fretDrive (rows : List (Nat × Nat)) (mf : Nat → Nat) (forced : Bool) (f : Nat) : FretDrive :=
  let l := rows.filter fun e => e.1 / 64 == f
  if forced || (decide (40 < l.length) && decide (40 < mf f)) then
    { half0 := (l.filter fun e => e.1 % 2 == 0).map (·.2), half1 := (l.filter fun e => e.1 % 2 == 1).map (·.2), split := true }
  else { half0 := l.map (·.2), half1 := [], split := false }

/-- Set cells of a column over driven rows (R42). -/
def colCount (cells : List Nat) (c : Nat) : Nat := (cells.filter fun x => bit x c).length

/-- What a converter senses: the true count and every deviation. -/
def sensed (evs : List ConvEvent) (f c h : Nat) (cells : List Nat) : Int :=
  (colCount cells c : Int) + ((evs.filter fun e => e.fret == f && e.col == c && e.half == h).map (·.delta)).sum

/-- The reported count, 0 to 40 (Table 02-4). -/
def reported (n : Int) : Nat := if n < 0 then 0 else if n > 40 then 40 else n.toNat

/-- A converter reports OVER: a flag, or a level above 40. -/
def overAt (evs : List ConvEvent) (f c h : Nat) (n : Int) : Bool :=
  decide (n > 40) || evs.any fun e => e.fret == f && e.col == c && e.half == h && e.overFlag

def marginAt (evs : List ConvEvent) (f c h : Nat) : Bool :=
  evs.any fun e => e.fret == f && e.col == c && e.half == h && e.margin

/-- What one execution of a bow gives. -/
structure BowRun where
  totals : List Nat          -- S_0 to S_531
  driven : Nat               -- N of R58
  splitMask : Nat
  marginMask : Nat
  margins : Nat              -- converter results with MARGIN
  overs : Nat                -- converter results with OVER
  overHalf : Bool            -- one of them in a half-bow
  misses : Nat               -- reference misses (R245)
  forced : Bool
  results0 : List (List Nat) -- converter results of each fret, first half-bow or bow (Table 02-4)
  results1 : List (List Nat) -- the second half-bow
  deriving DecidableEq, Repr

/-- A converter result as its byte; COUNT reads 40 beside OVER (Table 02-4). -/
def resultByte (evs : List ConvEvent) (f c h : Nat) (cells : List Nat) : Nat :=
  let n := sensed evs f c h cells
  let o := overAt evs f c h n
  (convResult (if o then 40 else reported n) (marginAt evs f c h) o).toNat

/-- Run a bow over its driven rows. Every fret converts in the first half; in the second only the split frets do (R50). -/
def runBow (rows : List (Nat × Nat)) (mf : Nat → Nat) (forced : Bool) (evs : List ConvEvent) : BowRun :=
  let drives := (List.range 16).map (fretDrive rows mf forced)
  let res0 := drives.mapIdx fun f d => (List.range 544).map fun c => resultByte evs f c 0 d.half0
  let res1 := drives.mapIdx fun f d => if d.split then (List.range 544).map fun c => resultByte evs f c 1 d.half1 else []
  let cnt (x : Nat) : Nat := x % 64
  let fretCount (f c : Nat) : Nat := cnt ((res0.getD f []).getD c 0) + cnt ((res1.getD f []).getD c 0)
  let anySplit := drives.any (·.split)
  let all := res0.flatten ++ res1.flatten
  let overs := (all.filter fun x => bit x 7).length
  let marginOf (f : Nat) : Bool := ((res0.getD f []) ++ (res1.getD f [])).any fun x => bit x 6
  { totals := (List.range 532).map fun c => ((List.range 16).map fun f => fretCount f c).sum
    driven := rows.length
    splitMask := maskOf 16 (((List.range 16).zip drives).filterMap fun e => if e.2.split then some e.1 else none)
    marginMask := maskOf 16 ((List.range 16).filter marginOf)
    margins := (all.filter fun x => bit x 6).length
    overs := overs
    overHalf := anySplit && overs != 0
    misses := ((List.range 16).map fun f => ((List.range 12).filter fun j =>
      let d := drives.getD f ⟨[], [], false⟩
      fretCount f (532 + j) != colCount (d.half0 ++ d.half1) (532 + j)).length).sum
    forced := forced
    results0 := res0
    results1 := res1 }

/-! ### The tile of a BOW step -/

/-- The driven rows of a bow: bit `b` of each input selects its row (R44). -/
def State.drivenRows (s : State) (site side : Nat) (t : Tile) (width : Nat) : List (Nat × Nat) :=
  if t.masked then [] else
    let x := t.inputs.getD t.vec []
    let row0 := sfld t.word 8 9 0
    (x.zipIdx.filter fun e => bit (unsext width e.1) t.bit).map fun e => (row0 + e.2, s.planeRow site side (row0 + e.2))

/-- The term that a bow adds to output j (R54, R78): totals, driven rows, input bit. -/
def bowTerm (f : Fmt) (inSigned : Bool) (n bitNo : Nat) (totals : List Nat) (driven j : Nat) : Int :=
  let w := f.width
  let sgnIn : Int := if inSigned && bitNo == n - 1 then -1 else 1
  if f = .b1 then sgnIn * (2 * (totals.getD j 0 : Int) - driven) * 2 ^ bitNo
  else ((List.range w).map fun i =>
    let sgnW : Int := if i == w - 1 then -1 else 1
    sgnIn * sgnW * (totals.getD (w * j + i) 0 : Int) * 2 ^ (bitNo + i)).sum

/-- Add a bow into the accumulators of its vector. -/
def Tile.addBow (t : Tile) (f : Fmt) (inSigned : Bool) (n : Nat) (totals : List Nat) (driven : Nat) : Tile :=
  let out0 := sfld t.word 8 19 10
  { t with accs := t.accs.mapIdx fun v a =>
      if v = t.vec then a.mapIdx fun i x => x + bowTerm f inSigned n t.bit totals driven (out0 + i) else a }

/-- The next bow: bit 0 first in each vector (R47). -/
def Tile.advance (t : Tile) (n : Nat) : Tile :=
  if t.bit + 1 < n then { t with bit := t.bit + 1 } else { t with bit := 0, vec := t.vec + 1 }

/-- Accumulators of a step before its first bow. -/
def zeroAccs (w : StepWord) : List (List Int) :=
  List.replicate (sfld w 4 16 8) (List.replicate (sfld w 8 29 20) 0)

/-- A tile starts again from its first bow. -/
def Tile.restart (t : Tile) : Tile := { t with vec := 0, bit := 0, accs := zeroAccs t.word, corrected := false }

/-! ### What a finished tile writes (R81, R82, R139) -/

/-- The bank after a step's accumulators: replaced, or added into. -/
def Bank.take (k : Bank) (t : Tile) : Bank :=
  let w := t.word
  let outs := sfld w 8 29 20
  let vs := sfld w 4 16 8
  let here (v j : Nat) : Bool := decide (v < t.vecLim) && decide (j < t.colLim)
  if sfld w 0xC 15 14 = 1 then
    { k with
      parts := k.parts ++ [t.stepno]
      acc := k.acc.mapIdx fun v a => a.mapIdx fun j x => x + ((t.accs.getD v []).getD j 0)
      present := k.present.mapIdx fun v a => a.mapIdx fun j p => p && here v j }
  else
    { out0 := sfld w 8 19 10, outs := outs, vcount := vs, acc := t.accs
      present := (List.range vs).map fun v => (List.range outs).map fun j => here v j
      parts := [t.stepno], poisoned := false, waiting := false }

/-- Containers of a vector's present outputs (R82). -/
def containers (l : List Int) : Bytes := l.flatMap (leBytesI 8)

/-! ### What a BOW step reads -/

/-- Input vectors of a BOW step: `n` present rows of `v` present vectors, as many lines as they take (R75, Table 05-5). -/
structure BowInput where
  vectors : List (List Int)
  fault : Option Nat          -- first line outside the buffer
  poisoned : Bool
  deriving DecidableEq, Repr

/-- The lines that a BOW step reads. -/
def bowReads (c : Core) (w : StepWord) (f : Fmt) (rows vecs : Nat) : List (Opnd × Nat) :=
  (List.range vecs).map fun v =>
    (sramOpnd (sfld w 0xC 13 0 + tileOffset c w + v * ((sfld w 4 27 17 * f.width + 511) / 512)), (rows * f.width + 511) / 512)

def State.bowInput (s : State) (core : Nat) (i : Issue) (f : Fmt) (rows vecs : Nat) : BowInput :=
  let w := i.w
  let c := s.core core
  let vl := (sfld w 4 27 17 * f.width + 511) / 512
  let o := sramOpnd (sfld w 0xC 13 0 + tileOffset c w)
  let used := (rows * f.width + 511) / 512
  let need := (vecs - 1) * vl + used
  let inside := i.t.linesInside o need
  { vectors := (List.range vecs).map fun v =>
      let b := s.load (.sram core) ((o.line + v * vl) * 64) (packedLen f rows)
      (List.range rows).map fun r => if f = .b1 then (elemRaw 1 b r : Int) else elem f b r
    fault := if inside < need then some (o.line + inside) else none
    poisoned := (List.range vecs).any fun v => s.rangePoisoned (.sram core) ((o.line + v * vl) * 64) (packedLen f rows) }

/-! ### Requantising a tile -/

/-- Requantise every present accumulator (R89), none when one of them faults (R84). Entry `out0 + j` of the scale table serves
output j. -/
def quantizeTile (d : BDesc) (scales : Bytes) (out0 : Nat) (accs : List (List (Option Int))) :
    Option (List (List (Option Quant))) :=
  let sums := accs.map fun a => a.mapIdx fun j x => x.map fun v => biased d v (scaleEntry scales (out0 + j)).2
  if sums.any fun a => a.any fun x => x.any fun v => !accInRange v then none
  else some (sums.map fun a => a.mapIdx fun j x => x.map fun v => requant d v (scaleEntry scales (out0 + j)).1)

/-- Activation and pooling of a tile: rows of codes, one row per output position (R93 to R97). -/
def finishCodes (d : BDesc) (lut : Bytes) (outs : Nat) (q : List (List (Option Quant))) : List (List (Option Int)) :=
  let act := q.map fun a => a.map fun x => x.map fun y => activate d lut y.code
  if d.pool = 0 then act
  else
    let cols := (List.range outs).map fun j => pool d (act.map fun a => a.getD j none)
    (List.range ((cols.headD []).length)).map fun i => cols.map fun l => l.getD i none

/-! ### Writing codes (R75, R142, R157) -/

/-- The bytes of a row after its present codes are put over what stood there; bytes past the last present code stay. -/
def mergeRow (w : Nat) (old : Bytes) (row : List (Option Int)) : Bytes :=
  let used := match (row.zipIdx.filter fun e => e.1.isSome).getLast? with
    | some e => e.2 + 1
    | none => 0
  let codes := (row.take used).mapIdx fun i x => match x with
    | some v => unsext w v
    | none => elemRaw w old i
  let full := packRaw w codes
  -- the bits of the last byte beyond the last code stay as they were
  let tail := used * w % 8
  if tail = 0 then full
  else full.dropLast ++ [BitVec.ofNat 8 ((full.getLastD 0#8).toNat + (old.getD (full.length - 1) 0#8).toNat / 2 ^ tail * 2 ^ tail)]

/-- Write rows of codes from a line, each row on a 64-byte boundary, by a way to write bytes at an address. The first line outside
the buffer faults, and nothing at or beyond it is written (R157): the answer carries that line. -/
def State.putRows (put : Nat → Bytes → State → State) (a : Area) (line inside w outs : Nat) (rows : List (List (Option Int)))
    (s : State) : State × Option Nat :=
  let vl := (outs * w + 511) / 512
  rows.zipIdx.foldl (fun (p : State × Option Nat) e =>
    if p.2.isSome then p
    else
      let addr := (line + e.2 * vl) * 64
      let b := mergeRow w (p.1.load a addr ((outs * w + 7) / 8)) e.1
      let room := (inside - e.2 * vl) * 64
      (put addr (b.take room) p.1, if room < b.length then some (line + inside) else none)) (s, none)

/-- Rows written to their destination. -/
def State.writeRows (a : Area) (line inside w outs : Nat) (poison : Bool) (rows : List (List (Option Int))) (s : State) :
    State × Option Nat :=
  s.putRows (fun addr b u => u.storeLines a addr b poison) a line inside w outs rows

/-- Rows that a step of core `core` in batch b writes: captured under a duplicate grant (06 R172). -/
def State.tileRows (core b : Nat) (g : Option Grant) (a : Area) (line inside w outs : Nat) (poison : Bool)
    (rows : List (List (Option Int))) (s : State) : State × Option Nat :=
  s.putRows (fun addr x u => u.tileStore core b g a addr x poison) a line inside w outs rows

/-- Lines that rows of codes need. -/
def rowsLines (w outs : Nat) (rows : List (List (Option Int))) : Nat := rows.length * ((outs * w + 511) / 512)

/-! ### What a BRIDGE step reads -/

/-- What a BRIDGE step works on. -/
structure BridgeIn where
  v : Nat
  outs : Nat
  out0 : Nat
  accs : List (List (Option Int))
  poisoned : Bool
  fault : Option Nat
  deriving DecidableEq, Repr

/-- Whether the bits [63:48] of a container repeat bit 47. -/
def containerOk (n : Nat) : Bool := sext 64 n == sext 48 n

/-- First output, outputs and vectors of what a bank holds: those of the step that replaced it in the batch, or the planned ones of a bank
that nothing has replaced, whose entries are all absent (R139). -/
def Bank.shape (k : Bank) (planned : Nat × Nat × Nat) : Nat × Nat × Nat := if k.vcount = 0 then planned else (k.out0, k.outs, k.vcount)

/-- Accumulators from the bank of a bridge. -/
def bankInput (k : Bank) (shape : Nat × Nat × Nat) (vecs cols : Nat) : BridgeIn :=
  let v := shape.2.2
  let outs := shape.2.1
  let at_ (i j : Nat) : Option Int :=
    if i < vecs ∧ j < cols ∧ (k.present.getD i []).getD j false then some ((k.acc.getD i []).getD j 0) else none
  let accs := (List.range v).map fun i => (List.range outs).map fun j => at_ i j
  { v := v, outs := outs, out0 := shape.1, accs := accs
    poisoned := k.poisoned, fault := none }

/-- The lines of containers that a BRIDGE step reads. -/
def containerReads (c : Core) (w : StepWord) (vecs cols : Nat) : List (Opnd × Nat) :=
  (List.range vecs).map fun a =>
    (sramOpnd (sfld w 8 31 18 + tileOffset c w + a * containerLines (sfld w 0x14 18 9)), (cols * 8 + 63) / 64)

/-- Of the lines that a step reads, those below the first line outside its buffer, at which it faults (R157). -/
def readsBelow (top : Nat) (reads : List (Opnd × Nat)) : List (Opnd × Nat) :=
  (reads.map fun e => (e.1, min e.2 (top - e.1.line))).filter fun e => e.2 != 0

/-- The words of the containers that a BRIDGE step reads whose bits [63:48] are not the sign extension: the step treats both words of
such a container as words with bad parity (R82). -/
def State.signBad (s : State) (core : Nat) (reads : List (Opnd × Nat)) (cols : Nat) : List BadWord :=
  reads.flatMap fun e => (List.range (min cols (8 * e.2))).flatMap fun j =>
    if containerOk (num (s.load (.sram core) (e.1.line * 64 + 8 * j) 8) 0 8) then []
    else [⟨0, 16 * e.1.line + 2 * j, false, []⟩, ⟨0, 16 * e.1.line + 2 * j + 1, false, []⟩]

/-- Accumulators from containers in activation SRAM. -/
def State.containerInput (s : State) (core : Nat) (i : Issue) (vecs cols : Nat) : BridgeIn :=
  let w := i.w
  let v := sfld w 0x14 8 0
  let outs := sfld w 0x14 18 9
  let o := sramOpnd (sfld w 8 31 18 + tileOffset (s.core core) w)
  let vl := containerLines outs
  let need := (vecs - 1) * vl + (cols * 8 + 63) / 64
  let inside := i.t.linesInside o need
  let raw (a j : Nat) : Nat := num (s.load (.sram core) ((o.line + a * vl) * 64 + 8 * j) 8) 0 8
  { v := v, outs := outs, out0 := sfld w 0x14 27 19
    accs := (List.range v).map fun a => (List.range outs).map fun j =>
      if a < vecs ∧ j < cols then some (sext 48 (raw a j)) else none
    poisoned := (List.range vecs).any fun a => s.rangePoisoned (.sram core) ((o.line + a * vl) * 64) (cols * 8)
    fault := if inside < need then some (o.line + inside) else none }

/-! ### What a DIG step reads and forms -/

/-- An array descriptor is free of the faults of R116 that need no memory: coded fields, reserved fields, and the dimensions
that OP uses. -/
def ADesc.ok (d : ADesc) : Bool :=
  !d.rsvd && (inFmt d.infmt).isSome && (wtFmt d.wtfmt).isSome && 1 ≤ d.k && d.k ≤ 4096 && 1 ≤ d.v && d.v ≤ 256 &&
  (if d.op = 0 then
    1 ≤ d.n && d.n ≤ 512 &&
      (!d.rowForm || (d.wpitch % 64 == 0 && decide (((wtFmt d.wtfmt).elim 8 Fmt.width * d.n + 7) / 8 ≤ d.wpitch)))
   else d.op == 1 && d.infmt == 0)

/-- The value of an operand element: B1 stands for ±1 in a native tile (Table 04-1). -/
def operand (f : Fmt) (b : Bytes) (i : Nat) : Int := if f = .b1 then (if elemRaw 1 b i = 1 then 1 else -1) else elem f b i

/-- Weight (k, n) of an operand in block or row form (R114). -/
def arrayWeight (d : ADesc) (f : Fmt) (mem : Bytes) (k n : Nat) : Int :=
  if d.rowForm then operand f (mem.drop (k * d.wpitch)) n
  else
    let block := n / 64 * ((d.k + 31) / 32) + k / 32
    operand f (mem.drop (block * blockBytes f)) (64 * (k % 32) + n % 64)

/-- What a DIG step reads: buffers, and where it faults. -/
structure DigIn where
  x : List (List Int)
  weights : Bytes
  scales : Bytes
  lut : Bytes
  fault : Option Nat
  poisoned : Bool
  deriving DecidableEq, Repr

/-- Whether `n` lines from a soundboard line lie in one buffer, or the first line that does not. -/
def Tab.sbFault (t : Tab) (line n : Nat) : Option Nat :=
  let inside := t.linesInside (sbOpnd line) n
  if inside < n then some (line + inside) else none

/-- The lines that a matrix tile reads. -/
def digReads (c : Core) (w : StepWord) (d : ADesc) (bd : BDesc) (vecs outs : Nat) : List (Opnd × Nat) :=
  [(sbOpnd (d.inaddr + tileOffset c w), vecs * ((d.k * ((inFmt d.infmt).getD .int8).width + 511) / 512)),
   (sbOpnd d.scaleaddr, (outs * 8 + 63) / 64)] ++
    ((weightReads d ((wtFmt d.wtfmt).getD .int8) outs).map fun p => (sbOpnd (d.waddr + p.1), p.2)) ++ bd.lutLines

/-- Operands of a matrix tile with `vecs` present vectors and `outs` present outputs (their order at a fault: log 81). -/
def State.digInput (s : State) (core : Nat) (i : Issue) (d : ADesc) (bd : BDesc) (vecs outs : Nat) : DigIn :=
  let fin := (inFmt d.infmt).getD .int8
  let fw := (wtFmt d.wtfmt).getD .int8
  let sb := Area.sb (core / 8)
  let inaddr := d.inaddr + tileOffset (s.core core) i.w
  let vl := (d.k * fin.width + 511) / 512
  let wl := weightLines d fw outs
  let rest := [(d.scaleaddr, (outs * 8 + 63) / 64)] ++ (if bd.act = 2 then [(bd.lutaddr * 4, 4)] else [])
  let parts := [(inaddr, vecs * vl), (d.waddr, wl)] ++ rest
  let reads := (inaddr, vecs * vl) :: ((weightReads d fw outs).map fun p => (d.waddr + p.1, p.2)) ++ rest
  { x := (List.range vecs).map fun v =>
      let b := s.load sb ((inaddr + v * vl) * 64) (packedLen fin d.k)
      (List.range d.k).map fun k => operand fin b k
    weights := s.load sb (d.waddr * 64) (wl * 64)
    scales := s.load sb (d.scaleaddr * 64) (outs * 8)
    lut := if bd.act = 2 then s.load sb (bd.lutaddr * 256) 256 else []
    fault := (parts.filterMap fun p => i.t.sbFault p.1 p.2).head?
    poisoned := reads.any fun p => s.rangePoisoned sb (p.1 * 64) (p.2 * 64) }

/-- What the softmax of a DIG step reads: the lines of the present elements of its rows, and the exponent table (R118). -/
def softmaxReads (c : Core) (w : StepWord) (d : ADesc) (vecs n : Nat) : List (Nat × Nat) :=
  ((List.range vecs).map fun v => (d.inaddr + tileOffset c w + v * ((d.k + 63) / 64), (n + 63) / 64)) ++ [(d.waddr, 8)]

/-- The rows of a softmax step: its codes, by the exponent table; a row with no present element is all zeros (R118, R119). -/
def State.softmaxRows (s : State) (core : Nat) (w : StepWord) (d : ADesc) (vecs n : Nat) (tab : List Nat) : List (List Int) :=
  (List.range d.v).map fun v =>
    if vecs ≤ v then List.replicate d.k 0
    else
    let b := s.load (.sb (core / 8)) ((d.inaddr + tileOffset (s.core core) w + v * ((d.k + 63) / 64)) * 64) d.k
    (softmaxRow tab ((List.range d.k).map fun j => elem .int8 b j) n).map Int.ofNat

/-- The exponent table of a softmax step. -/
def State.expTable (s : State) (core : Nat) (d : ADesc) : List Nat :=
  (List.range 256).map fun k => num (s.load (.sb (core / 8)) (d.waddr * 64 + 2 * k) 2) 0 2

/-- Vectors and outputs (softmax: rows and elements) of a DIG step that are present (05 R142). -/
def digPresent (c : Core) (w : StepWord) (d : ADesc) : Nat × Nat :=
  (presentCount (sfld w 8 15 0 + tileMul c w * d.v) (c.limit (sfld w 4 17 15)) d.v,
   presentCount (sfld w 8 31 16) (c.limit (sfld w 4 20 18)) (if d.op = 1 then d.k else d.n))

/-- A DIG step whose planned dimensions are not 0 has no present element (05 R143). -/
def digNothing (c : Core) (w : StepWord) (d : ADesc) : Bool :=
  1 ≤ d.v && 1 ≤ (if d.op = 1 then d.k else d.n) && d.op ≤ 1 && ((digPresent c w d).1 == 0 || (digPresent c w d).2 == 0)

/-- Add the deviations of a faulty array: (position in row-major order, difference). -/
def deviate (faults : List (Nat × Int)) (cols : Nat) (a : List (List Int)) : List (List Int) :=
  a.mapIdx fun v l => l.mapIdx fun j x => x + ((faults.filter fun e => e.1 == v * cols + j).map (·.2)).sum

/-- The exact accumulators of a matrix tile (R110, R112). -/
def digAccs (d : ADesc) (x : List (List Int)) (weights : Bytes) (outs : Nat) : List (List Int) :=
  let fw := (wtFmt d.wtfmt).getD .int8
  x.map fun l => (List.range outs).map fun n => (l.mapIdx fun k v => v * arrayWeight d fw weights k n).sum

/-! ### Lines of containers -/

/-- The exact sum of the containers of two lines (02 R81, R82): signed 48-bit sums in 64-bit containers. -/
def addContainers (x y : Bytes) : Bytes :=
  (List.range 8).flatMap fun i => leBytesI 8 (sext 48 (unsext 48 (sext 48 (num x (8 * i) 8) + sext 48 (num y (8 * i) 8))))

/-- Whether every container of a line has the sign that bit 47 gives (R82). -/
def lineSignsOk (x : Bytes) : Bool := (List.range 8).all fun i => containerOk (num x (8 * i) 8)

end Sys2Proof.Machine
end

