-- ==== Sys2Proof/Machine/Repair.lean ====
section
/-!
DEFINITION. The repair of bad words: the parity of stored words, what a step reads and writes, regeneration from the tab and the journal,
descriptors and scale tables, and poison where nothing helps (01_engine_to_package.md R18; 03_integer_pipeline.md R82, R88, R103;
04_digital_arrays.md R122; 08_bit_identity_and_seals.md R234 to R237; 10_fault_containment.md R270, R271).
-/

namespace Sys2Proof.Machine

/-! ### A batch as its journal has it (08 R234) -/

/-- What a core's journal says of one batch: its tab, its entries, the runs that the core knew to be dead from a STEPNO on, and the
substitution table in force. -/
structure Walked where
  core : Nat
  b : Nat
  t : Tab
  j : List JEntry
  dead : List (Nat × Nat)
  subst : List Nat
  deriving DecidableEq, Repr

/-- The registers before step `k` (R235, step 2): the register-writing steps from step 0 on, with the journaled values. -/
def Walked.regs (x : Walked) (k : Nat) : Core :=
  ((x.t.steps.take k).filter fun w => [5, 7, 8].contains (stepKind w)).foldl (fun c w =>
    match x.j.find? fun e => e.stepno == stepNo w with
    | none => c
    | some e =>
      match e.kind with
      | 5 =>
        let g : Option Grant := if bit e.value 29 then some ⟨sfld w 4 3 0, bits e.value 28 16, true⟩ else none
        (c.setTile (sfld w 4 5 4) e.value g).setPred (sfld w 4 8 6) (e.value % 65536 != 65535)
      | 7 => c.setPred (sfld w 8 26 24) (e.value == 1 || e.value == 5)
      | _ => (c.setLimit (sfld w 4 4 2) (e.value * sfld w 4 15 8)).setPred (sfld w 4 7 5) (e.value != 0)) { subst := x.subst }

/-- The step was a timed no-op in that batch (05 R142): by its predicate, its tile register, or the death of its run. -/
def Walked.masked (x : Walked) (w : StepWord) : Bool :=
  let c := x.regs (stepNo w)
  (kindObeysPred (stepKind w) && !c.pred (stepPred w)) || (stepStride w != 0 && c.tile (stepTreg w) == 65535) ||
    x.dead.any fun d => d.1 == stepRun w && decide (d.2 ≤ stepNo w)

/-- The lines of the core's own SRAM (space 0) or soundboard (space 1) that a step reads and writes, by its planned counts. -/
def State.stepLines (s : State) (core : Nat) (t : Tab) (c : Core) (w : StepWord) : List (Opnd × Nat) × List (Opnd × Nat) :=
  let off := tileOffset c w
  match stepKind w with
  | 1 =>
    let vs := sfld w 4 16 8
    let width := ((inFmt (sfld w 4 4 2)).map Fmt.width).getD 8
    ([(sramOpnd (sfld w 0xC 13 0 + off), vs * ((sfld w 4 27 17 * width + 511) / 512))],
     if sfld w 0xC 15 14 = 2 then [(sramOpnd (sfld w 0xC 31 18 + off), vs * containerLines (sfld w 8 29 20))] else [])
  | 2 =>
    let d := parseADesc ((s.descriptor core t (sfld w 4 14 0)).getD [])
    let fi := ((inFmt d.infmt).map Fmt.width).getD 8
    let others := if d.op = 1 then [(sbOpnd d.waddr, 8)]
      else [(sbOpnd d.waddr, weightLines d ((wtFmt d.wtfmt).getD .int8) d.n), (sbOpnd d.scaleaddr, (d.n * 8 + 63) / 64)] ++
        (parseBDesc ((s.descriptor core t d.bdesc).getD [])).lutLines
    ((sbOpnd (d.inaddr + off), d.v * ((d.k * fi + 511) / 512)) :: others,
     [(sbOpnd (d.outaddr + off), s.digLines core t d)])
  | 3 =>
    let o := moveSrc c w
    let p := moveDst c w
    let dst := if p.space < 2 then [(p, sfld w 0x10 23 0)] else []
    ((if o.space < 2 then [(o, sfld w 0x10 23 0)] else []) ++ (if sfld w 4 19 19 = 1 then dst else []), dst)
  | 4 =>
    let d := parseBDesc ((s.descriptor core t (sfld w 4 14 0)).getD [])
    let fromBank := sfld w 4 18 17 == 0
    let shape := if fromBank then t.bankShape (sfld w 4 16 15) (stepNo w) else (0, sfld w 0x14 18 9, sfld w 0x14 8 0)
    ((if fromBank then [] else [(sramOpnd (sfld w 8 31 18 + off), shape.2.2 * containerLines shape.2.1)]) ++ d.lutLines,
     [({ space := sfld w 8 17 17, line := sfld w 8 16 0 + off }, s.bridgeLines core t w shape)])
  | 9 => ([], if sfld w 4 0 0 = 0 then [(sbOpnd (sfld w 0xC 16 0 + off), sfld w 0x14 15 0)] else [])
  | 10 => ([], [(sramOpnd (sfld w 8 13 0), 18)])
  | _ => ([], [])

/-- The same, with the lines of other memories that a MOVE step reads and writes. -/
def State.allLines (s : State) (core : Nat) (t : Tab) (c : Core) (w : StepWord) : List (Opnd × Nat) × List (Opnd × Nat) :=
  let l := s.stepLines core t c w
  if stepKind w = 3 then
    let far (o : Opnd) : List (Opnd × Nat) := if o.space < 2 then [] else [(o, sfld w 0x10 23 0)]
    let dst := far (moveDst c w)
    (l.1 ++ far (moveSrc c w) ++ (if sfld w 4 19 19 = 1 then dst else []), l.2 ++ dst)
  else l

/-- Whether a range list holds a line. -/
def holdsLine (l : List (Opnd × Nat)) (o : Opnd) : Bool :=
  l.any fun e => e.1.space == o.space && e.1.unit == o.unit && decide (e.1.line ≤ o.line) && decide (o.line < e.1.line + e.2)

/-- Whether a step of a journaled batch wrote a line: it was not masked, and its writes were no captures of a duplicate grant. -/
def State.writesLine (s : State) (x : Walked) (o : Opnd) (w : StepWord) : Bool :=
  let c := x.regs (stepNo w)
  !x.masked w && (c.dupGrant w).isNone && holdsLine (s.allLines x.core x.t c w).2 o

/-! ### The counts of bows, and how a bow ends (02 R52, R58, R61, R62, R72) -/

/-- Split bows of a core advance its split count, and those beyond the allowance the split-overruns counter (05 R153). -/
def State.countSplits (core n : Nat) (s : State) : State :=
  let c := s.core core
  let over_ := min n (c.splitCount + n - c.splitAllow)
  let s1 := s.onCore core fun c => { c with splitCount := min (c.splitCount + n) 0xFFFFFF }
  if over_ = 0 then s1 else s1.countCore core 6 over_

/-- Counters and counts of one execution of a bow (Table 02-13, Table 16-2, R153, R246). -/
def State.countBow (site core : Nat) (r : BowRun) (s : State) : State :=
  let split := r.splitMask != 0
  let cl := core / 8
  let s1 := (s.countEngine site 1 1).countEngine site 5 r.margins
  let s2 := if split then (s1.countEngine site 2 2).countEvent cl 0x47 1 else s1
  let s3 := if r.forced then s2.countEvent cl 0x48 1 else s2
  let s4 := ((s3.countEvent cl 0x49 r.overs).countEvent cl 0x4A r.margins).countEvent cl 0x4B r.misses
  if split then s4.countSplits core 1 else s4

/-- What a bow comes to, its replay included (R52, R58, R61, R62). -/
structure BowEnd where
  outcome : Nat               -- Table 02-8 OUTCOME
  totals : List Nat
  driven : Nat
  corrected : Bool
  replayed : Bool
  e1 : Nat
  e2 : Nat
  deriving DecidableEq, Repr

/-- A replay that reports OVER, in a half-bow or not, is not replayed again: the tile goes to the verdict path (R62; log 76). -/
def judgeBow (a r : BowRun) : BowEnd :=
  let e := syndromes a.totals
  let o := synDecide e.1 e.2 a.totals a.driven
  let base : BowEnd := { outcome := 3, totals := [], driven := a.driven, corrected := false, replayed := false, e1 := e.1, e2 := e.2 }
  if a.overHalf then base
  else if a.overs = 0 ∧ o = .pass then { base with outcome := 0, totals := a.totals }
  else if a.overs = 0 ∧ o ≠ .replay then { base with outcome := 1, totals := o.apply a.totals, corrected := true }
  else
    let e' := syndromes r.totals
    let o' := synDecide e'.1 e'.2 r.totals r.driven
    if r.overs ≠ 0 ∨ o' = .replay then { base with replayed := true }
    else { base with outcome := 2, totals := o'.apply r.totals, corrected := o' != .pass, replayed := true }

/-- What the events of one bow add to an execution that was counted without them: its margin warnings, overs and reference misses, and its
replay and correction (02 R61, R72; 09 R245). -/
def State.countEvents (site core : Nat) (a r : BowRun) (s : State) : State :=
  let e := judgeBow a r
  let cl := core / 8
  let s1 := ((s.countEngine site 5 a.margins).countEvent cl 0x49 a.overs).countEvent cl 0x4A a.margins |>.countEvent cl 0x4B a.misses
  let s2 := if e.replayed then (s1.countBow site core r).countEngine site 4 1 else s1
  if e.corrected then s2.countEngine site 3 1 else s2

/-- The runs of a bow, and of its replay, over its driven rows. -/
def bowPair (rows : List (Nat × Nat)) (mf : Nat → Nat) (e : BowEvents) : BowRun × BowRun :=
  let a := runBow rows mf false e.first
  (a, runBow rows mf (a.overs != 0) e.replay)

/-! ### Execution with journaled registers (08 R235, step 4; R236) -/

/-- One bow of a tile that is executed again, with its events: it counts as a bow does, with its splits, its replay and its correction. -/
def State.bowOne (site : Nat) (t : Tile) (e : BowEvents) (s : State) : State × Tile :=
  let side := s.sideOf t.core t.ordinal
  let fin := (inFmt (sfld t.word 4 4 2)).getD .int8
  let fw := (wtFmt (sfld t.word 4 7 5)).getD .int8
  let x := bowPair (s.drivenRows site side t fin.width) (s.fretOnes site side) e
  let j := judgeBow x.1 x.2
  let s1 := s.countBow site t.core x.1
  let s2 := if j.replayed then (s1.countBow site t.core x.2).countEngine site 4 1 else s1
  (if j.corrected then s2.countEngine site 3 1 else s2,
    (t.addBow fw fin.signed fin.width (if j.outcome = 3 then x.2.totals else j.totals) j.driven).advance fin.width)

/-- All bows of a tile on an engine, in order. -/
def State.bowAll (site : Nat) (t : Tile) (evs : List BowEvents) (s : State) : State × Tile :=
  let width := ((inFmt (sfld t.word 4 4 2)).getD .int8).width
  (List.range (sfld t.word 4 16 8 * width)).foldl (fun p n =>
    let e : BowEvents := (evs.find? fun e => e.stepno == t.stepno && e.bow == n && decide (p.2.vec < p.2.vecLim)).getD ⟨t.stepno, n, [], []⟩
    p.1.bowOne site p.2 e) (s, t)

/-- The tile of a BOW step, with its present rows, vectors and outputs (05 R142). -/
def bowTile (c : Core) (core : Nat) (i : Issue) (masked sampled : Bool) : Tile :=
  let w := i.w
  let f := (inFmt (sfld w 4 4 2)).getD .int8
  { core := core, stepno := stepNo w, ordinal := i.b, run := stepRun w, word := w, treg := stepTile c w, vec := 0, bit := 0
    masked := masked
    rowLim := if f = .b1 then sfld w 4 27 17 else presentCount (sfld w 0x14 15 0) (c.limit (sfld w 0x10 2 0)) (sfld w 4 27 17)
    vecLim := presentCount (sfld w 0x14 31 16 + tileMul c w * sfld w 4 16 8) (c.limit (sfld w 0x10 5 3)) (sfld w 4 16 8)
    colLim := presentCount (sfld w 0x18 15 0) (c.limit (sfld w 0x10 8 6)) (sfld w 8 29 20)
    sampled := sampled, inputs := [], accs := zeroAccs w, corrected := false }

/-- A BOW step again: its containers, or its bank. -/
def State.redoBow (core : Nat) (i : Issue) (evs : List BowEvents) (s : State) : State :=
  let c := s.core core
  let f := (inFmt (sfld i.w 4 4 2)).getD .int8
  let t0 := bowTile c core i false false
  let t := { t0 with inputs := (s.bowInput core i f t0.rowLim t0.vecLim).vectors }
  let r := match s.siteOf core (sfld i.w 4 1 0) with
    | some n => s.bowAll n t evs
    | none => (s, { t with accs := s.shardAccs core i t.inputs })
  if sfld i.w 0xC 15 14 = 2 then
    (List.range t.vecLim).foldl (fun u v =>
      u.storeLines (.sram core) ((sfld i.w 0xC 31 18 + tileOffset c i.w + v * containerLines (sfld i.w 8 29 20)) * 64)
        (containers ((r.2.accs.getD v []).take t.colLim)) false) r.1
  else r.1.onCore core fun k => { k with banks := k.banks.mapIdx fun n b => if n = sfld i.w 0xC 17 16 then b.take r.2 else b }

/-- A BRIDGE step again; it counts no statistics. -/
def State.redoBridge (core : Nat) (i : Issue) (s : State) : State :=
  let c := s.core core
  let w := i.w
  let leng := sfld w 4 16 15
  let d := parseBDesc ((s.descriptor core i.t (sfld w 4 14 0)).getD [])
  let fromBank := sfld w 4 18 17 == 0
  let shape := if fromBank then (c.banks.getD leng {}).shape (i.t.bankShape leng (stepNo w)) else (sfld w 0x14 27 19, sfld w 0x14 18 9, sfld w 0x14 8 0)
  let vecs := presentCount (sfld w 0x10 15 0 + tileMul c w * shape.2.2) (c.limit (sfld w 0xC 2 0)) shape.2.2
  let cols := presentCount (sfld w 0x18 15 0) (c.limit (sfld w 0xC 5 3)) shape.2.1
  let x := if fromBank then bankInput (c.banks.getD leng {}) shape vecs cols else s.containerInput core i vecs cols
  match quantizeTile d (s.scaleTable core leng i.b) x.out0 x.accs with
  | none => s
  | some q =>
    let lut := if d.act = 2 then s.load (.sb (core / 8)) (d.lutaddr * 256) 256 else []
    let rows := finishCodes d lut x.outs q
    let f := (outFmt d.outfmt).getD .int8
    let a := if sfld w 8 17 17 = 0 then Area.sram core else .sb (core / 8)
    (s.writeRows a (sfld w 8 16 0 + tileOffset c w) (rowsLines f.width x.outs rows) f.width x.outs false rows).1

/-- A DIG step again. -/
def State.redoDig (core : Nat) (i : Issue) (s : State) : State :=
  let c := s.core core
  let d := parseADesc ((s.descriptor core i.t (sfld i.w 4 14 0)).getD [])
  let p := digPresent c i.w d
  let line := d.outaddr + tileOffset c i.w
  let out (w n : Nat) (rows : List (List (Option Int))) : State :=
    (s.writeRows (.sb (core / 8)) line (rowsLines w n rows) w n false rows).1
  if d.op = 1 then out 8 d.k ((s.softmaxRows core i.w d p.1 p.2 (s.expTable core d)).map fun l => l.map some)
  else
    let bd := parseBDesc ((s.descriptor core i.t d.bdesc).getD [])
    let x := s.digInput core i d bd p.1 p.2
    let accs := digAccs d x.x x.weights p.2
    let grid := (List.range d.v).map fun v => (List.range d.n).map fun j =>
      if v < p.1 ∧ j < p.2 then some ((accs.getD v []).getD j 0) else none
    match quantizeTile bd x.scales 0 grid with
    | none => s
    | some q => out ((outFmt bd.outfmt).getD .int8).width d.n (finishCodes bd x.lut d.n q)

/-- A MOVE step between memories of this device again. -/
def State.redoMove (core : Nat) (i : Issue) (s : State) : State :=
  let c := s.core core
  let w := i.w
  let len := sfld w 0x10 23 0
  let n := presentCount (sfld w 0x14 15 0 + tileMul c w * len) (c.limit (sfld w 4 22 20)) len
  match s.areaOf core i.b i.t (moveSrc c w), s.areaOf core i.b i.t (moveDst c w) with
  | some sa, some da => (List.range n).foldl (fun u k =>
      let x := u.load sa (((moveSrc c w).line + k) * 64) 64
      let at_ := ((moveDst c w).line + k) * 64
      u.storeLines da at_ (if sfld w 4 19 19 = 1 then addContainers x (u.load da at_ 64) else x) false) s
  | _, _ => s

/-- A step again, with its journaled registers, over the scratch copy of the memories that `s` is (R235, step 4). It draws, samples and
captures nothing, and forms no decision and no statistics (R236). -/
def State.redo (x : Walked) (evs : List BowEvents) (w : StepWord) (s : State) : State :=
  let c := x.regs (stepNo w)
  let u := s.onCore x.core fun k =>
    { k with preds := c.preds, limits := c.limits, tiles := c.tiles, grants := c.grants, subst := x.subst }
  match stepKind w with
  | 1 => u.redoBow x.core ⟨x.b, x.t, w⟩ evs
  | 2 => u.redoDig x.core ⟨x.b, x.t, w⟩
  | 3 => u.redoMove x.core ⟨x.b, x.t, w⟩
  | 4 => u.redoBridge x.core ⟨x.b, x.t, w⟩
  | _ => u

/-! ### Regeneration (08 R235 to R237) -/

/-- The steps that make the results of a producer: a BRIDGE step that takes a bank needs the BOW steps that filled it, from the last one
that replaced it (05 R139). -/
def Walked.chain (x : Walked) (w : StepWord) : List StepWord :=
  if stepKind w = 4 ∧ sfld w 4 18 17 = 0 then
    let l := (x.t.steps.take (stepNo w)).filter fun v =>
      stepKind v == 1 && sfld v 0xC 15 14 != 2 && sfld v 0xC 17 16 == sfld w 4 16 15 && !x.masked v
    (match (l.zipIdx.filter fun e => sfld e.1 0xC 15 14 == 0).getLast? with
      | some e => l.drop e.2
      | none => []) ++ [w]
  else [w]

/-- The lines of a producer's reads that a step from it on, before `before`, has written (R235, step 3). -/
def State.changedReads (s : State) (x : Walked) (w : StepWord) (before : Nat) : List Opnd :=
  let since := (x.t.steps.take before).drop (stepNo w)
  ((s.allLines x.core x.t (x.regs (stepNo w)) w).1.flatMap fun e => (List.range e.2).map fun k => { e.1 with line := e.1.line + k }).filter
    fun o => since.any (s.writesLine x o)

/-- The core's own SRAM (space 0), or its cluster's soundboard (space 1). -/
def ownArea (core space : Nat) : Area := if space = 0 then .sram core else .sb (core / 8)

/-- The last step before `before` that wrote a line. -/
def State.producer (s : State) (x : Walked) (o : Opnd) (before : Nat) : Option StepWord :=
  ((x.t.steps.take before).filter (s.writesLine x o)).getLast?

/-- What an execution on a scratch copy of the memories counts stays counted. -/
def State.counted (core : Nat) (u s : State) : State :=
  { s with obs := u.obs }.onCore core fun c => { c with splitCount := (u.core core).splitCount }

/-- The scratch copy with a line made again from its producer, and with the producers of what that step read where it was written since,
to a depth of `fuel` steps; none where that cannot be done (R235 steps 1 to 4, R237). Lines of SCENE and PROBE steps cannot, nor those that
another device produced. -/
def State.remake : Nat → Walked → List BowEvents → Opnd → Nat → State → Option State
  | 0, _, _, _, _, _ => none
  | fuel + 1, x, evs, o, before, s =>
    match s.producer x o before with
    | none => none
    | some w =>
      if [9, 10].contains (stepKind w) ∨ (stepKind w = 3 ∧ (moveSrc (x.regs (stepNo w)) w).space = 6) then none
      else
        -- each step of the chain reads the memories as they stand, but for the lines that were written since
        (x.chain w).foldl (fun acc v => acc.bind fun u =>
          ((u.changedReads x v before).foldl (fun a l => a.bind fun y =>
            (s.areaOf x.core x.b x.t l).bind fun area =>
              (State.remake fuel x evs l (stepNo v) y).map fun r =>
                (State.counted x.core r y).store area (l.line * 64) (r.load area (l.line * 64) 64))
            (some { u with mem := s.mem })).map (State.redo x evs v)) (some s)

/-- A batch of a core as its journal has it, none when a word of the journal is bad (R234). -/
def State.walked? (s : State) (core b : Nat) : Option Walked :=
  let c := s.core core
  if c.journalBad.contains b then none
  else (s.tab? core (s.sideOf core b)).map fun t =>
    { core := core, b := b, t := t, j := c.journal.filter fun e => e.ordinal == b
      dead := (c.deadFrom.filter fun d => d.1 == b).map (·.2)
      subst := ((c.journalSubst.find? fun e => e.1 == b).map (·.2)).getD c.subst }

/-- The batch in which the last producer of a line of the core's own SRAM or soundboard lies, before step `before` of batch b: b, or the
batch before it when the core walked that to its end. -/
def State.producedIn (s : State) (core b : Nat) (o : Opnd) (before : Nat) : Option (Walked × Nat) :=
  match (s.walked? core b).filter fun x => (s.producer x o before).isSome with
  | some x => some (x, before)
  | none =>
    -- a bad journal of batch b hides whether b wrote the line
    if b = 0 ∨ (s.core core).journalBad.contains b ∨ (s.core core).done ≠ some (b - 1) then none
    else (s.walked? core (b - 1)).map fun x => (x, x.t.steps.length)

/-! ### Repair of a bad word (10 R271) -/

/-- The words of a line whose parity is bad, by their number in the line. -/
def State.badWords (s : State) (a : Area) (line : Nat) : List Nat := (List.range 16).filter fun k => s.mem.parity.contains (a.lineKey line * 16 + k)

/-- A word is stored with bad parity (01 R18). -/
def State.setParity (a : Area) (line k : Nat) (s : State) : State :=
  s.onMem fun m => { m with parity := poisonInsert (a.lineKey line * 16 + k) m.parity }

/-- The unit that sends the words of an operand over a crossing (R270), none for the core's own SRAM. -/
def senderOf (core : Nat) (o : Opnd) : Option UnitId :=
  match o.space with
  | 0 => none
  | 1 => some (.shared (core / 8))
  | 4 => some (.core (o.unit % 256))
  | 5 => some (.shared (o.unit % 256 / 8))
  | _ => some .hub

/-- A line becomes poisoned where it is stored. -/
def State.poisonLine (cl : Nat) (a : Area) (line : Nat) (s : State) : State :=
  if s.poisoned a line then s else (s.setPoison a line true).countEvent cl 0x30 1

/-- Three replays of a word over a crossing failed: the sending unit is charged (R270, record 0x07). `repaired`: the word is repaired
(R304). -/
def State.chargeSender (core : Nat) (i : Issue) (o : Opnd) (line : Nat) (repaired : Bool) (s : State) : State :=
  match senderOf core o with
  | some u =>
    s.chargeRecord
      { kind := 0x07, severity := 1, detected := some i.b, unit := u, run := some (stepRun i.w)
        step := some (stepNo i.w), reactions := if repaired then [1] else [], detail := [(6, .num line)] } i.b
  | none => s

/-- The record of data that could not be regenerated, or whose regeneration disagreed (08 R237, record 0x08). -/
def repairRec (i : Issue) (line : Nat) (u : UnitId) : Rec :=
  { kind := 0x08, severity := 1, detected := some i.b, unit := u, run := some (stepRun i.w)
    step := some (stepNo i.w), detail := [(6, .num line)] }

/-- Data that cannot be regenerated, or whose regeneration disagreed, is poisoned (08 R237). -/
def State.repairPoisons (core : Nat) (a : Area) (line : Nat) (s : State) : State :=
  (s.countEvent (core / 8) 0x2E 1).poisonLine (core / 8) a line

/-- Data that cannot be regenerated (08 R237). -/
def State.repairFails (core : Nat) (i : Issue) (a : Area) (line : Nat) (u : UnitId) (s : State) : State :=
  (s.repairPoisons core a line).record (repairRec i line u)

/-- The site, or else the core, of a producing step (Table 10-6, regeneration disagreed). -/
def State.producerUnit (s : State) (x : Walked) (w : StepWord) : UnitId :=
  if stepKind w = 1 then ((s.siteOf x.core (sfld w 4 1 0)).map .site).getD (.core x.core)
  else if stepKind w = 4 then ((s.siteOf x.core (sfld w 4 16 15)).map .site).getD (.core x.core)
  else .core x.core

/-- A line of the core's own SRAM or soundboard with bad words is regenerated: it is made again, and compared with the stored line at
every word whose parity is good; it is written in place when they agree, and poisoned with a failed check of the producing unit when
they do not (08 R235, R237). -/
def State.regenerate (core : Nat) (i : Issue) (o : Opnd) (a : Area) (line : Nat) (bad : List Nat) (evs : List BowEvents) (s : State) : State :=
  let at_ : Opnd := { space := o.space, line := line }
  match s.producedIn core i.b at_ (stepNo i.w) with
  | none => s.repairFails core i a line (.core core)
  | some (x, before) =>
    match State.remake 4 x evs at_ before s with
    | none => s.repairFails core i a line (.core core)
    | some u =>
      let new := u.load a (line * 64) 64
      let old := s.load a (line * 64) 64
      let s1 := State.counted core u s
      if (List.range 16).all fun k => bad.contains k || slice new (4 * k) 4 == slice old (4 * k) 4 then
        (s1.store a (line * 64) new).countEvent (core / 8) 0x2D 1
      else
        let unit := ((s.producer x at_ before).map (s.producerUnit x)).getD (.core core)
        (s1.repairPoisons core a line).chargeRecord (repairRec i line unit) i.b

/-- The tab of a core's side holds a good copy of its descriptors in DRAM (03 R88, 05 R156). -/
def State.tabCopyGood (s : State) (core side : Nat) : Bool :=
  !(s.mem.tabBad.contains (core * 2 + side, 1) && s.mem.tabBad.contains (core * 2 + side, 2))

/-- A line of the descriptor section is loaded again from a tab copy (R88, R103). -/
def State.reloadDescriptor (core line : Nat) (t : Tab) (s : State) : State :=
  let lo := t.descbase * 32
  let off := line * 64
  let bytes := (List.range 64).filterMap fun k =>
    if lo ≤ off + k ∧ off + k < lo + t.desclen * 32 then some (off + k, t.descs.getD (off + k - lo) 0#8) else none
  bytes.foldl (fun u e => u.store (.sram core) e.1 [e.2]) s

/-- Whether a line of a core's SRAM holds descriptors of a tab. -/
def Tab.holdsDesc (t : Tab) (line : Nat) : Bool := decide (t.descbase ≤ 2 * line + 1) && decide (2 * line < t.descbase + t.desclen)

/-- Words `bad` of a line that a re-read did not repair (R271): the other copy of a slower-tier segment, a tab copy for a descriptor,
regeneration for the core's own data, and poison otherwise. -/
def State.repairStored (core : Nat) (i : Issue) (o : Opnd) (a : Area) (line : Nat) (bad : List Nat) (evs : List BowEvents) (s : State) : State :=
  match a with
  | .slow sd =>
    match s.segmentOf sd line with
    | some g =>
      -- the other copy failed too: neither is confirmed until the segment is fetched again or a scan confirms one
      if s.mem.slowBad.contains (g, 1) || s.mem.slowBad.contains (g, 0) then
        (s.poisonLine (core / 8) a line).onMem fun m => { m with slowBad := (m.slowBad.filter fun e => e.1 != g) ++ [(g, 0), (g, 1)] }
      else s
    | none => s.poisonLine (core / 8) a line
  | _ =>
    if o.space = 0 ∧ i.t.holdsDesc line = true then
      if s.tabCopyGood core (s.sideOf core i.b) then s.reloadDescriptor core line i.t else s.repairFails core i a line (.core core)
    else if o.space < 2 then s.regenerate core i o a line bad evs
    else s.repairFails core i a line (.core core)

/-- The same with the words `lost` that were stored well and lost on their way: their sender is charged (R270), with reaction 1 where the repair
succeeds. -/
def State.repairLine (core : Nat) (i : Issue) (o : Opnd) (a : Area) (line : Nat) (bad lost : List Nat) (evs : List BowEvents) (s : State) :
    State :=
  let mend := State.repairStored core i o a line (bad ++ lost) evs
  mend (if lost.isEmpty then s else s.chargeSender core i o line (!(mend s).poisoned a line))

/-- The cluster whose soundboard an area is. -/
def Area.soundboard : Area → Option Nat
  | .sb c => some c
  | _ => none

/-- The cluster in whose memories an area of a core lies. -/
def Area.cluster : Area → Nat
  | .sram c => c / 8
  | .sb c => c
  | _ => 0

/-- Count a soundboard line that is read (0x19) or written (0x1A). -/
def State.countSb (a : Area) (code : Nat) (s : State) : State :=
  match a.soundboard with
  | some c => s.countEvent c code 1
  | none => s

/-- The event sources that bad words of one line advance: soundboard words of bad parity (0x1B), and three replays of each
word that was lost over a crossing (0x2C, R270). -/
def State.countBad (core : Nat) (o : Opnd) (a : Area) (bad lost : Nat) (s : State) : State :=
  let s1 := match a.soundboard with
    | some c => s.countEvent c 0x1B bad
    | none => s
  if (senderOf core o).isSome then s1.countEvent (core / 8) 0x2C (3 * lost) else s1

/-- One line is read: its words with bad parity and the words `lost` of it are repaired, unless the line is poisoned already. -/
def State.repairRead (core : Nat) (i : Issue) (o : Opnd) (a : Area) (line : Nat) (lost : List Nat) (evs : List BowEvents) (s : State) : State :=
  let bad := s.badWords a line
  if (bad.isEmpty && lost.isEmpty) || s.poisoned a line then s
  else (s.countBad core o a bad.length lost.length).repairLine core i o a line bad lost evs

/-- What goes wrong in the regeneration of a line, by its bad words. -/
def eventsOf (bad : List BadWord) (space line : Nat) : List BowEvents :=
  (bad.filter fun w => w.space == space && w.word / 16 == line).flatMap (·.bows)

/-- Words of the regeneration journal that are found bad: space 4, word 0 for the batch walked and 1 for the one before (08 R234). -/
def State.noteJournal (core b : Nat) (bad : List BadWord) (s : State) : State :=
  let l := (bad.filter fun w => w.space == 4).map fun w => b - w.word
  if l.isEmpty then s else s.onCore core fun c => { c with journalBad := l.foldl (fun a n => insertNew n a) c.journalBad }

/-- The lines of the core's own memories that a step reads, by operand, with the words that turn bad before it reads them: those of
`bad` are stored with bad parity from now on, read or not, or lost on their way to this step. Every line read is repaired. -/
def State.repairReads (core : Nat) (i : Issue) (reads : List (Opnd × Nat)) (bad : List BadWord) (s : State) : State :=
  let own := bad.filter fun w => decide (w.space < 2)
  let s1 := (own.filter fun w => !w.lost).foldl (fun u w => u.setParity (ownArea core w.space) (w.word / 16) (w.word % 16))
    (s.noteJournal core i.b bad)
  if s1.mem.parity.isEmpty && own.isEmpty then s1
  else
    (reads.flatMap fun e => (List.range e.2).map fun k => (e.1.space, e.1.line + k)).eraseDups.foldl (fun u l =>
      u.repairRead core i { space := l.1, line := l.2 } (ownArea core l.1) l.2
        ((own.filter fun w => w.lost && w.space == l.1 && w.word / 16 == l.2).map fun w => w.word % 16) (eventsOf own l.1 l.2)) s1

/-- The descriptor lines that a step reads. -/
def descReads (addrs : List Nat) : List (Opnd × Nat) := addrs.map fun a => (sramOpnd (a / 2), 1)

/-- The bridge of a site reads words of its scale-table bank with bad parity (R88): the bank is loaded again from the verified shard. The
answer says whether DRAM still holds the shard (log 90). -/
def State.repairScales (core leng b : Nat) (bad : List BadWord) (s : State) : State × Bool :=
  if bad.any fun w => w.space == 2 then
    let side := s.sideOf core b
    match s.siteOf core leng with
    | none => (s, true)
    | some n =>
      match s.planeShard (2 * n + side) with
      | some o => (s.onMem fun m => { m with scales := mwrite scaleDefault ((n * 2 + side) * 4096) (shardScales o) m.scales }, true)
      | none => (s, false)
  else (s, true)

end Sys2Proof.Machine
end

