-- ==== Sys2Proof/Machine/Engine.lean ====
section
/-!
DEFINITION. The engine: BOW steps, bows, and what follows a bow (02_count_exact_crossbar.md R44 to R64;
03_integer_pipeline.md R77 to R83; 05_tablature.md R139, R140, R153; 09_tuning_passes.md R245, R246, R262 to R265;
10_fault_containment.md R278, R279, R292).
-/

namespace Sys2Proof.Machine

/-- Export the present accumulators: each vector on a 64-byte boundary (R82, log 12). The first line outside the buffer faults
(R157). -/
def State.exportTile (t : Tile) (poison : Bool) (tab : Tab) (s : State) : State :=
  let w := t.word
  let g := (s.core t.core).dupGrant w
  let vl := containerLines (sfld w 8 29 20)
  let o := sramOpnd (sfld w 0xC 31 18 + (if stepStride w = 0 then 0 else t.treg * stepStride w))
  let used := (t.colLim * 8 + 63) / 64
  let need := (t.vecLim - 1) * vl + used
  let inside := tab.linesInside o need
  let s1 := (List.range t.vecLim).foldl (fun u v =>
    let bytes := containers ((t.accs.getD v []).take t.colLim)
    let fits := (inside - v * vl) * 64
    u.tileStore t.core t.ordinal g (.sram t.core) ((o.line + v * vl) * 64) (bytes.take fits) poison) s
  if inside < need then s1.stepFault t.core t.ordinal t.run t.stepno [(6, .num (o.line + inside))] else s1

/-- A new checked tile, numbered by the device. -/
def State.newTile (x : CheckedTile) (s : State) : State :=
  s.onWalk fun k => { k with tiles := k.tiles ++ [{ x with id := k.tileNo }], tileNo := k.tileNo + 1 }

/-- The checker of a BOW step (R125): the cluster's array, or the engine of CHKUNIT for a sampled step that names one. The tiles of a
RETIRING site all go to the cluster's array (R68). -/
def State.bowChecker (s : State) (core : Nat) (site : Option Nat) (w : StepWord) : UnitId :=
  let cl := core / 8
  let retiring := site.any fun n => (s.site n).state == .retiring
  if sfld w 0x10 9 9 = 1 ∧ sfld w 0x10 10 10 = 1 ∧ ¬ retiring then
    let u := sfld w 0x10 20 11
    -- CHKUNIT: [9:8] die, [7:5] cluster, [4:2] core, [1:0] logical engine
    let core2 := u / 256 * 64 + u / 32 % 8 * 8 + u / 4 % 8
    match s.siteOf core2 (u % 4) with
    | some n => .site n
    | none => .array ((s.arrayFor (core2 / 8)).getD (core2 / 8))
  else .array ((s.arrayFor cl).getD cl)

/-- The captured tile of a finished or escalated BOW step. -/
def checkedOf (site : Option Nat) (cl : Nat) (t : Tile) (checker : UnitId) (st : VerdictState) : CheckedTile :=
  { id := 0, state := st, site := site, cluster := cl, core := t.core, stepno := t.stepno, ordinal := t.ordinal
    run := some t.run, word := t.word, inputs := t.inputs, accs := t.accs, codes := [], dup := [], checker := checker
    third := none, treg := t.treg, lines := bowCheckLines t.word, given := false }

/-- A tile's results go to the bank of its bridge or to its containers; a duplicated tile is captured (R123). -/
def State.finishTile (site : Option Nat) (cl : Nat) (t : Tile) (s : State) : State :=
  if t.masked then s
  else
    let w := t.word
    let s1 :=
      if sfld w 0xC 15 14 = 2 then
        match s.tab? t.core (s.core t.core).side with
        | some tab => s.exportTile t false tab
        | none => s
      else
        let k := sfld w 0xC 17 16
        s.onCore t.core fun c => { c with banks := c.banks.mapIdx fun i b => if i = k then b.take t else b }
    if t.sampled then
      (s1.newTile (checkedOf site cl t (s.bowChecker t.core site w) .captured)).countEvent (t.core / 8) 0x21 1
    else s1

/-! ### Emergency passes (09 R262 to R265) -/

/-- Runs with a BOW step on a site that has not completed: in flight, or still to issue in the batch. -/
def State.bowRuns (s : State) (site : Nat) : List Nat :=
  let core := site / 5
  let c := s.core core
  match s.tab? core c.side with
  | some t =>
    (List.range 16).filter fun r => t.steps.zipIdx.any fun e =>
      stepKind e.1 == 1 && stepRun e.1 == r && s.siteOf core (sfld e.1 4 1 0) == some site &&
        (decide (c.next ≤ e.2) || c.flight.any fun f => f.stepno == e.2)
  | none => []

/-- The rows of a run in the run tables that the group's members gave for the image of a side (12 R372, log 87). -/
def State.runRows (s : State) (side r : Nat) : List RunRow :=
  match s.sideImage side with
  | some i => (s.group.tables.filter fun t => t.progid == i.progid && t.imgseq == i.imgseq).flatMap fun t => t.rows.filter fun x => x.run == r
  | none => []

/-- A run has a SCENE step in the batch, in any tab of the programme (08 R222): in one of this device's, or in another member's. -/
def State.hasScene (s : State) (b r : Nat) : Bool :=
  ((s.tabsOf (s.devSide b)).any fun t => t.2.steps.any fun w => stepKind w == 9 && stepRun w == r) ||
    (s.runRows (s.devSide b) r).any fun x => x.scene

/-- R264: the run waits instead of becoming STALE. -/
def State.staleExempt (s : State) (b r : Nat) : Bool :=
  b == 0 || (s.batch? b).elim false (·.replayed) || s.hasScene b r ||
  match s.run? (b - 1) r with
  | some x => x.cause != 0 || x.stale
  | none => true

/-- A run becomes STALE for a batch: its steps on the site are no-ops from now on, and those in the site's queue complete. In
a group the run's publisher is told (12 R374). -/
def State.makeStale (site b r : Nat) (s : State) : State :=
  let core := site / 5
  let x := s.site site
  let gone := (x.tile.toList ++ x.queue).filter fun t => t.run == r && t.ordinal == b
  let s1 := (s.onRun b r fun y => { y with stale := true }).onSite site fun x =>
    { x with staleRuns := x.staleRuns ++ [(b, r)], queue := x.queue.filter fun t => !(t.run == r && t.ordinal == b)
             tile := x.tile.filter fun t => !(t.run == r && t.ordinal == b) }
  (gone.foldl (fun u t =>
    (if t.sampled then u.freeCheck (core / 8) (bowCheckLines t.word) else u).completeStep core b t.word true) s1).toPublisher
      r 0x24 [b, r, 0] []

/-- The engine takes its next tile. -/
def Site.pull (x : Site) : Site :=
  match x.tile, x.queue with
  | none, t :: l => { x with tile := some t, queue := l }
  | _, _ => x

/-- An emergency cause arises on a site in batch b: it starts a pass at once, unless its last emergency pass lies within 8
ordinals (R262, R265). -/
def State.emergency (site b : Nat) (cause : PassCause) (s : State) : State :=
  let x := s.site site
  let recent := match x.lastEmergency with
    | some o => decide (b < o + 8)
    | none => false
  if x.passing.isSome then s
  else if recent then
    let s1 := s.onSite site fun x => { x with pending := if x.pending.contains cause then x.pending else x.pending ++ [cause] }
    s1.chargeRecord { kind := 0x0D, severity := 1, detected := some b, unit := .site site } b
  else
    let runs := (s.bowRuns site).filter fun r => !s.staleExempt b r
    let s1 := s.onSite site fun x =>
      { x with
        passing := some (s.newPass site cause b false (!runs.isEmpty) false)
        lastEmergency := some b, tile := x.tile.map Tile.restart }
    ((runs.foldl (fun u r => u.makeStale site b r) s1).countEngine site 8 1).onSite site Site.pull

/-- Service margins or reference misses pass their threshold with this bow (R246, R262). -/
def State.checkEmergency (site b margins misses : Nat) (s : State) : State :=
  let x := s.site site
  let s1 := s.onSite site fun x => { x with margins := x.margins + margins, misses := x.misses + misses }
  let tm := s.walk.tuningCfg.getD 1 4096
  let tr := s.walk.tuningCfg.getD 2 4
  if x.margins ≤ tm ∧ tm < x.margins + margins then s1.emergency site b .emMargin
  else if x.misses < tr ∧ tr ≤ x.misses + misses then s1.emergency site b .emReference
  else s1

/-! ### BOW steps -/

/-- A BOW step of a lost logical engine runs on its cluster's array, or that array's partner, as primary (R296). -/
def State.lostBow (core : Nat) (i : Issue) (t : Tile) (s : State) : State :=
  let cl := (s.arrayFor (core / 8)).getD (core / 8)
  let t1 := { t with accs := s.shardAccs core i t.inputs }
  let s1 := (s.issued core false).countEvent cl 0x11 (bowCycles i.w)
  let s2 :=
    if sfld i.w 0xC 15 14 = 2 then s1.exportTile t1 false i.t
    else s1.onCore core fun c => { c with banks := c.banks.mapIdx fun j b => if j = sfld i.w 0xC 17 16 then b.take t1 else b }
  let s3 := if t.sampled then
      (s2.newTile (checkedOf none cl t1 (.array ((s.partner cl).getD cl)) .captured)).countEvent (core / 8) 0x21 1
    else s2
  s3.completeStep core i.b i.w false

/-- A BOW step reads poison: the run dies, and what the step would write is poisoned (R273). -/
def State.bowPoison (core : Nat) (i : Issue) (t : Tile) (s : State) : State :=
  let s1 := s.poisonDeath core i.b (stepRun i.w) (stepNo i.w)
  let s2 :=
    if sfld i.w 0xC 15 14 = 2 then s1.exportTile { t with accs := zeroAccs i.w } true i.t
    else s1.onCore core fun c =>
      { c with banks := c.banks.mapIdx fun j b => if j = sfld i.w 0xC 17 16 then { b with poisoned := true } else b }
  s2.stepDone core i false

/-- The PROBEs that are armed on a site for the BOW step `stepno`, which issues and makes no bow: nothing is left for them to capture (R140; log
101). -/
def State.spendProbes (site : Option Nat) (stepno : Nat) (s : State) : State :=
  match site with
  | some n => s.onSite n fun x => { x with probes := x.probes.map fun p => if p.stepno < stepno then { p with spent := true } else p }
  | none => s

/-- The queue entry of a BOW step on a site. -/
def State.queueTile (core site : Nat) (i : Issue) (t : Tile) (s : State) : State :=
  let s1 := (s.fly core i false t.masked).issued core t.masked
  (s1.onSite site fun x => ({ x with queue := x.queue ++ [t] }).pull).refreshSeq core

/-- A BOW step issues (R47, R77, R123, R142, R143, R263). -/
def State.bowIssue (core : Nat) (bad : List BadWord) (i : Issue) (s : State) : State :=
  let c := s.core core
  let w := i.w
  let leng := sfld w 4 1 0
  let f := (inFmt (sfld w 4 4 2)).getD .int8
  let t0 := bowTile c core i false false
  let rows := t0.rowLim
  let vecs := t0.vecLim
  let cols := t0.colLim
  let site := s.siteOf core leng
  let stale := match site with
    | some n => (s.site n).staleRuns.contains (i.b, stepRun w)
    | none => false
  let masked0 := stepMasked c w || rows == 0 || vecs == 0 || cols == 0 || stale
  let draws := sfld w 0x10 9 9 == 1
  let d := s.outcomeOf core i.b (stepNo w) 2 (s.samples core i).toNat
  let drawn := draws && (if i.t.seedmode then d.outcome == 1 else s.samples core i)
  let dup := !masked0 && (drawn || match site with | some n => s.siteFullDup n | none => s.arrayFullDup (core / 8))
  let exports := if sfld w 0xC 15 14 = 2 ∧ !masked0 then vecs * containerLines (sfld w 8 29 20) else 0
  if (dup && !s.checkRoom (core / 8) (bowCheckLines w)) || s.dupWaits core w exports then s.countEvent (core / 8) 0x1C 1
  else
    let s1 := if draws && i.t.seedmode then s.decided core i.b (stepRun w) (stepNo w) 2 d else s
    -- a missing replay record kills the run before the step executes
    let masked := masked0 || (draws && i.t.seedmode && d.missing)
    let t := bowTile c core i masked (dup && !masked)
    if masked then
      match site with
      | some n => if stale then (s1.spendProbes site (stepNo w)).stepDone core i true else s1.queueTile core n i t
      | none => s1.stepDone core i true
    else if s.planeFmt core leng i.b ≠ sfld w 4 7 5 then
      ((s1.spendProbes site (stepNo w)).stepFault core i.b (stepRun w) (stepNo w) []).stepDone core i false
    else
      let s1 := s1.repairReads core i (bowReads c w f rows vecs) bad
      let x := s1.bowInput core i f rows vecs
      if x.fault.isSome then
        ((s1.spendProbes site (stepNo w)).stepFault core i.b (stepRun w) (stepNo w) [(6, .num (x.fault.getD 0))]).stepDone core i false
      else if x.poisoned then (s1.spendProbes site (stepNo w)).bowPoison core i t
      else
        let t1 := { t with inputs := x.vectors }
        let s2 := if t1.sampled then s1.takeCheck (core / 8) (bowCheckLines w) else s1
        match site with
        | some n => s2.queueTile core n i t1
        | none => s2.lostBow core i t1

/-- BOW_STEP: the next step of a core is a BOW step and issues. `bad`: the bad words among those that it reads. -/
def execBowStep (core : Nat) (bad : List BadWord) (s : State) : Host.Outcome State Fault Refusal :=
  if core < 256 then
    .next (match s.issue? core 1 with
      | some i => s.bowIssue core bad i
      | none => s)
  else .fault .noSuchUnit

/-! ### Bows -/

/-- The capture of an armed PROBE (R140). -/
def probeBytes (w0 w1 stepno : Nat) (fretCap : Bool) (fret : Nat) (r : BowRun) : Bytes :=
  let one (l : List Nat) : Bytes := padTo 544 ((if fretCap then l else []).map (BitVec.ofNat 8))
  leBytes 4 w0 ++ leBytes 4 w1 ++ leBytes 4 (stepno + 2 ^ 31) ++ zeros 4 ++
    one (r.results0.getD fret []) ++ one (r.results1.getD fret [])

/-- The execution whose converter results a PROBE captures: the first one, or the forced-split replay that R52 puts in place of a
discarded bow, whose half-bows are then those of the bow (R64; log 76). -/
def probedRun (a r : BowRun) (replayed : Bool) : BowRun := if replayed && r.forced then r else a

/-- The captures of the PROBEs that are armed for the first bow of this tile: those issued before its step (R140). -/
def State.takeProbe (site : Nat) (t : Tile) (w0 w1 : Nat) (r : BowRun) (s : State) : State :=
  if t.vec = 0 ∧ t.bit = 0 then
    (((s.site site).probes.filter fun p => !p.spent && decide (p.stepno < t.stepno)).foldl (fun u p =>
      u.storeLines (.sram t.core) (p.line * 64) (padTo 1152 (probeBytes w0 w1 t.stepno p.fretCap p.fret r)) false) s).onSite site
        fun x => { x with probes := x.probes.filter fun p => p.spent || decide (t.stepno ≤ p.stepno) }
  else s

/-- The replay threshold of a site in a batch (Table 10-6, record 0x06). -/
def State.chargeReplays (site b : Nat) (s : State) : State :=
  let s1 := s.onSite site fun x => { x with replays := x.replays + 1 }
  let x := s1.site site
  if x.replays > s.setting 0x5000 3 64 ∧ ¬ x.replayCharged then
    (s1.onSite site fun x => { x with replayCharged := true }).chargeRecord
      { kind := 0x06, severity := 1, detected := some b, unit := .site site } b
  else s1

/-- An escalated tile leaves the engine: its step waits, parked, for the verdict path (R62, R288). -/
def State.escalate (site : Nat) (t : Tile) (s : State) : State :=
  let core := t.core
  let s1 := s.onSite site fun x => ({ x with tile := none }).pull
  let s2 := s1.onCore core fun c =>
    { c with flight := c.flight.map fun f => if f.stepno = t.stepno then { f with parked := true } else f }
  let s3 := if t.sampled then s2 else s2.takeCheck (core / 8) (bowCheckLines t.word)
  ((s3.newTile (checkedOf (some site) (core / 8) { t with accs := [] } (s.bowChecker core (some site) t.word) .escalated)).countEvent
    (core / 8) 0x27 1).refreshSeq core

/-- The step of a finished tile completes, and the engine takes the next tile. -/
def State.tileDone (site : Nat) (t : Tile) (s : State) : State :=
  let s1 := s.onSite site fun x => ({ x with tile := none }).pull
  (s1.finishTile (some site) (t.core / 8) t).completeStep t.core t.ordinal t.word t.masked

/-- Keep the advanced tile, or finish it after its last bow. -/
def State.afterBow (site n : Nat) (t : Tile) (s : State) : State :=
  let t1 := t.advance n
  if t1.vec < sfld t.word 4 16 8 then s.onSite site fun x => { x with tile := some t1 } else s.tileDone site t1

/-- A bow of present data: splits, replays and events belong to those alone (05 R143). -/
def Tile.live (t : Tile) : Bool := !t.masked && decide (t.vec < t.vecLim)

/-- One bow of the tile in an engine, with its replay when it needs one. The bow that follows a replayed one is discarded and issued
again; the discarded execution counts nowhere (R61; log 76). -/
def State.doBow (site : Nat) (t : Tile) (first0 replay0 : List ConvEvent) (s : State) : State :=
  let core := t.core
  let first := if t.live then first0 else []
  let replay := if t.live then replay0 else []
  let side := s.sideOf core t.ordinal
  let fin := (inFmt (sfld t.word 4 4 2)).getD .int8
  let fw := (wtFmt (sfld t.word 4 7 5)).getD .int8
  let n := fin.width
  let mf := s.fretOnes site side
  let rows := s.drivenRows site side t n
  let a := runBow rows mf false first
  let r := runBow rows mf (a.overs != 0) replay
  let e := judgeBow a r
  let w0 := bowStatus0 e.e1 e.e2 e.outcome (a.overs != 0 || (e.replayed && r.overs != 0))
    (a.marginMask != 0 || (e.replayed && r.marginMask != 0)) (a.splitMask != 0 || (e.replayed && r.splitMask != 0))
    (e.replayed && r.forced)
  let w1 := bowStatus1 (if e.replayed then a.splitMask ||| r.splitMask else a.splitMask)
    (if e.replayed then a.marginMask ||| r.marginMask else a.marginMask)
  let s1 := (s.onSite site fun x => { x with status0 := w0, status1 := w1 }).countBow site core a
  let s2 := if e.replayed then ((s1.countBow site core r).countEngine site 4 1).chargeReplays site t.ordinal else s1
  let s3 := s2.takeProbe site t w0 w1 (probedRun a r e.replayed)
  let s4 := if e.corrected then
      (s3.countEngine site 3 1).onRun t.ordinal t.run fun x => { x with corrected := true }
    else s3
  let s5 :=
    if e.outcome = 3 then s4.escalate site t
    else s4.afterBow site n { (t.addBow fw fin.signed n e.totals e.driven) with corrected := t.corrected || e.corrected }
  s5.checkEmergency site t.ordinal (a.margins + if e.replayed then r.margins else 0)
    (a.misses + if e.replayed then r.misses else 0)

/-- Whether an engine can bow: it holds a tile, no tuning pass runs on it, and its core walks and has no live DRONE step on
it. -/
def State.bowReady (s : State) (site : Nat) : Option Tile :=
  let x := s.site site
  let c := s.core (site / 5)
  let droned := match c.droneLive with
    | some d => bit d.sites (site % 5)
    | none => false
  if x.passing.isSome || droned || !(c.seq == .walk || c.seq == .stalled || c.seq == .draining) then none else x.tile

/-- A tile that was accepted before its site came under full duplication is captured too, like every tile that the site still executes
(R68, 10 R279); it waits while the checking area has no room (04 R123). -/
def State.captureLate (site : Nat) (t : Tile) (s : State) : Option (Tile × State) :=
  if t.masked || t.sampled || !s.siteFullDup site then some (t, s)
  else if s.checkRoom (t.core / 8) (bowCheckLines t.word) then
    some ({ t with sampled := true }, s.takeCheck (t.core / 8) (bowCheckLines t.word))
  else none

/-- BOW: one bow of a site. `first` and `replay` are what its converters did in the bow and in its replay. -/
def execBow (site : Nat) (first replay : List ConvEvent) (s : State) : Host.Outcome State Fault Refusal :=
  if site < 1280 then
    .next (if s.frozen then s else match (s.bowReady site).bind fun t => s.captureLate site t with
      | some x => x.2.doBow site x.1 first replay
      | none => s)
  else .fault .noSuchUnit

end Sys2Proof.Machine
end

