-- ==== Sys2Proof/Machine/Bridge.lean ====
section
/-!
DEFINITION. The bridge and the cluster's requantiser: BRIDGE steps, requantisation of whole tiles, clipping statistics, and
the codes they write (03_integer_pipeline.md R84 to R106; 05_tablature.md Table 05-8, R139, R142, R157).
-/

namespace Sys2Proof.Machine

/-- The values that a tile requantised. -/
def quantsOf (q : List (List (Option Quant))) : List Quant := q.flatten.filterMap id

/-- Values that clip, and values in a near-clip band (R90). -/
def clippedCount (l : List Quant) : Nat := (l.filter fun q => q.clip == .hi || q.clip == .lo).length
def nearCount (l : List Quant) : Nat := (l.filter fun q => q.clip == .nearHi || q.clip == .nearLo).length

/-- Gather a tile's values into its statistics slot for the batch (R104, R105). -/
def State.gatherStats (b slot : Nat) (l : List Quant) (s : State) : State :=
  let key := slot + 1024 * (b % 2)
  let n (c : Clip) := (l.filter fun q => q.clip == c).length
  s.onObs fun o => { o with statsAcc := tmod0 {} key (fun r =>
    let r0 : StatRec := if r.ordinal = b then r else { ordinal := b }
    { r0 with
      total := r0.total + l.length, clipHi := r0.clipHi + n .hi, clipLo := r0.clipLo + n .lo
      nearHi := r0.nearHi + n .nearHi, nearLo := r0.nearLo + n .nearLo }) o.statsAcc }

/-! ### BRIDGE steps -/

/-- The bridge that requantises for a logical engine: that of the site that carries it, or of the array that stands for a lost one. -/
def State.bridgeOf (s : State) (core leng : Nat) : Nat := ((s.siteOf core leng).map (· % 5)).getD (8 + leng)

/-- The bridge holds the table of LUTADDR, and the table's lines have not been written since its load (R95). -/
def State.lutHeld (s : State) (core bridge addr : Nat) : Bool :=
  ((s.core core).luts.any fun l => l.bridge == bridge && l.addr == addr) && !s.mem.lutWritten.contains (core * 16 + bridge)

/-- The bridge's lookup table for a step: loaded when LUTADDR differs from the loaded one, or when the lines of the loaded one have been
written since the load (R95). A bridge keeps no table whose lines are poisoned. -/
def State.loadLut (core bridge addr : Nat) (s : State) : State :=
  if s.lutHeld core bridge addr then s
  else
    let at_ := Area.sb (core / 8)
    let new : List Lut := if s.rangePoisoned at_ (addr * 256) 256 then [] else [⟨bridge, addr, s.load at_ (addr * 256) 256⟩]
    ((s.onCore core fun c => { c with luts := (c.luts.filter fun l => l.bridge != bridge) ++ new }).onMem
        fun m => { m with lutWritten := m.lutWritten.filter (· != core * 16 + bridge) }).countEvent (core / 8) 0x3F 1

/-- The table that a bridge holds. -/
def Core.lutOf (c : Core) (bridge : Nat) : Bytes := ((c.luts.find? fun l => l.bridge == bridge).map (·.codes)).getD []

/-- Counts of a tile that was requantised: values, clips, and its statistics slot (R104, Table 16-2). Every requantised value counts, also
where pooling follows (log 80). -/
def State.countCodes (cl source : Nat) (b : Nat) (d : BDesc) (l : List Quant) (s : State) : State :=
  let s1 := ((s.countEvent cl source l.length).countEvent cl 0x40 (clippedCount l)).countEvent cl 0x41 (nearCount l)
  if d.staten then s1.gatherStats b d.slot l else s1

/-- The codes that a faulty bridge forms: (position in row-major order, difference). -/
def deviateCodes (wrong : List (Nat × Int)) (outs : Nat) (rows : List (List (Option Int))) : List (List (Option Int)) :=
  if wrong.isEmpty then rows
  else rows.mapIdx fun r l => l.mapIdx fun j x => x.map fun v => v + ((wrong.filter fun e => e.1 == r * outs + j).map (·.2)).sum

/-- The output codes that a BRIDGE step forms from a bank are captured for every captured tile that the bank holds (04 R123). -/
def State.captureCodes (core : Nat) (i : Issue) (desc lut : Bytes) (x : BridgeIn) (codes : List (List (Option Int))) (s : State) : State :=
  let parts := ((s.core core).banks.getD (sfld i.w 4 16 15) {}).parts
  s.onWalk fun k => { k with tiles := k.tiles.map fun t =>
    if t.state = .captured ∧ t.core = core ∧ t.ordinal = i.b ∧ parts.contains t.stepno = true ∧ t.site.isSome ∧ t.given = false then
      { t with codes := t.codes ++ [
        { desc := desc, lut := lut, out0 := x.out0, outs := x.outs, codes := codes
          rest := x.accs.mapIdx fun v l => l.mapIdx fun j y => y.map fun n => n - (t.accs.getD v []).getD j 0 }] }
    else t }

/-- Requantise and write the tile of a BRIDGE step. -/
def State.bridgeWrite (core : Nat) (i : Issue) (desc : Bytes) (x : BridgeIn) (wrong : List (Nat × Int)) (s : State) : State :=
  let w := i.w
  let run := stepRun w
  let d := parseBDesc desc
  let f := (outFmt d.outfmt).getD .int8
  let leng := sfld w 4 16 15
  match quantizeTile d (s.scaleTable core leng i.b) x.out0 x.accs with
  | none => s.stepFault core i.b run (stepNo w) []
  | some q =>
    let bridge := s.bridgeOf core leng
    let s0 := if d.act = 2 then s.loadLut core bridge d.lutaddr else s
    let lut := if d.act = 2 then (s0.core core).lutOf bridge else []
    let rows := deviateCodes wrong x.outs (finishCodes d lut x.outs q)
    let out : Opnd := { space := sfld w 8 17 17, line := sfld w 8 16 0 + tileOffset (s.core core) w }
    let area := if sfld w 8 17 17 = 0 then Area.sram core else Area.sb (core / 8)
    let inside := i.t.linesInside out (rowsLines f.width x.outs rows)
    let g := (s.core core).dupGrant w
    let r := s0.tileRows core i.b g area out.line inside f.width x.outs x.poisoned rows
    let s1 := r.1.countCodes (core / 8)
      (if (s.siteOf core leng).isNone then 0x17 else 0x3E) i.b { d with staten := d.staten && g.isNone } (quantsOf q)
    let s2 := if sfld w 4 18 17 = 0 then s1.captureCodes core i desc lut x rows else s1
    match r.2 with
    | some l => s2.stepFault core i.b run (stepNo w) [(6, .num l)]
    | none => s2

/-- A BRIDGE step issues and completes (R82, R88, R89, R103, R139, R142, R157). -/
def State.bridgeIssue (core : Nat) (bad : List BadWord) (wrong : List (Nat × Int)) (i : Issue) (s : State) : State :=
  let c := s.core core
  let w := i.w
  let run := stepRun w
  let leng := sfld w 4 16 15
  let fromBank := sfld w 4 18 17 == 0
  let planned := if fromBank then i.t.bankShape leng (stepNo w) else (sfld w 0x14 27 19, sfld w 0x14 18 9, sfld w 0x14 8 0)
  let shape := if fromBank then (c.banks.getD leng {}).shape planned else planned
  let vecs := presentCount (sfld w 0x10 15 0 + tileMul c w * shape.2.2) (c.limit (sfld w 0xC 2 0)) shape.2.2
  let cols := presentCount (sfld w 0x18 15 0) (c.limit (sfld w 0xC 5 3)) shape.2.1
  if stepMasked c w || vecs == 0 || cols == 0 then s.stepDone core i true
  else if s.dupWaits core w (s.bridgeLines core i.t w shape) then s.countEvent (core / 8) 0x1C 1
  else
    let die (u : State) (detail : List (Nat × Detail)) := (u.stepFault core i.b run (stepNo w) detail).stepDone core i false
    let desc := sfld w 4 14 0
    let descAt := descReads [desc]
    let s := if (s.descriptor core i.t desc).isSome then s.repairReads core i descAt bad else s
    match s.descriptor core i.t desc with
    | none => die s [(6, .num (desc / 2))]
    | some bytes =>
      let d := parseBDesc bytes
      if !d.ok planned.2.2 then die s []
      else
        let from_ := sramOpnd (sfld w 8 31 18 + tileOffset c w)
        let all := containerReads c w vecs cols
        let top := from_.line + i.t.linesInside from_ ((vecs - 1) * containerLines shape.2.1 + (cols * 8 + 63) / 64)
        let reads := if fromBank then [] else readsBelow top all
        let loads := d.act == 2 && !s.lutHeld core (s.bridgeOf core leng) d.lutaddr
        let s00 := s.repairReads core i (reads ++ if loads then d.lutLines else []) (bad ++ s.signBad core reads cols)
        -- a container whose sign no repair mended is poisoned like any other word (R82)
        let s0 := ((s00.signBad core reads cols).map fun x => x.word / 16).eraseDups.foldl (fun u l =>
          if u.poisoned (.sram core) l then u else u.repairFails core i (.sram core) l (.core core)) s00
        let scales := s0.repairScales core leng i.b bad
        let s := scales.1
        let x := if fromBank then bankInput (c.banks.getD leng {}) shape vecs cols else s.containerInput core i vecs cols
        let lutIn := !loads || i.t.linesInside (sbOpnd (d.lutaddr * 4)) 4 == 4
        if x.fault.isSome then die s [(6, .num (x.fault.getD 0))]
        else if !lutIn then die s [(6, .num (d.lutaddr * 4))]
        else
          let lutBad := loads && s.rangePoisoned (.sb (core / 8)) (d.lutaddr * 256) 256
          let descBad := s.poisoned (.sram core) (desc / 2)
          let anyPresent := x.accs.any fun a => a.any (·.isSome)
          let poisoned := (x.poisoned && anyPresent) || lutBad || descBad || !scales.2
          let s2 := if poisoned then s.poisonDeath core i.b run (stepNo w) else s
          (s2.bridgeWrite core i bytes { x with poisoned := poisoned } wrong).stepDone core i false

/-- BRIDGE_STEP: the next step of a core is a BRIDGE step and issues. -/
def execBridgeStep (core : Nat) (bad : BridgeFaults) (s : State) : Host.Outcome State Fault Refusal :=
  if core < 256 then
    .next (match s.issue? core 4 with
      | some i => s.bridgeIssue core bad.words bad.codes i
      | none => s)
  else .fault .noSuchUnit

end Sys2Proof.Machine
end

