-- ==== Sys2Proof/Machine/Drones.lean ====
section
/-!
DEFINITION. Drone kernels: their seeds and operands, and the answers that the arithmetic gives for them (08_bit_identity_and_seals.md
R238; 10_fault_containment.md R282, R283, Table 10-3).
-/

namespace Sys2Proof.Machine

/-- The seed of a drone that runs in batch b (R283). -/
def droneSeed (b : Nat) : Nat := 0x4B52444E00000000 + b / 8 % 64

/-- The seeds of the SELFTEST drones, for j from 0 to 15 (R283). -/
def selftestSeed (j : Nat) : Nat := 0x4B52535400000000 + j

/-- Bytes `off` to `off + n - 1` of the operands of pass k with seed d: word i is gen(d, k, i), stored little-endian (log 82). -/
def genBytes (d k off n : Nat) : Bytes :=
  (List.range n).map fun j => BitVec.ofNat 8 (gen d k ((off + j) / 4) / 256 ^ ((off + j) % 4))

/-- The drone descriptor of a bridge: INT8, M = 0x00C0_0000, SHIFT = 40, ZP = 0, clamp -100 to 100, statistics off. -/
def droneDesc : BDesc :=
  { outfmt := 0, act := 1, pool := 0, poolwin := false, stride := 0, biasen := false, staten := false, b1in := false, slot := 0
    mant := 0x00C00000, shift := 40, zp := 0, clo := -100, chi := 100, poolw := 0, poolh := 0, lutaddr := 0, rsvd := false }

/-- The results of a kernel's pass: accumulators, and the codes that the drone descriptor gives for them. -/
def droneResults (scales : Bytes) (outs : Nat) (accs : List (List Int)) : List (List Int) :=
  accs ++ match quantizeTile droneDesc scales 0 (accs.map fun a => a.map some) with
    | some q => (finishCodes droneDesc [] outs q).map fun l => l.map fun x => x.getD 0
    | none => []

/-- Vector v of a pass of K-ENG: 1,024 inputs of a format; in vector 0 every input bit is 1. -/
def kEngVector (f : Fmt) (d k v : Nat) : List Int :=
  let n := 1024 * f.width / 8
  let b := if v = 0 then List.replicate n 0xFF#8 else genBytes d k (v * n) n
  (List.range 1024).map fun i => elem f b i

/-- The rows that bow n of K-ENG drives: passes of 128, 128, 256 and 64 bows, vector by vector, bit 0 first (02 R47). -/
def kEngDriven (rows : List Nat) (d n : Nat) : List (Nat × Nat) :=
  let p : Fmt × Nat × Nat := if n < 128 then (.int8, 0, n) else if n < 256 then (.uint8, 1, n - 128)
    else if n < 512 then (.int16, 2, n - 256) else (.int4, 3, n - 512)
  let w := p.1.width
  ((kEngVector p.1 d p.2.1 (p.2.2 / w)).zipIdx.filter fun e => bit (unsext w e.1) (p.2.2 % w)).map fun e => (e.2, rows.getD e.2 0)

/-- m_f of a fret of the drone plane pattern (02 R48). -/
def patternOnes (f : Nat) : Nat :=
  let rows := (List.range 64).map fun i => fullRow (64 * f + i) (droneDataRow (64 * f + i))
  ((List.range 532).map fun c => colCount rows c).foldl max 0

/-- The answer of K-ENG over a plane's rows and its scale-table bank: passes 0 INT8, 1 UINT8, 2 INT16, 3 INT4 inputs, 16 vectors each. -/
def kEngAnswer (rows : List Nat) (wf : Fmt) (scales : Bytes) (d : Nat) : List (List Int) :=
  let outs := 512 / wf.width
  ([Fmt.int8, .uint8, .int16, .int4].zipIdx).flatMap fun e =>
    droneResults scales outs ((List.range 16).map fun v => (List.range outs).map fun j => accOf wf rows (kEngVector e.1 d e.2 v) j)

/-- The drone plane pattern (R283). -/
def patternRows : List Nat := (List.range 1024).map fun r => fullRow r (droneDataRow r)

/-- The firmware digest of K-ENG: over the drone plane pattern, with QC = 1 and BIAS = 0 (R283). -/
def kEngFirmware (d : Nat) : List (List Int) :=
  kEngAnswer patternRows .int8 ((List.range 4096).map scaleDefault) d

/-- What a site gives for K-ENG: the arithmetic over its plane, with the deviations of a faulty site. -/
def State.kEngSite (s : State) (site side d : Nat) (faults : List (Nat × Int)) : List (List Int) :=
  let f := (wtFmt (s.plane (2 * site + side)).wtfmt).getD .int8
  deviate faults (512 / f.width) (kEngAnswer ((List.range 1024).map (s.planeRow site side)) f
    (mread scaleDefault s.mem.scales ((site * 2 + side) * 4096) 4096) d)

/-- The answer of K-ENG for an active site: recomputed from the verified shard of its plane (R124, R282). Without a shard in DRAM the plane
itself stands for it (log 82). -/
def State.kEngExact (s : State) (site side d : Nat) : List (List Int) :=
  let f := (wtFmt (s.plane (2 * site + side)).wtfmt).getD .int8
  match s.planeShard (2 * site + side) with
  | some o => kEngAnswer ((List.range 1024).map (shardRow o)) f (shardScales o) d
  | none => s.kEngSite site side d []

/-- Word n of K-CORE's operands behind its 256 lines, cut to a register's width. -/
def kCoreWord (d n width : Nat) : Int := (gen d 0 (4096 + n) % 2 ^ width : Nat)

/-- The answer of K-CORE (Table 10-3): the 256 lines written from gen, as they come back from the soundboard; the token that the SIGNAL and WAIT
loop-back brings back, by its channel; and every predicate, limit and tile register as it reads after each was written with a word of
gen (log 82). P0 and L0 read their constants. -/
def kCoreAnswer (d : Nat) : List (List Int) :=
  ((List.range 256).map fun l => (List.range 16).map fun k => (gen d 0 (16 * l + k) : Int)) ++ [[15]] ++
    [(List.range 8).map fun i => if i = 0 then 1 else kCoreWord d i 1] ++
    [(List.range 8).map fun i => if i = 0 then 65535 else kCoreWord d (8 + i) 16] ++ [(List.range 4).map fun i => kCoreWord d (16 + i) 16]

/-- The accumulators of K-ARR's tile: inputs first, then weights (log 82). -/
def kArrAccs (d : Nat) : List (List Int) :=
  let x := genBytes d 0 0 65536
  let w := genBytes d 0 65536 65536
  (List.range 64).map fun v => (List.range 64).map fun j =>
    ((List.range 1024).map fun k => elem .int8 x (1024 * v + k) * elem .int8 w (64 * k + j)).sum

/-- The answer of K-ARR: the tile of pass 0, and the softmax rows of pass 1. -/
def kArrAnswer (d : Nat) : List (List Int) :=
  let accs := kArrAccs d
  let tab := (List.range 256).map Config.droneExp
  let codes := genBytes d 1 0 16384
  droneResults ((List.range 4096).map scaleDefault) 64 accs ++ (List.range 64).map fun r =>
    (softmaxRow tab ((List.range 256).map fun j => elem .int8 codes (256 * r + j)) 256).map Int.ofNat

/-- What the bows of one K-ENG run count in their site (R282, R283; 02 R72): 576 bows, 36 of them split where a fret can split, and what their
events add. `pattern`: the site runs on the drone plane pattern. The answer says how many bows split. -/
def State.countKEng (site side d margins : Nat) (pattern : Bool) (evs : List BowEvents) (s : State) : State × Nat :=
  let cl := site / 40
  -- frets 0 to 7 of the pattern have m_f = 64
  let split := pattern || (List.range 16).any fun f => decide (s.fretOnes site side f > 40)
  let s1 := (((s.countEngine site 1 576).countEngine site 5 margins).countEvent cl 0x4A margins).countEvent cl 0x28 1
  let s2 := if split then (s1.countEngine site 2 72).countEvent cl 0x47 36 else s1
  (evs.foldl (fun t e =>
    let rows := if pattern then patternRows else (List.range 1024).map (t.planeRow site side)
    let x := bowPair (kEngDriven rows d e.bow) (if pattern then patternOnes else t.fretOnes site side) e
    t.countEvents site (site / 5) x.1 x.2) s2, if split then 36 else 0)

/-- A unit's answer matches: it gives the outputs of the arithmetic (R282). The digests of the outputs stand for the outputs (log 82). -/
def answerOk (cols : Nat) (faults : List (Nat × Int)) (exact : List (List Int)) : Bool := deviate faults cols exact == exact

end Sys2Proof.Machine
end

