-- ==== Sys2Proof/Machine/Array.lean ====
section
/-!
DEFINITION. The digital array: matrix tiles, softmax, the arbiter between cores, and array drones
(04_digital_arrays.md R107 to R119, R125 to R128; 10_fault_containment.md R278, R279, R285, R292).
-/

namespace Sys2Proof.Machine

/-- The array that checks a DIG step: CHKCL for a step that R278 samples, the partner array for one that is duplicated only because its
array is SUSPECT (R125, R279). -/
def State.digChecker (s : State) (core : Nat) (w : StepWord) (drawn : Bool) : UnitId :=
  let own := (s.arrayFor (core / 8)).getD (core / 8)
  if drawn then .array ((s.arrayFor (sfld w 4 26 22)).getD (sfld w 4 26 22))
  else .array ((s.partner own).getD own)

/-- Capture a DIG step's results for its checker: `exact` are the results of its operands, `got` what the array gave. -/
def State.captureDig (core : Nat) (i : Issue) (exact got : List (List Int)) (lines : Nat) (drawn : Bool) (s : State) : State :=
  let cl := (s.arrayFor (core / 8)).getD (core / 8)
  (((s.takeCheck (core / 8) lines).newTile
    { id := 0, state := .captured, site := none, cluster := cl, core := core, stepno := stepNo i.w, ordinal := i.b
      run := some (stepRun i.w), word := i.w, inputs := exact, accs := got, codes := [], dup := []
      checker := s.digChecker core i.w drawn, third := none, treg := stepTile (s.core core) i.w, lines := lines, given := true })).countEvent (core / 8) 0x21 1

/-- Requantise and write a matrix tile (R111). -/
def State.digWrite (core : Nat) (i : Issue) (d : ADesc) (bd : BDesc) (x : DigIn) (accs : List (List Int)) (outs : Nat)
    (s : State) : State :=
  let run := stepRun i.w
  let f := (outFmt bd.outfmt).getD .int8
  let grid := (List.range d.v).map fun v => (List.range d.n).map fun j =>
    if v < x.x.length ∧ j < outs then some ((accs.getD v []).getD j 0) else none
  match quantizeTile bd x.scales 0 grid with
  | none => s.stepFault core i.b run (stepNo i.w) []
  | some q =>
    let rows := finishCodes bd x.lut d.n q
    let line := d.outaddr + tileOffset (s.core core) i.w
    let inside := i.t.linesInside (sbOpnd line) (rowsLines f.width d.n rows)
    let g := (s.core core).dupGrant i.w
    let r := s.tileRows core i.b g (.sb (core / 8)) line inside f.width d.n x.poisoned rows
    let s1 := r.1.countCodes (core / 8) 0x17 i.b { bd with staten := bd.staten && g.isNone } (quantsOf q)
    match r.2 with
    | some l => s1.stepFault core i.b run (stepNo i.w) [(6, .num l)]
    | none => s1

/-- The accumulators of a class's tile stay in the class's bank (R126): key 1 class 1, 2 classes 2 and 3, 4 class 4. -/
def State.keepAccs (cl key : Nat) (accs : List (List Int)) (s : State) : State :=
  s.onCluster cl fun c => { c with accBanks := tput0 [] key accs c.accBanks }

/-- Whether a DIG step is duplicated, and its decision when it is sampled in a SEEDMODE 1 tab. -/
structure DigPlan where
  dup : Bool
  drawn : Bool
  decision : Option Decided
  deriving DecidableEq, Repr

def State.digPlan (s : State) (core : Nat) (i : Issue) : DigPlan :=
  let draws := sfld i.w 4 21 21 == 1
  let d := s.outcomeOf core i.b (stepNo i.w) 2 (s.samples core i).toNat
  let drawn := draws && (if i.t.seedmode then d.outcome == 1 else s.samples core i)
  { dup := drawn || s.arrayFullDup ((s.arrayFor (core / 8)).getD (core / 8)), drawn := drawn
    decision := if draws && i.t.seedmode then some d else none }

/-- The body of a matrix tile on the array (R112 to R117). Buffers are checked in the order inputs, weights, scales, lookup table, and
nothing is written when an operand lies outside its buffer (log 81). A digital array forms no floating-point element: a bridge descriptor with a floating
OUTFMT is refused as one outside its table (03 R99). -/
def State.digTile (core : Nat) (i : Issue) (d : ADesc) (faults : List (Nat × Int)) (plan : DigPlan) (bad : List BadWord) (s : State) :
    State :=
  let c := s.core core
  let run := stepRun i.w
  let p := digPresent c i.w d
  let die (u : State) (detail : List (Nat × Detail)) := u.stepFault core i.b run (stepNo i.w) detail
  let s := if (s.descriptor core i.t d.bdesc).isSome then s.repairReads core i (descReads [d.bdesc]) bad else s
  match s.descriptor core i.t d.bdesc with
  | none => die s [(6, .num (d.bdesc / 2))]
  | some bytes =>
    let bd := parseBDesc bytes
    if !d.ok || !bd.ok d.v || 8 ≤ bd.outfmt then die s []
    else
      let s0 := s.repairReads core i (digReads c i.w d bd p.1 p.2) bad
      let x0 := s0.digInput core i d bd p.1 p.2
      let x := { x0 with poisoned := x0.poisoned || s0.poisoned (.sram core) (d.bdesc / 2) || s0.poisoned (.sram core) (sfld i.w 4 14 0 / 2) }
      match x.fault with
      | some l => die s0 [(6, .num l)]
      | none =>
        let exact := digAccs d x.x x.weights p.2
        let got := deviate faults p.2 exact
        let s1 := if x.poisoned then s0.poisonDeath core i.b run (stepNo i.w) else s0
        let s2 := if plan.dup then s1.captureDig core i exact got (digCheckLines d) plan.drawn else s1
        (s2.keepAccs ((s.arrayFor (core / 8)).getD (core / 8)) 1 got).digWrite core i d bd x got p.2

/-- The body of a softmax step (R118, R119). -/
def State.digSoftmax (core : Nat) (i : Issue) (d : ADesc) (plan : DigPlan) (bad : List BadWord) (s : State) : State :=
  let c := s.core core
  let run := stepRun i.w
  let sb := Area.sb (core / 8)
  let p := digPresent c i.w d
  let die (u : State) (detail : List (Nat × Detail)) := u.stepFault core i.b run (stepNo i.w) detail
  if !d.ok then die s []
  else
    let vl := (d.k + 63) / 64
    let off := tileOffset c i.w
    match ([(d.inaddr + off, p.1 * vl), (d.waddr, 8)].filterMap fun r => i.t.sbFault r.1 r.2).head? with
    | some l => die s [(6, .num l)]
    | none =>
      let reads := softmaxReads c i.w d p.1 p.2
      let s0 := s.repairReads core i (reads.map fun r => (sbOpnd r.1, r.2)) bad
      let tab := s0.expTable core d
      if !expTableOk tab then die s0 []
      else
        let poisoned := (reads.any fun r => s0.rangePoisoned sb (r.1 * 64) (r.2 * 64)) || s0.poisoned (.sram core) (sfld i.w 4 14 0 / 2)
        let s1 := if poisoned then s0.poisonDeath core i.b run (stepNo i.w) else s0
        let rows := s0.softmaxRows core i.w d p.1 p.2 tab
        let s2 := if plan.dup then s1.captureDig core i rows rows (digCheckLines d) plan.drawn else s1
        let line := d.outaddr + off
        let r := s2.tileRows core i.b (c.dupGrant i.w) sb line (i.t.linesInside (sbOpnd line) (d.v * vl)) 8 d.k poisoned
          (rows.map (·.map some))
        let s3 := r.1.countEvent (core / 8) 0x18 d.v
        match r.2 with
        | some l => die s3 [(6, .num l)]
        | none => s3

/-- Run a DIG step that has issued and holds the array, to its end (R127). A masked tile occupies the array for the same cycles (R113). -/
def State.digRun (core : Nat) (i : Issue) (masked : Bool) (faults : List (Nat × Int)) (bad : List BadWord) (s : State) : State :=
  let addr := sfld i.w 4 14 0
  let cycles := digCycles (parseADesc ((s.descriptor core i.t addr).getD []))
  let s0 := if (s.descriptor core i.t addr).isSome then s.countEvent ((s.arrayFor (core / 8)).getD (core / 8)) 0x11 cycles else s
  let s1 :=
    if masked then s0
    else
      let s2 := if (s0.descriptor core i.t addr).isSome then s0.repairReads core i (descReads [addr]) bad else s0
      match s2.descriptor core i.t addr with
      | none => s2.stepFault core i.b (stepRun i.w) (stepNo i.w) [(6, .num (addr / 2))]
      | some bytes =>
        let d := parseADesc bytes
        let plan := s2.digPlan core i
        if d.op = 1 then s2.digSoftmax core i d plan bad
        else if d.op = 0 then s2.digTile core i d faults plan bad
        else s2.stepFault core i.b (stepRun i.w) (stepNo i.w) []
  s1.completeStep core i.b i.w masked

/-- Whether a DIG step runs softmax. -/
def State.isSoftmax (s : State) (core : Nat) (i : Issue) : Bool :=
  (parseADesc ((s.descriptor core i.t (sfld i.w 4 14 0)).getD [])).op == 1

/-- The first DIG step in a core's array port, and whether it is masked. -/
def State.waitingDig (s : State) (core : Nat) : Option (Issue × Bool) :=
  let c := s.core core
  match c.flight.find? fun f => f.unit == 8, c.cur, s.tab? core c.side with
  | some f, some b, some t => (t.steps[f.stepno]?).map fun w => (⟨b, t, w⟩, f.masked)
  | _, _, _ => none

/-- The array is a core's: the arbiter has granted it, or nobody else asks for it (R127). -/
def State.holdsArray (s : State) (core : Nat) : Bool :=
  let u := s.cluster (core / 8)
  u.owner == some (core % 8) || (u.owner.isNone && u.waiters.all (· == core % 8))

/-- A DIG step of a core has run: the array is free, and the core asks for it again for the next step in its port. -/
def State.freeArray (core : Nat) (s : State) : State :=
  let more := (s.waitingDig core).isSome
  s.onCluster (core / 8) fun x =>
    { x with owner := none, arrClass := 0
             waiters := if more then insertNew (core % 8) x.waiters else x.waiters.filter (· != core % 8) }

/-- A DIG step is masked at its issue: as a whole, or because it has no present element (05 R143). -/
def State.digMasked (s : State) (core : Nat) (i : Issue) : Bool :=
  let c := s.core core
  stepMasked c i.w || (match s.descriptor core i.t (sfld i.w 4 14 0) with
    | some b => digNothing c i.w (parseADesc b)
    | none => false)

/-- A DIG step issues into the array port, which is two deep (05 R134). It records its decision at issue. It runs at once when it is the
first in the port and the array is its core's, and waits for the arbiter otherwise (R126, R127). It waits for room in the
checking area for its captures, which is kept for it until it runs (R123, 06 R172, log 13). -/
def State.digIssue (core : Nat) (faults : List (Nat × Int)) (bad : List BadWord) (i : Issue) (s : State) : State :=
  let cl := core / 8
  let plan := s.digPlan core i
  let d := parseADesc ((s.descriptor core i.t (sfld i.w 4 14 0)).getD [])
  let masked := s.digMasked core i
  if !masked && ((plan.dup && !s.checkRoom cl (digCheckLines d)) || s.dupWaits core i.w (s.digLines core i.t d)) then
    s.countEvent cl 0x1C 1
  else
    let s1 := match plan.decision with
      | some x => s.decided core i.b (stepRun i.w) (stepNo i.w) 2 x
      | none => s
    let first := (s.waitingDig core).isNone
    -- a missing replay record kills the run before the step executes
    let dies := masked || (plan.decision.any fun x => x.missing)
    let s2 := (s1.fly core i false dies).issued core dies
    if first && s2.holdsArray core then (s2.digRun core i dies faults bad).freeArray core
    else
      let room := if dies then 0
        else (if plan.dup then digCheckLines d else 0) + if ((s.core core).dupGrant i.w).isSome then s.digLines core i.t d else 0
      ((s2.keepRoom core (stepNo i.w) room).onCluster cl fun x =>
        { x with waiters := if x.owner = some (core % 8) then x.waiters else insertNew (core % 8) x.waiters }).refreshSeq core

/-- A DIG step of a core comes to its array: the first one in its port runs when the array is the core's, or else the next one
issues. -/
def State.digCall (core : Nat) (softmax : Bool) (faults : List (Nat × Int)) (bad : List BadWord) (s : State) : State :=
  match (s.waitingDig core).filter fun x => s.holdsArray core && s.isSoftmax core x.1 == softmax with
  | some x => ((s.freeRoom core (stepNo x.1.w)).digRun core x.1 x.2 faults bad).freeArray core
  | none =>
    match s.issue? core 2 with
    | none => s
    | some i => if s.isSoftmax core i ≠ softmax then s else s.digIssue core faults bad i

/-- DIG_TILE: a DIG step of a core with a matrix tile descriptor comes to the array; `faults` are the array's deviations, and `bad` the
bad words among those that it reads. A
descriptor whose OP is reserved faults here (R116). -/
def execDigTile (core : Nat) (faults : List (Nat × Int)) (bad : List BadWord) (s : State) : Host.Outcome State Fault Refusal :=
  if core < 256 then .next (s.digCall core false faults bad) else .fault .noSuchUnit

/-- DIG_SOFTMAX: a DIG step of a core with a softmax descriptor comes to the array. -/
def execDigSoftmax (core : Nat) (bad : List BadWord) (s : State) : Host.Outcome State Fault Refusal :=
  if core < 256 then .next (s.digCall core true [] bad) else .fault .noSuchUnit

/-- Whether a core asks for its cluster's array: its DIG step waits for it, or is the next to issue. -/
def State.asksArray (s : State) (core : Nat) : Bool :=
  (s.cluster (core / 8)).waiters.contains (core % 8) || (s.issue? core 2).isSome

/-- ARRAY_GRANT: the arbiter of a cluster's array grants one of the cores that ask for it (R127): the array is that core's
until its DIG step has run to its end. -/
def execArrayGrant (cluster core : Nat) (s : State) : Host.Outcome State Fault Refusal :=
  if cluster < 32 ∧ core < 8 then
    let u := s.cluster cluster
    .next (if s.frozen then s else if u.owner = none ∧ s.asksArray (cluster * 8 + core) then
      s.onCluster cluster fun x =>
        { x with owner := some core, arrClass := 1, waiters := x.waiters.filter fun k => k != core }
    else s)
  else .fault .noSuchUnit

/-- Work of a class above `cls` is pending on a cluster's array (Table 04-5): 1 DIG steps in its port, 2 third executions, 3 duplicates. Of
class 3 the tiles captured before tile `id` count, for the array serves them in capture order. -/
def State.arrayBusy (s : State) (cl cls id : Nat) : Bool :=
  let u := s.cluster cl
  let third (t : CheckedTile) : Bool := (t.state == .third || t.state == .escThird) && t.third == some cl
  let dup (t : CheckedTile) : Bool := (t.state == .captured || t.state == .escalated) && t.checker == .array cl && decide (t.id < id)
  u.owner.isSome || !u.waiters.isEmpty || (decide (2 < cls) && s.walk.tiles.any third) || (decide (3 ≤ cls) && s.walk.tiles.any dup)

/-- K-ARR has run to its end on a cluster's array in batch b. `ok`: it gave the answer of Table 10-3. -/
def State.droneRan (cl b : Nat) (ok : Bool) (s : State) : State :=
  let s1 := (((s.onCluster cl fun x => { x with droneCut := false, droneAt := some b }).keepAccs cl 4 (kArrAccs (droneSeed b))).countEvent cl 0x2A
    1).countEvent cl (if s.arrayFullDup cl then 0x13 else 0x14) (arrayCycles 0 0 1024 64 64 + softmaxCycles 256 64)
  if ok then s1.passCheck (.array cl) b
  else s1.chargeRecord { kind := 0x05, severity := 2, detected := some b, unit := .array cl } b

/-- The drone controllers cover every array at least once in 8 batches, and a SUSPECT array in every batch (R128, R285): an array that no
ARRAY_DRONE has covered by then runs K-ARR before batch b opens, in idle cycles and without deviations (log 82). -/
def State.coverArrays (b : Nat) (s : State) : State :=
  (s.activeClusters.filter fun cl => !(s.cluster cl).arrayCheck.retired).foldl (fun t cl =>
    let last := (t.cluster cl).droneAt
    let due := if t.arrayFullDup cl then decide (1 ≤ b) && last != some (b - 1) else decide (last.elim 8 (· + 8) ≤ b)
    if due then t.droneRan cl (b - 1) true else t) s

/-- ARRAY_DRONE: a K-ARR run on a cluster's array. It yields when other work is pending, or comes while it runs (`cut`), and repeats; a
SUSPECT array runs it at class 3 (R128, R285). `faults`: the deviations of the array's answer (R282). -/
def execArrayDrone (cluster : Nat) (cut : Bool) (faults : List (Nat × Int)) (s : State) : Host.Outcome State Fault Refusal :=
  if cluster < 32 then
    let u := s.cluster cluster
    let b := s.dev.bOpen.getD 0
    if s.frozen ∨ ¬ s.clusterActive cluster ∨ u.arrayCheck.retired then .next s
    else
      let s1 := if u.droneCut then s.countEvent cluster 0x2B 1 else s
      let suspect := s.arrayFullDup cluster
      if cut || s.arrayBusy cluster (if suspect then 3 else 4) s.walk.tileNo then .next (s1.onCluster cluster fun x => { x with droneCut := true })
      else .next (s1.droneRan cluster b (answerOk 64 faults (kArrAnswer (droneSeed b))))
  else .fault .noSuchUnit

end Sys2Proof.Machine
end

