-- ==== Sys2Proof/Machine/Move.lean ====
section
/-!
DEFINITION. MOVE steps: lines between memories, exact reductions, the repair of bad words with regeneration, and the messages of
remote sides (05_tablature.md Table 05-7, R142, R157, R509; 10_fault_containment.md R270 to R277;
08_bit_identity_and_seals.md R234 to R237; 04_digital_arrays.md R121, R122; 12_exham_group.md R368).
-/

namespace Sys2Proof.Machine

/-! ### Frames as steps see them (11 R314, R316) -/

/-- A stream's configuration record in force (Table 11-2). -/
def cfgStream (cfg : List (Nat × Bytes)) (stream : Nat) : Bytes :=
  ((cfg.find? fun e => e.1 == (0x3010 + stream) * 256 + 1).map (·.2)).getD (zeros 64)

/-- A stream's record in the settings of batch b (R324). -/
def State.streamCfg (s : State) (b stream : Nat) : Bytes :=
  cfgStream (match s.walk.batches.find? fun x => x.ordinal == b with
    | some x => x.inputCfg
    | none => s.walk.intakeCfg) stream

/-- Channels of a stream: 3 for YUV422, 4 for planar RAW, 1 for mosaic RAW (R315). -/
def cfgChannels (c : Bytes) : Nat :=
  if bits (num c 0 4) 14 9 = 0x1E then 3 else if bits (num c 0 4) 16 15 = 1 then 4 else 1

/-- The stream is enabled. -/
def cfgEn (c : Bytes) : Bool := bit (num c 0 4) 0

/-- Member streams of the settings. -/
def cfgMembers (cfg : List (Nat × Bytes)) : List Nat := (List.range 32).filter fun k => cfgEn (cfgStream cfg k)

def cfgOutW (c : Bytes) : Nat := bits (num c 0x10 4) 11 0
def cfgOutH (c : Bytes) : Nat := bits (num c 0x10 4) 27 16

/-- Lines of the stored frame: each row starts on a 64-byte boundary (R316). -/
def State.frameLines (s : State) (b stream : Nat) : Nat :=
  let c := s.streamCfg b stream
  cfgChannels c * cfgOutH c * ((cfgOutW c + 63) / 64)

/-! ### One line -/

/-- Where a MOVE step stands: the state, and whether it has read poison. -/
structure Moving where
  s : State
  poison : Bool
  deriving DecidableEq, Repr

/-- The words of a step's `k`-th line of an operand (0 source, 1 destination) among its bad words: stored badly, or lost. -/
def badIn (bad : List BadWord) (space k : Nat) (lost : Bool) : List Nat :=
  (bad.filter fun w => w.space == space && w.word / 16 == k && w.lost == lost).map fun w => w.word % 16

/-- The words of a line whose container has bits [63:48] that are not its sign (R82). -/
def signBadWords (x : Bytes) : List Nat :=
  (List.range 8).flatMap fun j => if containerOk (num x (8 * j) 8) then [] else [2 * j, 2 * j + 1]

/-- Read line `k` of an operand of a MOVE step: repair its bad words, those of containers with a bad sign among them, and notice
poison. The words of SRAM and soundboards keep their bad parity until they are repaired or written (01 R18). -/
def State.readLine (core : Nat) (i : Issue) (o : Opnd) (a : Area) (space k : Nat) (bad : List BadWord) (reduce : Bool) (m : Moving) :
    Moving × Bytes :=
  let line := o.line + k
  let stored := badIn bad space k false ++ (if reduce then signBadWords (m.s.load a (line * 64) 64) else [])
  let s1 := stored.foldl (fun u n => u.setParity a line n) m.s
  let s20 := s1.repairRead core i { o with line := line } a line (badIn bad space k true) (eventsOf bad space k)
  -- a container whose sign no repair mended is poisoned like any other word (03 R82)
  let s2 := if reduce && !s20.poisoned a line && !lineSignsOk (s20.load a (line * 64) 64) then s20.repairFails core i a line (.core core) else s20
  let p := s2.poisoned a line
  let s3 := if p && !m.poison then s2.poisonDeath core i.b (stepRun i.w) (stepNo i.w) else s2
  (⟨s3.countSb a 0x19, m.poison || p⟩, s2.load a (line * 64) 64)

/-- Write line `k` of a MOVE step's destination, or add into it. A poisoned container poisons the sum (R277). A duplicate grant's line is
captured (06 R172). DESIGN CHOICE (R172 does not say what a MOVE with REDUCE captures, log 114): for a destination of this device the sum of its
line and the source's; for one on another device, whose lines are not here, the source's lines as they are sent. -/
def State.writeLine (core : Nat) (i : Issue) (o : Opnd) (a : Area) (k : Nat) (bad : List BadWord) (reduce : Bool) (x : Bytes) (m : Moving) :
    Moving :=
  let r := if reduce then State.readLine core i o a 1 k bad true m else (m, x)
  let y := if reduce then addContainers x r.2 else x
  ⟨((r.1.s.tileStore core i.b ((r.1.s.core core).dupGrant i.w) a ((o.line + k) * 64) y r.1.poison).countSb a 0x1A).countEvent (core / 8)
    (if reduce then 0x36 else 0x35) 1, r.1.poison⟩

/-! ### The step -/

/-- Lines of an operand that exist from its first line on: those inside its buffer, and inside the stored frame (R509). -/
def State.reach (s : State) (b : Nat) (t : Tab) (o : Opnd) (n : Nat) : Nat :=
  let k := t.linesInside o n
  if o.space = 7 then min k (s.frameLines b (o.unit % 32) - o.line) else k

/-- The next message number for a member (R369). -/
def State.nextEseq (dev : Nat) (s : State) : State := s.onPeer dev fun p => { p with sent := (p.sent + 1) % 2 ^ 32 }

/-- Send `n` lines to another device's memory (R368): fields of WRITE in order, then the numbers of its poisoned lines. SPACE is that of the
step's operand, 6, and the receiver's table says which memory of the unit it is (log 15). -/
def State.sendWrite (core : Nat) (i : Issue) (o : Opnd) (reduce : Bool) (lines : List Bytes) (poison : List Nat) (s : State) : State :=
  let dev := o.unit / 256
  (((s.sendMsg 0x10 dev [(s.peer dev).sent, i.b, stepRun i.w, reduce.toNat, o.unit, 6, o.line, lines.length, 0] [] lines.flatten
    poison).nextEseq dev).countEvent (core / 8) 0x37 1).countEvent (core / 8) (if reduce then 0x36 else 0x35) lines.length

/-- Copy or reduce `n` lines between two memories of this device, line by line. -/
def State.copyLines (core : Nat) (i : Issue) (src dst : Opnd) (sa da : Area) (bad : List BadWord) (reduce : Bool) (n : Nat) (s : State) : State :=
  ((List.range n).foldl (fun m k =>
    let r := State.readLine core i src sa 0 k bad reduce m
    State.writeLine core i dst da k bad reduce r.2 r.1) ⟨s, false⟩).s

/-- Lines that a grant sends to another device are noted for the close check of its counter (06 R173). -/
def State.noteSent (core : Nat) (i : Issue) (dst : Opnd) (lines : List Bytes) (s : State) : State :=
  match (if stepStride i.w = 0 then none else (s.core core).grants.getD (stepTreg i.w) none) with
  | some g =>
    s.onCluster (core / 8) fun c =>
      { c with banks := tmod0 {} (g.counter * 2 + i.b % 2) (fun k =>
          { k with sent := k.sent ++ lines.mapIdx fun n x => ⟨g.n, .remote dst.unit, (dst.line + n) * 64, x⟩ }) c.banks }
  | none => s

/-- Send `n` lines to another device, line by line. -/
def State.sendLines (core : Nat) (i : Issue) (src dst : Opnd) (sa : Area) (bad : List BadWord) (reduce : Bool) (n : Nat) (s : State) : State :=
  let r := (List.range n).foldl (fun (m : Moving × List Bytes × List Nat) k =>
    let x := State.readLine core i src sa 0 k bad reduce m.1
    (x.1, m.2.1 ++ [x.2], if x.1.poison then m.2.2 ++ [k] else m.2.2)) (⟨s, false⟩, [], [])
  (r.1.s.noteSent core i dst r.2.1).sendWrite core i dst reduce r.2.1 r.2.2

/-- Lines of a duplicate grant for another device are captured here like every write of it (06 R172). -/
def State.captureRemote (core : Nat) (i : Issue) (src dst : Opnd) (sa : Area) (bad : List BadWord) (n : Nat) (s : State) : State :=
  ((List.range n).foldl (fun m k =>
    let r := State.readLine core i src sa 0 k bad false m
    ⟨r.1.s.tileStore core i.b ((r.1.s.core core).dupGrant i.w) (Area.remote dst.unit) ((dst.line + k) * 64) r.2 r.1.poison, r.1.poison⟩)
      ⟨s, false⟩).s

/-- Ask another device for `n` lines (R368); the step completes when its WRITE has arrived. -/
def State.sendRead (core : Nat) (i : Issue) (src dst : Opnd) (n : Nat) (s : State) : State :=
  let dev := src.unit / 256
  let c := coreCode s.group.devno core
  let sp := if dst.space = 0 then 4 else if dst.space = 1 then 5 else dst.space
  (s.sendMsg 0x11 dev [(s.peer dev).sent, i.b, stepRun i.w, src.unit, 6, src.line, n, c, sp, dst.line] [] [] []).countEvent
    (core / 8) 0x38 1

/-- Lines that a MOVE step moves. -/
def movePresent (c : Core) (w : StepWord) : Nat :=
  presentCount (sfld w 0x14 15 0 + tileMul c w * sfld w 0x10 23 0) (c.limit (sfld w 4 22 20)) (sfld w 0x10 23 0)

/-- What a MOVE step that has issued does (R142, R157, R509); the answer says whether it waits for another device's lines. -/
def State.moveRun (core : Nat) (badWords : List BadWord) (i : Issue) (s : State) : State × Bool :=
  let c := s.core core
  let w := i.w
  let run := stepRun w
  let n := movePresent c w
  let src := moveSrc c w
  let dst := moveDst c w
  let reduce := sfld w 4 19 19 == 1
  let rs := s.reach i.b i.t src n
  let rd := s.reach i.b i.t dst n
  let k := min rs rd
  let off := if rs ≤ rd then src.line + rs else dst.line + rd
  let fault (u : State) := if k < n then u.stepFault core i.b run (stepNo w) [(6, .num off)] else u
  match (if src.space = 6 then none else s.areaOf core i.b i.t src), (if dst.space = 6 then none else s.areaOf core i.b i.t dst) with
  | some sa, some da => (fault (s.copyLines core i src dst sa da badWords reduce k), false)
  | some sa, none =>
    if dst.space = 6 then
      (fault (if (c.dupGrant w).isSome then s.captureRemote core i src dst sa badWords k else s.sendLines core i src dst sa badWords reduce k),
        false)
    else (s.stepFault core i.b run (stepNo w) [(6, .num dst.line)], false)
  | none, _ =>
    if src.space = 6 then if k < n then (fault s, false) else (s.sendRead core i src dst n, true)
    else (s.stepFault core i.b run (stepNo w) [(6, .num src.line)], false)

/-- The move port runs its steps in the order of their issue (05 R134): a step that is first in it runs, and completes unless it waits for
another device. -/
def State.moveFirst (core : Nat) (badWords : List BadWord) (i : Issue) (s : State) : State :=
  let r := (s.noteJournal core i.b badWords).moveRun core badWords i
  -- the lines of the answer are captured when they come: their room is kept (06 R172)
  let room := if r.2 ∧ ((s.core core).dupGrant i.w).isSome then movePresent (s.core core) i.w else 0
  if r.2 then (r.1.keepRoom core (stepNo i.w) room).refreshSeq core else r.1.completeStep core i.b i.w false

/-- The MOVE step behind one that has completed runs. -/
def State.moveNext (core : Nat) (s : State) : State :=
  let c := s.core core
  match c.moves, c.cur, s.tab? core c.side with
  | e :: l, some b, some t =>
    match t.steps[e.1]? with
    | some w =>
      let s1 := s.onCore core fun x => { x with moves := l }
      if c.flight.any fun f => f.stepno == e.1 && f.masked then s1.completeStep core b w true
      else (s1.freeRoom core e.1).moveFirst core e.2 ⟨b, t, w⟩
    | none => s
  | _, _, _ => s

/-- A MOVE step issues (R142, R143, R134). `badWords` are the words that neither a crossing replay nor a re-read repaired. Behind a step
that waits for another device it waits in the port, masked or not. -/
def State.moveIssue (core : Nat) (badWords : List BadWord) (i : Issue) (s : State) : State :=
  let c := s.core core
  let w := i.w
  let n := movePresent c w
  let masked := stepMasked c w || n == 0
  let behind := c.flight.any fun f => f.unit == 9
  if masked && !behind then s.stepDone core i true
  else if !masked && s.dupWaits core w n then s.countEvent (core / 8) 0x1C 1
  else
    let s1 := (s.fly core i false masked).issued core masked
    let room := if masked ∨ (c.dupGrant w).isNone then 0 else n
    if behind then ((s1.keepRoom core (stepNo w) room).onCore core fun x => { x with moves := x.moves ++ [(stepNo w, badWords)] }).refreshSeq core
    else s1.moveFirst core badWords i

/-- MOVE_STEP: the next step of a core is a MOVE step and issues. -/
def execMoveStep (core : Nat) (badWords : List BadWord) (s : State) : Host.Outcome State Fault Refusal :=
  if core < 256 then
    .next (match s.issue? core 3 with
      | some i => s.moveIssue core badWords i
      | none => s)
  else .fault .noSuchUnit

end Sys2Proof.Machine
end

