-- ==== Sys2Proof/Machine/ScenePort.lean ====
section
/-!
DEFINITION. Scene contexts, and the steps of the scene port: gathers and scatters (11_cameras_results_scene.md R335, R342, R343;
05_tablature.md Table 05-12, R142, R157; 10_fault_containment.md R273).
-/

namespace Sys2Proof.Machine

/-- Cells of the grid: 1,024 × 1,024. -/
def gridCells : Nat := 1048576

/-- The entering value of a context (Table 11-5), with its NOEGO and RESET bits. -/
def enteringCtx (noEgo reset : Bool) : Bytes :=
  zeros 48 ++ leBytes 4 (65535 + 2 ^ 24 + noEgo.toNat * 2 ^ 25 + reset.toNat * 2 ^ 26) ++ leBytes 4 0xFFFFFFFF ++
    leBytes 4 0xFFFF ++ zeros 4

/-- The context of a cell: cells that the grid does not list hold the entering value. -/
def State.context (s : State) (cell : Nat) : Bytes := tget0 (enteringCtx s.scene.noEgoAll false) s.scene.grid cell

/-- The present elements of a SCENE step: where each lies, and what stops it. -/
structure SceneElem where
  cell : Nat
  line : Nat                 -- soundboard line of its context or record
  source : Nat
  listLine : Option Nat      -- soundboard line of its entry in the cell list
  deriving DecidableEq, Repr

/-- Element k of a SCENE step. -/
def State.sceneElem (s : State) (core : Nat) (w : StepWord) (k : Nat) : SceneElem :=
  let c := s.core core
  let off := tileOffset c w
  let mul := tileMul c w * sfld w 0x14 15 0
  let indexed := sfld w 4 1 1 == 1
  let lst := sfld w 0x10 16 0 + off
  { cell := if indexed then num (s.load (.sb (core / 8)) (lst * 64 + 4 * k) 4) 0 4 else sfld w 8 19 0 + mul + k
    line := sfld w 0xC 16 0 + off + k
    source := sfld w 0x18 31 16 * 65536 + sfld w 0x14 31 16 + mul + k
    listLine := if indexed then some (lst + k / 16) else none }

/-- Where a SCENE step stands. -/
structure Porting where
  s : State
  poison : Bool
  stop : Bool
  deriving DecidableEq, Repr

/-- The run dies at its first read of poison. -/
def Porting.poisonIf (p : Bool) (core : Nat) (i : Issue) (m : Porting) : Porting :=
  if p && !m.poison then { m with s := m.s.poisonDeath core i.b (stepRun i.w) (stepNo i.w), poison := true } else m

/-- The step faults at an element, and nothing more of it happens. -/
def Porting.fault (core : Nat) (i : Issue) (detail : List (Nat × Detail)) (m : Porting) : Porting :=
  { m with s := m.s.stepFault core i.b (stepRun i.w) (stepNo i.w) detail, stop := true }

/-- Record 0x24 (R343, R344). -/
def State.scatterFault (i : Issue) (cell : Nat) (s : State) : State :=
  s.record { kind := 0x24, severity := 1, detected := some i.b, unit := .scene, run := some (stepRun i.w)
             step := some (stepNo i.w), reactions := [2], detail := [(15, .num cell)] }

/-- The checks of R157 on an element: its list entry and its context lie in their buffers, and its cell in the grid. -/
def sceneFault (t : Tab) (w : StepWord) (off : Nat) (e : SceneElem) (k : Nat) : Option (List (Nat × Detail)) :=
  let lst := sbOpnd (sfld w 0x10 16 0 + off)
  let sb := sbOpnd (sfld w 0xC 16 0 + off)
  if e.listLine.isSome && t.linesInside lst (k / 16 + 1) < k / 16 + 1 then some [(6, .num (e.listLine.getD 0))]
  else if e.cell ≥ gridCells then some [(15, .num e.cell)]
  else if t.linesInside sb (k + 1) < k + 1 then some [(6, .num e.line)]
  else none

/-- Words of a cell's context that are bad: grid contexts cannot be regenerated, so the context is poisoned (08 Table 08-5, 10 R271). The
record names the scene controller and the cell (10 R511). -/
def State.gridBad (core : Nat) (i : Issue) (cell : Nat) (bad : List BadWord) (s : State) : State :=
  if (bad.any fun w => w.space == 3 && w.word / 16 == cell) && !s.poisoned .scene cell then
    (s.repairPoisons core .scene cell).record { repairRec i cell .scene with detail := [(15, .num cell)] }
  else s

/-- One element of a gather: its context is copied to the soundboard (R342). -/
def State.gatherOne (core : Nat) (i : Issue) (bad : List BadWord) (e : SceneElem) (m0 : Porting) : Porting :=
  let sb := Area.sb (core / 8)
  let m := { m0 with s := m0.s.gridBad core i e.cell bad }
  let p := m.s.poisoned .scene e.cell || (e.listLine.any fun l => m.s.poisoned sb l)
  let m1 := m.poisonIf p core i
  { m1 with s := ((m1.s.tileStore core i.b ((m1.s.core core).dupGrant i.w) sb (e.line * 64) (m1.s.context e.cell)
      m1.poison).countEvent (core / 8) 0x1A 1).countEvent (core / 8) 0x42 1 }

/-- One element of a scatter: its record is checked and put into the update buffer of the batch (R343). -/
def State.scatterOne (core : Nat) (i : Issue) (e : SceneElem) (m : Porting) : Porting :=
  let sb := Area.sb (core / 8)
  let r := m.s.load sb (e.line * 64) 64
  let p := m.s.poisoned sb e.line || (e.listLine.any fun l => m.s.poisoned sb l)
  let m1 := (m.poisonIf p core i)
  let ups := ((m1.s.batch? i.b).map (·.updates)).getD []
  if m1.poison then m1
  -- a duplicate grant's record is captured, and stays out of the update buffer (06 R172)
  else if ((m1.s.core core).dupGrant i.w).isSome then
    let record := r ++ leBytes 4 e.source ++ leBytes 1 (stepRun i.w)
    { m1 with s := m1.s.tileStore core i.b ((m1.s.core core).dupGrant i.w) .scene (e.cell * 64) record false }
  else if (r.getD 49 0#8).toNat > 1 ∨ (r.drop 50).any (· != 0#8) then m1.fault core i [(15, .num e.cell)]
  else if ups.length ≥ 262144 then
    let f := m1.fault core i [(15, .num e.cell)]
    { f with s := f.s.scatterFault i e.cell }
  else if ups.any fun u => u.cell == e.cell && u.source == e.source && u.run == stepRun i.w then
    let f := m1.fault core i [(15, .num e.cell)]
    { f with s := f.s.scatterFault i e.cell }
  else
    { m1 with s := ((m1.s.onBatch i.b fun b => { b with updates := b.updates ++ [⟨e.cell, e.source, stepRun i.w, r⟩] }).countEvent
                (core / 8) 0x43 1).countEvent (core / 8) 0x19 1 }

/-- The lines that `n` elements of a SCENE step read: of the cell list, and of the records of a scatter. -/
def State.sceneReads (s : State) (core : Nat) (w : StepWord) (n : Nat) : List (Opnd × Nat) :=
  (List.range n).flatMap fun k =>
    let e := s.sceneElem core w k
    (e.listLine.toList.map fun l => (sbOpnd l, 1)) ++ (if sfld w 4 0 0 = 1 then [(sbOpnd e.line, 1)] else [])

/-- The present elements of a SCENE step. -/
def sceneCount (c : Core) (w : StepWord) : Nat :=
  let count := sfld w 0x14 15 0
  presentCount (sfld w 0x14 31 16 + tileMul c w * count) (c.limit (sfld w 4 4 2)) count

/-- Lines of the checking area that the captures of a SCENE step take: a context is one, and a record with its source index and run two
(06 R172). -/
def sceneRoom (c : Core) (w : StepWord) : Nat := sceneCount c w * (1 + sfld w 4 0 0)

/-- A SCENE step runs, element by element, and completes. -/
def State.sceneRun (core : Nat) (bad : List BadWord) (masked : Bool) (i : Issue) (s : State) : State :=
  let w := i.w
  let n := sceneCount (s.core core) w
  if masked then s.completeStep core i.b w true
  else
    let one := if sfld w 4 0 0 = 0 then State.gatherOne core i bad else State.scatterOne core i
    let m := (List.range n).foldl (fun (m : Porting) k =>
      if m.stop then m
      else
        let e := m.s.sceneElem core w k
        match sceneFault i.t w (tileOffset (s.core core) w) e k with
        | some d => m.fault core i d
        | none => one e m) ⟨(s.freeRoom core (stepNo w)).repairReads core i (s.sceneReads core w n) bad, false, false⟩
    m.s.completeStep core i.b w false

/-- A SCENE step issues into the scene port, which is two deep (05 R134). It waits there until the warp of its batch is complete (R341), with
room kept for its captures, and runs at once after that. -/
def State.sceneIssue (core : Nat) (bad : List BadWord) (i : Issue) (s : State) : State :=
  let c := s.core core
  let w := i.w
  let masked := stepMasked c w || sceneCount c w == 0
  if !masked && s.dupWaits core w (sceneRoom c w) then s.countEvent (core / 8) 0x1C 1
  else
    let s1 := (s.fly core i false masked).issued core masked
    if (s.batch? i.b).elim false (·.warped) && c.scenes.isEmpty then s1.sceneRun core bad masked i
    else
      let room := if !masked && (c.dupGrant w).isSome then sceneRoom c w else 0
      ((s1.keepRoom core (stepNo w) room).onCore core fun c => { c with scenes := c.scenes ++ [(stepNo w, bad)] }).refreshSeq core

/-- The SCENE steps that wait in a core's port run, in order: the warp of their batch is complete. -/
def State.sceneCall (b core : Nat) (s : State) : State :=
  let c := s.core core
  match c.cur, s.tab? core c.side with
  | some n, some t =>
    if n = b then
      c.scenes.foldl (fun u e =>
        match t.steps[e.1]? with
        | some w => u.sceneRun core e.2 ((c.flight.find? fun f => f.stepno == e.1).elim true (·.masked)) ⟨b, t, w⟩
        | none => u) (s.onCore core fun c => { c with scenes := [] })
    else s
  | _, _ => s

/-- SCENE_GATHER: the next step of a core is a gather and issues. `bad`: the bad words among those that it reads, those
of the grid as space 3. -/
def execSceneGather (core : Nat) (bad : List BadWord) (s : State) : Host.Outcome State Fault Refusal :=
  if core < 256 then
    .next (match s.issue? core 9 with
      | some i => if sfld i.w 4 0 0 = 0 then s.sceneIssue core bad i else s
      | none => s)
  else .fault .noSuchUnit

/-- SCENE_SCATTER: the next step of a core is a scatter and issues. `bad`: the bad words among those that it reads. -/
def execSceneScatter (core : Nat) (bad : List BadWord) (s : State) : Host.Outcome State Fault Refusal :=
  if core < 256 then
    .next (match s.issue? core 9 with
      | some i => if sfld i.w 4 0 0 = 1 then s.sceneIssue core bad i else s
      | none => s)
  else .fault .noSuchUnit

end Sys2Proof.Machine
end

