-- ==== Sys2Proof/Machine/SyncPort.lean ====
section
/-!
DEFINITION. The sync port: SIGNAL and WAIT steps, tokens and their channels, timeouts, and what a core does when it learns of a
run's death (05_tablature.md R146 to R151; 08_bit_identity_and_seals.md R221, R234, R241; 12_exham_group.md R368;
16_observation.md R470).
-/

namespace Sys2Proof.Machine

/-- Unit codes from here on name base-die services: 8192 + service (05_tablature.md Table 05-10). -/
def serviceCode (k : Nat) : Nat := 8192 + k

/-- The partner that a SIGNAL or WAIT step names. -/
def stepPartner (w : StepWord) : Nat := if sfld w 4 13 13 = 1 then serviceCode (sfld w 4 2 0) else sfld w 4 12 0

/-- Tokens of a channel of a port: held, and on their way (R147). -/
def Core.channelLoad (c : Core) (chan : Nat) : Nat :=
  (c.channels.filter fun t => t.chan == chan).length + (c.inbound.filter fun t => t.chan == chan).length

/-- The oldest held token that a WAIT takes (R148). -/
def Core.heldToken (c : Core) (b sender chan : Nat) : Option Token :=
  c.channels.find? fun t => t.ordinal == b && t.sender == sender && t.chan == chan

/-- A token is on its way to a core of this device. -/
def State.postToken (core : Nat) (t : Token) (s : State) : State :=
  s.onCore core fun c => { c with inbound := c.inbound ++ [t] }

/-- A token of another device comes to a core of this device: it crosses when its channel has room, behind those of its channel that wait
at the handshake (R147). -/
def State.postRemote (core : Nat) (t : Token) (s : State) : State :=
  let c := s.core core
  if 8 ≤ c.channelLoad t.chan ∨ c.crossing.any (fun x => x.chan == t.chan) = true then
    s.onCore core fun c => { c with crossing := c.crossing ++ [t] }
  else s.postToken core t

/-- A channel has room again: the oldest token that waits for it crosses. -/
def State.admitToken (core chan : Nat) (s : State) : State :=
  let c := s.core core
  match c.crossing.find? fun x => x.chan == chan with
  | some t => if c.channelLoad chan < 8 then (s.onCore core fun c => { c with crossing := c.crossing.erase t }).postToken core t else s
  | none => s

/-- The channels of a port have room again: the tokens that wait for it cross, the oldest of each channel first. -/
def State.admitTokens (core : Nat) (s : State) : State := (List.range 32).foldl (fun t k => t.admitToken core (k % 4)) s

/-- The cores of this device whose first job is a SIGNAL to a core. -/
def State.blockedOn (s : State) (core : Nat) : List Nat :=
  s.activeCores.filter fun k => match (s.core k).sync with
    | .signal _ dest _ :: _ => dest == coreCode s.group.devno core
    | _ => false

/-- A trace record about a token (Table 16-3). -/
def tokenTrace (dev core kind stepno partner : Nat) (t : Token) : TraceRec :=
  { ordinal := t.ordinal, kind := kind, chan := t.chan, run := t.run, stepno := stepno, unit := coreCode dev core
    partner := partner % 8192, svc := decide (8192 ≤ partner), isEmpty := t.empty, dead := t.dead }

/-- The step of a tab that a core is walking. -/
def State.stepAt (s : State) (core stepno : Nat) : Option Issue :=
  match (s.core core).cur, s.tab? core (s.core core).side with
  | some b, some t => (t.steps[stepno]?).map fun w => ⟨b, t, w⟩
  | _, _ => none

/-- The first job of the port leaves it, and its step completes. -/
def State.syncDone (core stepno : Nat) (s : State) : State :=
  let s1 := s.onCore core fun c => { c with sync := c.sync.drop 1 }
  match s1.stepAt core stepno with
  | some i => s1.completeStep core i.b i.w false
  | none => s1

/-- A SIGNAL sends its token (R147): to a core of this device, to another member as a TOKEN message, or to a service, where
nothing waits for it. -/
def State.sendToken (core stepno dest : Nat) (t : Token) (s : State) : State :=
  let dev := s.group.devno
  let cl := core / 8
  let s1 :=
    if dest ≥ 8192 then s
    else if dest / 256 = dev then
      (s.onCore core fun c => { c with outgoing := c.outgoing ++ [(dest % 256, t)] }).postToken (dest % 256) t
    else (s.sendMsg 0x12 (dest / 256)
      [(s.peer (dest / 256)).sent, t.ordinal, t.sender, t.chan, t.run, t.empty.toNat + 2 * t.dead.toNat, dest] [] [] []).nextEseq (dest / 256)
  let s2 := ((s1.countEvent cl 0x39 1).countEvent cl 0x3B t.dead.toNat).countEvent cl 0x3C t.empty.toNat
  (s2.traceCore core false (tokenTrace dev core 1 stepno dest t)).syncDone core stepno

/-- What a WAIT comes to. -/
inductive WaitEnd where
  | took (t : Token)
  | timeout (dropped : Option Token)   -- a replayed timeout drops the token that is held for it
  | death
  deriving DecidableEq, Repr

/-- A WAIT completes (R146, R148, R150, R234). DESIGN CHOICE (R150 does not say which outcome is recorded, log 113): a VARIES WAIT that the death
of its run completes records outcome 0x00, as a timeout does. -/
def State.endWait (core stepno sender chan pdst run : Nat) (varies : Bool) (e : WaitEnd) (s : State) : State :=
  let dev := s.group.devno
  let b := (s.core core).cur.getD 0
  let none_ : Token := { ordinal := b, sender := sender, chan := chan, run := run, empty := false, dead := false }
  let s1 := if varies then
      s.decided core b run stepno 1 ⟨match e with | .took _ => 1 | _ => 0, false⟩
    else s
  let s2 := match e with
    | .took t =>
      let u := ((s1.onCore core fun c =>
        { (c.setPred pdst (!t.empty)) with channels := c.channels.erase t }).admitToken core chan |>.journal core b stepno 7
          (1 + 2 * t.empty.toNat + 4 * t.dead.toNat)).countEvent (core / 8) 0x3A 1
      let v := if t.dead then
          (if ((u.run? b run).map fun (x : RunRec) => x.cause).getD 0 = 0 then u.runDiesHere core b run 7 else u.coreLearns core b run)
        else u
      v.traceCore core false (tokenTrace dev core 2 stepno sender t)
    | .timeout dropped =>
      (((s1.onCore core fun c =>
        match dropped with
        | some t => { (c.setPred pdst false) with channels := c.channels.erase t }
        | none => { (c.setPred pdst false) with lateFor := c.lateFor ++ [(b, sender, chan)] }).admitToken core chan).journal core b stepno
          7 0).traceCore core false (tokenTrace dev core 3 stepno sender none_)
    | .death => s1.traceCore core false (tokenTrace dev core 5 stepno sender { none_ with dead := true })
  s2.syncDone core stepno

/-- The record of a replayed batch says that the WAIT's timeout won (08 R241). -/
def State.replayedTimeout (s : State) (core b stepno : Nat) : Bool :=
  (s.batch? b).elim false (·.replayed) && s.outcomeOf core b stepno 1 1 == ⟨0, false⟩

/-- A token reaches a port: it is held, or discarded as late for a WAIT that timed out (R148). -/
def State.takeToken (core : Nat) (t : Token) (s : State) : State :=
  let c := s.core core
  let late := (t.ordinal, t.sender, t.chan)
  if c.lateFor.contains late then
    (((s.onCore core fun c => { c with lateFor := c.lateFor.erase late }).admitToken core t.chan).countCore core 4 1).traceCore core false
      (tokenTrace s.group.devno core 4 0 t.sender t)
  else s.onCore core fun c => { c with channels := c.channels ++ [t] }

/-- A WAIT whose timer has expired completes without a token, and a token that came for it after that is discarded as late (R148). -/
def State.endExpired (core stepno sender chan pdst run : Nat) (held : Option Token) (s : State) : State :=
  let s1 := s.endWait core stepno sender chan pdst run true (.timeout none)
  match held with
  | some t => (s1.onCore core fun c => { c with channels := c.channels.erase t }).takeToken core t
  | none => s1

/-- Try to complete the first job of a core's port; the cores whose ports may go on after it. -/
def State.syncStep (core : Nat) (s : State) : Option (State × List Nat) :=
  let c := s.core core
  match c.sync with
  | [] => none
  | .signal n dest t :: _ =>
    if dest < 8192 ∧ dest / 256 = s.group.devno ∧ (s.core (dest % 256)).channelLoad t.chan ≥ 8 then none
    else some (s.sendToken core n dest { t with dead := c.runDead t.run }, [core])
  | .wait n sender chan pdst run _ expired :: _ =>
    let varies := ((s.stepAt core n).map fun i => sfld i.w 8 23 0 != 0).getD false
    let b := c.cur.getD 0
    let held := c.heldToken b sender chan
    let blocked := s.blockedOn core
    if c.runDead run then some (s.endWait core n sender chan pdst run varies .death, [core])
    else if varies && s.replayedTimeout core b n then some (s.endWait core n sender chan pdst run varies (.timeout held), core :: blocked)
    else if expired then some (s.endExpired core n sender chan pdst run held, core :: blocked)
    else held.map fun t => (s.endWait core n sender chan pdst run varies (.took t), core :: blocked)

/-- Let ports go on until none of the listed ones can: at most `fuel` jobs. -/
def pumpSync : Nat → List Nat → State → State
  | 0, _, s => s
  | _, [], s => s
  | fuel + 1, core :: l, s =>
    match s.syncStep core with
    | some r => pumpSync fuel (l ++ r.2) r.1
    | none => pumpSync fuel l s

/-- Let a core's port go on, and those that wait for its channels. The jobs of every port of the device, each of which completes once, bound
the work. -/
def State.pump (core : Nat) (s : State) : State := pumpSync 4096 (core :: s.blockedOn core) s

/-! ### SIGNAL and WAIT steps -/

/-- SIGNAL_STEP: the next step of a core is a SIGNAL and issues; it completes when its channel has room (R147). The token gets its DEAD
flag when it is sent (R146). -/
def State.signalIssue (core : Nat) (i : Issue) (s : State) : State :=
  let c := s.core core
  let w := i.w
  let dest := stepPartner w
  let t : Token :=
    { ordinal := i.b, sender := coreCode s.group.devno core, chan := sfld w 4 17 14, run := stepRun w
      empty := !c.pred (stepPred w), dead := false }
  let full := dest < 8192 ∧ dest / 256 = s.group.devno ∧ (s.core (dest % 256)).channelLoad t.chan ≥ 8
  let s1 := ((s.fly core i false false).issued core false).onCore core fun c => { c with sync := c.sync ++ [.signal (stepNo w) dest t] }
  ((if full then s1.countEvent (core / 8) 0x3D 1 else s1).pump core).refreshSeq core

def execSignalStep (core : Nat) (s : State) : Host.Outcome State Fault Refusal :=
  if core < 256 then
    .next (match s.issue? core 6 with
      | some i => s.signalIssue core i
      | none => s)
  else .fault .noSuchUnit

/-- WAIT_STEP: the next step of a core is a WAIT and issues. A replayed batch forces the outcome of a WAIT with a timeout
(R241). -/
def State.waitIssue (core : Nat) (i : Issue) (s : State) : State :=
  let c := s.core core
  let w := i.w
  let sender := stepPartner w
  let chan := sfld w 4 17 14
  let pdst := sfld w 8 26 24
  let run := stepRun w
  let varies := sfld w 8 23 0 != 0
  let replayed := (s.batch? i.b).elim false (·.replayed)
  let d := s.outcomeOf core i.b (stepNo w) 1 0
  let held := c.heldToken i.b sender chan
  let s0 := (s.fly core i false false).issued core false
  let s1 := if held.isNone then s0.countCore core 3 1 else s0
  let s2 := if varies && replayed && d.missing then s1.runDiesHere core i.b run 8 else s1
  let s3 := s2.onCore core fun c => { c with sync := c.sync ++ [.wait (stepNo w) sender chan pdst run (varies && !replayed) false] }
  (s3.pump core).refreshSeq core

def execWaitStep (core : Nat) (s : State) : Host.Outcome State Fault Refusal :=
  if core < 256 then
    .next (match s.issue? core 7 with
      | some i => s.waitIssue core i
      | none => s)
  else .fault .noSuchUnit

/-! ### Tokens, timers and deaths as they reach a core -/

/-- The next token of a sender and channel on its way to a core's port: no crossing reorders them (01 R27). -/
def Core.nextInbound (c : Core) (sender chan : Nat) : Option Token := c.inbound.find? fun x => x.sender == sender && x.chan == chan

/-- TOKEN_ARRIVAL: a token that was sent to a core's port arrives there, in the order of its sender and channel. The port acknowledges it,
and the sending core's replay buffer lets it go (10 R270). -/
def execTokenArrival (core : Nat) (t : Token) (s : State) : Host.Outcome State Fault Refusal :=
  if core < 256 then
    .next (if s.frozen then s else if (s.core core).nextInbound t.sender t.chan = some t then
      (((s.onCore core fun c => { c with inbound := c.inbound.erase t }).onCore (t.sender % 256) fun c =>
        { c with outgoing := c.outgoing.erase (core, t) }).takeToken core t).pump core
    else s)
  else .fault .noSuchUnit

/-- The timer of a WAIT has expired. A token that is held for it by then, beyond those that the WAITs before it take, has won; else the WAIT
completes without one when it is the port's first job (R31, R148). -/
def Core.expire (stepno : Nat) (c : Core) : Core :=
  let b := c.cur.getD 0
  let job (sender chan : Nat) : SyncJob → Bool
    | .wait _ x k _ _ _ _ => x == sender && k == chan
    | _ => false
  { c with sync := c.sync.zipIdx.map fun e => match e.1 with
      | .wait n sender chan pdst run true false =>
        let held := (c.channels.filter fun t => t.ordinal == b && t.sender == sender && t.chan == chan).length
        .wait n sender chan pdst run true (n == stepno && decide (held ≤ ((c.sync.take e.2).filter (job sender chan)).length))
      | j => j }

/-- WAIT_TIMEOUT: the interval timer of a WAIT step that a core's port holds wins (R31, R148). The timer starts at issue, so a WAIT that stands
behind other jobs can expire too. -/
def execWaitTimeout (timer : WaitTimer) (s : State) : Host.Outcome State Fault Refusal :=
  let core := timer.core
  if core < 256 then
    .next (if s.frozen then s else (s.onCore core fun c => c.expire timer.stepno).pump core)
  else .fault .noSuchUnit

/-- RUN_DEATH_NOTICE: control pair 3 tells a core that a run of a batch is dead (R146). -/
def execRunDeathNotice (core ordinal run cause : Nat) (s : State) : Host.Outcome State Fault Refusal :=
  if core < 256 then
    .next (if s.frozen then s else match s.run? ordinal run with
      | some r =>
        if r.cause ≠ 0 ∧ cause ≠ 0 then ((s.coreLearns core ordinal run).pump core).refreshSeq core else s
      | none => s)
  else .fault .noSuchUnit

end Sys2Proof.Machine
end

