-- ==== Sys2Proof/Machine/Steps.lean ====
section
/-!
DEFINITION. The steps that the sequencer executes itself: TAKE with the work counters, SHAPE, PROBE, DRONE, MARK and END
(05_tablature.md R140, R144, R145, R152 to R154, R158; 06_mapping_and_tiles.md R169 to R175;
10_fault_containment.md R282 to R285; 11_cameras_results_scene.md R328, R329; 03_integer_pipeline.md R106).
-/

namespace Sys2Proof.Machine

/-! ### Work counters (06 R168 to R175) -/

/-- Fields of a counter table entry (Table 06-5). -/
def ceLimit (e : Nat) : Nat := bits e 12 0
def ceMap (e : Nat) : Bool := bit e 13
def ceRun (e : Nat) : Nat := bits e 17 14
def ceMapAddr (e : Nat) : Nat := bits e 48 32
def ceTakers (e : Nat) : Nat := bits e 71 64
def ceEngine (e : Nat) : Nat := bits e 73 72
def ceWithdraw (e : Nat) : Bool := bit e 74
def ceCloseId (e : Nat) : Nat := bits e 111 96

/-- A bank of a work counter in batch b. -/
def State.ctrBank (s : State) (cl k b : Nat) : CtrBank := tget0 {} (s.cluster cl).banks (k * 2 + b % 2)
def State.onCtrBank (cl k b : Nat) (f : CtrBank → CtrBank) (s : State) : State :=
  s.onCluster cl fun c => { c with banks := tmod0 {} (k * 2 + b % 2) f c.banks }

/-- A grant that a core held is done (R171). -/
def State.grantDone (core b : Nat) (g : Option Grant) (s : State) : State :=
  match g with
  | some x => s.onCtrBank (core / 8) x.counter b fun k =>
      if k.ordinal = b then { k with done := insertNew x.n k.done } else k
  | none => s

/-- Record 0x0C, which names the counter (detail key 10, log 83) and the tiles, and its failed check of the shared unit (R173, R174). -/
def State.counterFault (cl k b run : Nat) (tiles : List Nat) (s : State) : State :=
  s.chargeRecord { kind := 0x0C, severity := 1, detected := some b, unit := .shared cl, run := some run, reactions := [2]
                   detail := [(4, .nums tiles), (10, .num k)] } b

/-- What a TAKE draws: the grant number and the tile, none for NONE. -/
structure Draw where
  s : State
  got : Option (Nat × Nat × Bool)
  deriving DecidableEq, Repr

/-- One access to a counter's arbiter (R170 to R175). `again`: a number that a fault in the counter hands out once more in place of
the next number (R172). -/
def State.draw (core k b : Nat) (parityOk : Bool) (again : Option Nat) (s : State) : Draw :=
  let cl := core / 8
  let e := s.counterEntry cl (s.core core).side k
  let bank := s.ctrBank cl k b
  let nothing (u : State) : Draw := ⟨u.countEvent cl 0x1E 1, none⟩
  if ceWithdraw e && (s.siteOf core (ceEngine e)).isNone then
    nothing (s.onCtrBank cl k b fun x => { x with withdrawn := insertNew (core % 8) x.withdrawn })
  else if bank.state ≠ .opened ∨ bank.ordinal ≠ b then nothing s
  else if !parityOk then
    nothing ((s.onCtrBank cl k b fun x => { x with state := .exhausted }).counterFault cl k b (ceRun e) [])
  else if bank.next ≥ ceLimit e then nothing (s.onCtrBank cl k b fun x => { x with state := .exhausted })
  else
    let n := again.getD bank.next
    let tile := if ceMap e then num (s.load (.sb cl) (ceMapAddr e * 64 + 2 * n) 2) 0 2 else n
    let dup := bank.granted.contains n
    let s1 := s.onCtrBank cl k b fun x =>
      { x with next := if again.isSome then x.next else n + 1, granted := insertNew n x.granted }
    ⟨(s1.countEvent cl 0x1D 1).countEvent cl 0x1F dup.toNat, some (n, tile, dup)⟩

/-- A TAKE step issues and completes (R144, R170, R171, R234). -/
def State.takeIssue (core : Nat) (parityOk : Bool) (again : Option Nat) (i : Issue) (s : State) : State :=
  let c := s.core core
  let w := i.w
  let k := sfld w 4 3 0
  let tdst := sfld w 4 5 4
  let pdst := sfld w 4 8 6
  let masked := stepMasked c w
  let s0 := s.grantDone core i.b (c.grants.getD tdst none)
  let d := if masked then ⟨s0, none⟩ else s0.draw core k i.b parityOk again
  let s1 := match d.got with
    | some (n, tile, dup) =>
      (d.s.onCore core fun c => (c.setTile tdst tile (some ⟨k, n, dup⟩)).setPred pdst true).journal core i.b (stepNo w) 5
        (dup.toNat * 2 ^ 29 + n * 65536 + tile % 65536)
    | none =>
      (d.s.onCore core fun c => (c.setTile tdst 65535 none).setPred pdst false).journal core i.b (stepNo w) 5 65535
  s1.stepDone core i masked

/-- TAKE_STEP: the next step of a core is a TAKE and issues. `parityOk`: the counter's next number has good parity; `again`: a
number that a faulty counter hands out once more. -/
def execTakeStep (core : Nat) (parityOk : Bool) (again : Option Nat) (s : State) : Host.Outcome State Fault Refusal :=
  if core < 256 then
    .next (match s.issue? core 5 with
      | some i => s.takeIssue core parityOk again i
      | none => s)
  else .fault .noSuchUnit

/-! ### SHAPE steps (R145) -/

/-- The source of a SHAPE step: where its word lies. -/
def shapeArea (core : Nat) (w : StepWord) : Area := if sfld w 4 1 0 = 2 then .sb (core / 8) else .sram core

/-- A stream's current width or height: the OUTW or OUTH in force (11 R316). -/
def State.streamShape (s : State) (b : Nat) (w : StepWord) : Nat :=
  let c := s.streamCfg b (sfld w 8 4 0)
  if sfld w 8 5 5 = 1 then cfgOutH c else cfgOutW c

/-- A SHAPE step with shape `v`. -/
def State.shapeApply (core v : Nat) (i : Issue) (s : State) : State :=
  let w := i.w
  let planMax := sfld w 4 31 16
  let j := s.journal core i.b (stepNo w) 8 v
  if v > planMax then j.stepFault core i.b (stepRun w) (stepNo w) [(5, .nums [v, planMax])]
  else j.onCore core fun c => (c.setLimit (sfld w 4 4 2) (v * sfld w 4 15 8)).setPred (sfld w 4 7 5) (v != 0)

/-- A SHAPE step issues and completes. It ignores PRED; a dead run masks it. -/
def State.shapeIssue (core : Nat) (bad : List BadWord) (i : Issue) (s : State) : State :=
  let w := i.w
  let masked := stepMasked (s.core core) w
  let a := shapeArea core w
  let addr := sfld w 8 20 0 * 4
  let o : Opnd := { space := if sfld w 4 1 0 = 2 then 1 else 0, line := addr / 64 }
  let s1 :=
    if masked then s
    else if sfld w 4 1 0 = 0 then s.shapeApply core (s.streamShape i.b w) i
    else if i.t.linesInside o 1 < 1 then s.stepFault core i.b (stepRun w) (stepNo w) [(6, .num (addr / 64))]
    else
      let t := s.repairReads core i [(o, 1)] bad
      if t.poisoned a (addr / 64) then t.poisonDeath core i.b (stepRun w) (stepNo w)
      else t.shapeApply core (num (t.load a addr 4) 0 2) i
  s1.stepDone core i masked

/-- SHAPE_STEP: the next step of a core is a SHAPE and issues. `bad`: the bad words among those that it reads. -/
def execShapeStep (core : Nat) (bad : List BadWord) (s : State) : Host.Outcome State Fault Refusal :=
  if core < 256 then
    .next (match s.issue? core 8 with
      | some i => s.shapeIssue core bad i
      | none => s)
  else .fault .noSuchUnit

/-! ### PROBE steps (R140) -/

/-- A PROBE arms a capture on the first bow of the next BOW step of its logical engine. An engine that is lost has no bow, and its capture stays
empty to END. -/
def State.probeIssue (core : Nat) (i : Issue) (s : State) : State :=
  let w := i.w
  let masked := stepMasked (s.core core) w
  let line := sfld w 8 13 0
  let inside := i.t.linesInside (sramOpnd line) 18
  let s1 :=
    if masked then s
    else if inside < 18 then s.stepFault core i.b (stepRun w) (stepNo w) [(6, .num (line + inside))]
    else
      match s.siteOf core (sfld w 4 1 0) with
      | some n => s.onSite n fun x => { x with probes := x.probes ++ [⟨stepNo w, line, sfld w 4 2 2 == 1, sfld w 4 6 3, false⟩] }
      | none => s.onCore core fun c => { c with probes := c.probes ++ [⟨stepNo w, line, sfld w 4 2 2 == 1, sfld w 4 6 3, true⟩] }
  s1.stepDone core i masked

/-- PROBE_STEP: the next step of a core is a PROBE and issues. -/
def execProbeStep (core : Nat) (s : State) : Host.Outcome State Fault Refusal :=
  if core < 256 then
    .next (match s.issue? core 10 with
      | some i => s.probeIssue core i
      | none => s)
  else .fault .noSuchUnit

/-! ### DRONE steps (R154, R282 to R285) -/

/-- The DRONE step of a core, when it is next and has this slot kind. -/
def State.droneIssue? (s : State) (core slot : Nat) : Option Issue :=
  (s.issue? core 11).filter fun i => sfld i.w 4 1 0 == slot

/-- A live DRONE step stays live for some of its sites, or completes at once when there are none. -/
def State.droneHold (core kind : Nat) (sites : List Nat) (i : Issue) (s : State) : State :=
  if sites.isEmpty then s.stepDone core i false
  else
    ((s.fly core i true false).issued core false).onCore core fun c =>
      { c with droneLive := some ⟨stepNo i.w, kind, maskOf 5 (sites.map (· % 5))⟩ }

/-- A site has done its part of a live DRONE step; the step completes with its last site. -/
def State.droneSiteDone (site : Nat) (s : State) : State :=
  let core := site / 5
  match (s.core core).droneLive with
  | some d =>
    if bit d.sites (site % 5) then
      let rest := d.sites - 2 ^ (site % 5)
      let s1 := s.onCore core fun c => { c with droneLive := if rest = 0 then none else some { d with sites := rest } }
      if rest = 0 then
        match s1.stepAt core d.stepno with
        | some i => s1.completeStep core i.b i.w false
        | none => s1
      else s1
    else s
  | none => s

/-- A drone comparison of an active site that disagrees enters the verdict path as a duplicate disagreement does (R284, R286): the site is
the primary, and its cluster's array the duplicate (R288). -/
def State.droneDispute (core site b : Nat) (exact got dup : List (List Int)) (i : Issue) (s : State) : State :=
  let cl := core / 8
  let arr := (s.arrayFor cl).getD cl
  (s.newTile
    { id := 0, state := .third, site := some site, cluster := cl, core := core, stepno := stepNo i.w, ordinal := b, run := none
      word := i.w, inputs := exact, accs := got, codes := [], dup := dup, checker := .array arr, third := s.thirdUnit cl [cl, arr]
      treg := 0, lines := 0, given := true }).countEvent cl 0x23 1

/-- A drone answer of a unit (R292, R301). -/
def State.droneAnswer (u : UnitId) (b : Nat) (ok : Bool) (s : State) : State :=
  if ok then s.passCheck u b
  else s.chargeRecord { kind := 0x05, severity := 2, detected := some b, unit := u } b

/-- The deviations of a unit's answer. -/
def faultsOf (faults : List (UnitId × List (Nat × Int))) (u : UnitId) : List (Nat × Int) := (faults.filter fun e => e.1 == u).flatMap (·.2)

/-- Margin warnings of a site's bows, and what their converters do. -/
def marginsOf (k : KernelFaults) (site : Nat) : Nat := ((k.margins.filter fun e => e.1 == site).map (·.2)).sum
def bowsOf (k : KernelFaults) (site : Nat) : List BowEvents := (k.bows.filter fun e => e.1 == site).map (·.2)

/-- One site of a drone slot: a standby's answer is compared with the firmware digest, an active site's with what its cluster's array
computes from the verified shard (Table 10-3, R284). -/
def State.droneSite (core b : Nat) (k : KernelFaults) (i : Issue) (site : Nat) (s : State) : State :=
  let side := s.sideOf core b
  let faults := k.units
  let mine := faultsOf faults (.site site)
  let d := droneSeed b
  let standby := (s.site site).state == .standby
  let x := s.countKEng site side d (marginsOf k site) standby (bowsOf k site)
  let s1 := if x.2 = 0 then x.1 else x.1.countSplits core x.2
  if standby then s1.droneAnswer (.site site) b (answerOk 64 mine (kEngFirmware d))
  else
    let cl := core / 8
    let arr := (s.arrayFor cl).getD cl
    let fmt := (s.plane (2 * site + side)).wtfmt
    let s2 := s1.countEvent arr 0x13 (kEngCycles fmt)
    let got := s.kEngSite site side d mine
    let exact := s.kEngExact site side d
    let dup := deviate (faultsOf faults (.array arr)) (512 / ((wtFmt fmt).elim 8 Fmt.width)) exact
    if got == dup then (s2.passCheck (.site site) b).passCheck (.array arr) b else s2.droneDispute core site b exact got dup i

/-- DRONE_KERNEL_SLOT: a drone slot of a core: K-CORE once and K-ENG on every named site, when it is live. -/
def execDroneKernelSlot (core : Nat) (faults : KernelFaults) (s : State) :
    Host.Outcome State Fault Refusal :=
  if core < 256 then
    .next (match s.droneIssue? core 0 with
      | some i =>
        if stepMasked (s.core core) i.w then s.stepDone core i true
        else if s.stepLive core i.b i.w then
          let s1 := (s.countEvent (core / 8) 0x29 1).droneAnswer (.core core) i.b
            (answerOk 16 (faultsOf faults.units (.core core)) (kCoreAnswer (droneSeed i.b)))
          ((s.droneSites core i.w).foldl (fun t n => t.droneSite core i.b faults i n) s1).stepDone core i false
        else s.stepDone core i false
      | none => s)
  else .fault .noSuchUnit

/-- The cause that a pass in a tuning window records: the first that is pending of retry, temperature and periodic (09 R248); a pass
that is pending for another cause alone records that cause (09 R255, R265; log 79). -/
def windowCause (l : List PassCause) : Option PassCause :=
  [PassCause.retry, .temperature, .periodic, .emMargin, .emReference, .substitution, .selftest].find? fun c => l.contains c

/-- A site starts its pending pass in a tuning window (09 R249); its causes stay pending until a pass is accepted. -/
def State.startPass (b site : Nat) (s : State) : State :=
  s.onSite site fun x =>
    match windowCause x.pending with
    | some c => { x with passing := some (s.newPass site c b (c == .retry) false true) }
    | none => x

/-- DRONE_TUNING_WINDOW: a live tuning window starts the pending pass of each named site; the step lasts until they end. -/
def execDroneTuningWindow (core : Nat) (s : State) : Host.Outcome State Fault Refusal :=
  if core < 256 then
    .next (match s.droneIssue? core 1 with
      | some i =>
        if stepMasked (s.core core) i.w then s.stepDone core i true
        else if s.stepLive core i.b i.w then
          let sites := (s.droneSites core i.w).filter fun n => !(s.site n).pending.isEmpty && (s.site n).passing.isNone
          (sites.foldl (fun t n => (t.startPass i.b n).countEngine n 8 1) s).droneHold core 1 sites i
        else s.stepDone core i false
      | none => s)
  else .fault .noSuchUnit

/-- The plane that a site reads next: A and B in turn (07 R207). -/
def State.scanSide (s : State) (site : Nat) : Nat :=
  match (s.plane (2 * site)).scanAt, (s.plane (2 * site + 1)).scanAt with
  | none, _ => 0
  | some _, none => 1
  | some a, some b => if b < a then 1 else 0

/-- DRONE_SCAN_SLOT: in a live scan slot each named site reads one plane; a plane that is being written is skipped. The reads end
with PLANE_SCAN_DONE. -/
def execDroneScanSlot (core : Nat) (s : State) : Host.Outcome State Fault Refusal :=
  if core < 256 then
    .next (match s.droneIssue? core 2 with
      | some i =>
        if stepMasked (s.core core) i.w then s.stepDone core i true
        else if s.stepLive core i.b i.w then
          s.droneHold core 2 ((s.droneSites core i.w).filter fun n => (s.plane (2 * n + s.scanSide n)).cls == 0) i
        else s.stepDone core i false
      | none => s)
  else .fault .noSuchUnit

/-! ### MARK steps -/

/-- The MARK step of a core, when it is next and has this kind. -/
def State.markIssue? (s : State) (core kind : Nat) : Option Issue :=
  (s.issue? core 12).filter fun i => sfld i.w 4 17 16 == kind

/-- A capture equals what lies at its destination: lines of a memory, or the update that the first grant's record became. A lines on
another device are those that a grant of the bank sent there last (log 68). -/
def State.captureEqual (s : State) (b : Nat) (bank : CtrBank) (w : DupWrite) : Bool :=
  match w.area with
  | .remote _ => ((bank.sent.filter fun u => u.area == w.area && u.addr == w.addr).getLast?.map (·.bytes)) == some w.bytes
  | .scene => ((s.batch? b).map (·.updates)).getD [] |>.any fun u =>
      u.cell == w.addr / 64 && u.record ++ leBytes 4 u.source ++ leBytes 1 u.run == w.bytes
  | a => s.load a w.addr w.bytes.length == w.bytes

/-- The close check of a counter (R173): every number granted and done, every capture equal to the lines at its destination; equal
captures are counted. -/
def State.closeCheck (cl k b : Nat) (e : Nat) (s : State) : State :=
  let bank := s.ctrBank cl k b
  let gaps := (List.range (ceLimit e)).filter fun n => !(bank.granted.contains n && bank.done.contains n)
  let bad := (bank.captures.filter fun w => !s.captureEqual b bank w).map (·.n)
  let s1 := ((s.onCluster cl (Cluster.closeBank (k * 2 + b % 2))).onCluster cl fun c =>
    { c with dupEqual := c.dupEqual + (bank.captures.length - bad.length) }).countEvent cl 0x20 1
  if gaps.isEmpty && bad.isEmpty then s1
  else (s1.killRun b (ceRun e) 5).counterFault cl k b (ceRun e) (bad.foldl (fun l n => insertNew n l) gaps)

/-- A taker completes the CLOSEID MARK of a counter: its grants are done, and the last taker brings the close check. -/
def State.closeTaker (core b markid run k : Nat) (s : State) : State :=
  let cl := core / 8
  let e := s.counterEntry cl (s.core core).side k
  let bank := s.ctrBank cl k b
  if ceLimit e ≠ 0 ∧ ceCloseId e = markid ∧ ceRun e = run ∧ bit (ceTakers e) (core % 8) ∧ bank.state ≠ .closed ∧ bank.ordinal = b then
    let mine := (s.core core).grants.filter fun g => match g with
      | some x => x.counter == k
      | none => false
    let s1 := mine.foldl (fun t g => t.grantDone core b g) s
    let s2 := s1.onCore core fun c => { c with grants := c.grants.map fun g => match g with
      | some x => if x.counter = k then none else some x
      | none => none }
    let s3 := s2.onCtrBank cl k b fun x => { x with closed := insertNew (core % 8) x.closed }
    if (listOf 8 (ceTakers e)).all fun t => (s3.ctrBank cl k b).closed.contains t then
      -- the bank of a run that has died closes without a check
      if (s3.run? b (ceRun e)).any fun x => x.cause != 0 then s3.onCluster cl (Cluster.closeBank (k * 2 + b % 2))
      else s3.closeCheck cl k b e
    else s3
  else s

/-- The trace record of a MARK. -/
def markTrace (dev core kind : Nat) (i : Issue) : TraceRec :=
  { ordinal := i.b, kind := kind, run := stepRun i.w, stepno := stepNo i.w, unit := coreCode dev core, markid := sfld i.w 4 15 0 }

/-- MARK_CHECKPOINT: a checkpoint MARK of a core completes `elapsedNs` after the core started the batch (R152, R171, R173). -/
def execMarkCheckpoint (core elapsedNs : Nat) (s : State) : Host.Outcome State Fault Refusal :=
  if core < 256 then
    .next (match s.markIssue? core 0 with
      | some i =>
        let late := elapsedNs > sfld i.w 8 31 0
        let markid := sfld i.w 4 15 0
        let masked := stepMasked (s.core core) i.w
        let s1 := if late then s.countCore core 5 1 else s
        let s2 := s1.traceCore core (!late) (markTrace s.group.devno core 6 i)
        let s3 := s2.onCore core fun c => { c with marks := c.marks ++ [markid] }
        ((List.range 16).foldl (fun t k => t.closeTaker core i.b markid (stepRun i.w) k) s3).stepDone core i masked
      | none => s)
  else .fault .noSuchUnit

/-- MARK_LAYER_START: a layer-start MARK of a core completes (R153). -/
def execMarkLayerStart (core : Nat) (s : State) : Host.Outcome State Fault Refusal :=
  if core < 256 then
    .next (match s.markIssue? core 1 with
      | some i =>
        let masked := stepMasked (s.core core) i.w
        let s1 := s.traceCore core false (markTrace s.group.devno core 7 i)
        -- a masked step writes nothing (R143)
        (if masked then s1 else s1.onCore core fun c => { c with splitAllow := sfld i.w 0xC 23 0, splitCount := 0 }).stepDone core i masked
      | none => s)
  else .fault .noSuchUnit

/-- A publication descriptor (Table 11-3). -/
structure PDesc where
  tensor : Nat
  outfmt : Nat
  bufidx : Nat
  lreg : Nat
  line : Nat
  count : Nat
  epl : Nat
  rsvd : Bool
  deriving DecidableEq, Repr

def parsePDesc (b : Bytes) : PDesc :=
  let w (i : Nat) := num b (4 * i) 4
  { tensor := bits (w 0) 3 0, outfmt := bits (w 0) 7 4, bufidx := bits (w 0) 15 8, lreg := bits (w 0) 18 16
    line := bits (w 1) 28 0, count := bits (w 2) 23 0, epl := bits (w 3) 15 0
    rsvd := bits (w 0) 31 19 != 0 || bits (w 1) 31 29 != 0 || bits (w 2) 31 24 != 0 || bits (w 3) 31 16 != 0 ||
      num b 0x10 16 != 0 }

/-- The lines that a run-end MARK publishes hold poison (10 R273, R274). -/
def State.publishesPoison (s : State) (core b : Nat) (t : Tab) (markid : Nat) : Bool :=
  match s.descriptor core t markid with
  | none => false
  | some bytes =>
    let d := parsePDesc bytes
    let n := min d.count ((s.core core).limit d.lreg * d.epl)
    match t.bufs[d.bufidx]? with
    | none => false
    | some u =>
      match s.areaOf core b t { space := u.space, unit := u.unit, line := u.base } with
      | none => false
      | some a => s.rangePoisoned a ((u.base + d.line) * 64) (packedLen ((outFmt d.outfmt).getD .int8) n)

/-- The tensor that a run-end MARK names, with its element count at the completion of the MARK (R329). -/
def State.tensorOf (s : State) (core b : Nat) (t : Tab) (markid : Nat) : Option Tensor :=
  match s.descriptor core t markid with
  | none => none
  | some bytes =>
    let d := parsePDesc bytes
    let f := (outFmt d.outfmt).getD .int8
    let n := min d.count ((s.core core).limit d.lreg * d.epl)
    match t.bufs[d.bufidx]? with
    | none => none
    | some u =>
      match s.areaOf core b t { space := u.space, unit := u.unit, line := u.base } with
      | none => none
      | some a =>
        let raw := s.load a ((u.base + d.line) * 64) (packedLen f n)
        some ⟨d.tensor, d.outfmt, n, packRaw f.width ((List.range n).map fun i => elemRaw f.width raw i)⟩

/-- Cores that walk a batch: those with a tab on its side (R129); the others stay UNLOADED. -/
def State.walkers (s : State) (b : Nat) : List Nat := (s.tabsOf (s.devSide b)).map (·.1)

/-! ### Aftercare (01 Table 01-7, 12 R373) -/

/-- The STEPNO of the last run-end MARK of a tab. -/
def Tab.lastRunEnd (t : Tab) : Option Nat :=
  ((t.steps.filter fun w => stepKind w == 12 && sfld w 4 17 16 == 2).getLast?).map stepNo

/-- A core has reached aftercare of batch b: it has completed the last run-end MARK of its tab, or END (log 28). DEDUCED: Table
01-7 says that aftercare follows publication in every core's tab. -/
def State.coreAftercare (s : State) (b core : Nat) : Bool :=
  let c := s.core core
  ((s.batch? b).map fun (x : Batch) => x.ended.contains core).getD true ||
  (c.cur == some b && (match (s.tab? core c.side).bind Tab.lastRunEnd with
    | some n => decide (n < c.next) && !(c.flight.any fun f => f.stepno == n)
    | none => false))

/-- Order 2 of Table 01-7 for the batch after b. -/
def State.aftercare (s : State) (b : Nat) : Bool := (s.walkers b).all (s.coreAftercare b)

/-- A member of a group sends READY again when it reaches aftercare (R373). -/
def sayAftercare (before : State) (b : Nat) (s : State) : State :=
  if !before.aftercare b && s.aftercare b then s.groupMsg 0x20 255 [(b + 1) % 2 ^ 32, 0, 1] [] else s

/-- MARK_RUN_END: a run-end MARK of a core completes: the tensor that it names joins the payload of its run (R328, R329). -/
def execMarkRunEnd (core : Nat) (s : State) : Host.Outcome State Fault Refusal :=
  if core < 256 then
    .next (match s.markIssue? core 2 with
      | some i =>
        let run := stepRun i.w
        let markid := sfld i.w 4 15 0
        let masked := stepMasked (s.core core) i.w
        let s1 :=
          if masked ∨ markid = 0xFFFF then s
          -- the run dies before it publishes poison (10 R274)
          else if s.publishesPoison core i.b i.t markid then s.poisonDeath core i.b run (stepNo i.w)
          else
            match s.tensorOf core i.b i.t markid with
            | some x =>
              (s.onRun i.b run fun r => { r with payload := r.payload ++ [x] }).onCore core fun c =>
                { c with published := c.published ++ [(run, markid, x.count)] }
            | none => s
        sayAftercare s i.b (s1.stepDone core i masked)
      | none => s)
  else .fault .noSuchUnit

/-! ### END (R158, 03 R106) -/

/-- The statistics slots that a tab's steps name, with the run of each (R104). -/
def State.slotsOf (s : State) (core : Nat) (t : Tab) : List (Nat × Nat) :=
  t.steps.filterMap fun w =>
    let addr := match stepKind w with
      | 4 => s.descriptor core t (sfld w 4 14 0)
      | 2 =>
        let d := parseADesc ((s.descriptor core t (sfld w 4 14 0)).getD [])
        if d.op = 0 then s.descriptor core t d.bdesc else none
      | _ => none
    match addr with
    | some b =>
      let d := parseBDesc b
      if d.staten then some (d.slot, stepRun w) else none
    | none => none

/-- The records of the slots whose contributing cores have all ended batch b are replaced, each as a whole (R106). `core` is the core that
ended it last; slots that the programme does not name read as zeros. -/
def State.replaceStats (core b side : Nat) (s : State) : State :=
  let named := (s.tabsOf side).flatMap fun e => (s.slotsOf e.1 e.2).map fun x => (e.1, x.1, x.2)
  let ended := ((s.batch? b).map (·.ended)).getD []
  let mine := ((named.filter fun e => e.1 == core).map (·.2.1)).eraseDups
  let ready := mine.filter fun k => named.all fun e => e.2.1 != k || ended.contains e.1
  let dead (r : Nat) : Bool := match s.run? b r with
    | some x => x.cause != 0
    | none => false
  s.onObs fun o =>
    { o with
      stats := ready.foldl (fun t k =>
        let acc := tget0 {} o.statsAcc (k + 1024 * (b % 2))
        let r0 : StatRec := if acc.ordinal = b then acc else { ordinal := b }
        let runs := ((named.filter fun e => e.2.1 == k).map (·.2.2)).eraseDups
        tput0 {} k { r0 with ordinal := b, isVoid := runs.any dead, runs := runs } t) (o.stats.filter fun e => named.any fun x => x.2.1 == e.1)
      statsAcc := ready.foldl (fun t k => tput0 {} (k + 1024 * (b % 2)) {} t) o.statsAcc }

/-- Write the capture areas of unused PROBEs with zeros (R140). -/
def State.clearProbes (core : Nat) (s : State) : State :=
  let s := ((s.core core).probes.foldl (fun u p => u.storeLines (.sram core) (p.line * 64) (zeros 1152) false) s).onCore core fun c =>
    { c with probes := [] }
  (List.range 5).foldl (fun t i =>
    ((t.site (core * 5 + i)).probes.foldl (fun u p => u.storeLines (.sram core) (p.line * 64) (zeros 1152) false) t).onSite (core * 5 + i)
      fun x => { x with probes := [] }) s

/-- A core leaves a batch: its batch bookkeeping, and the device's when it is the last core. -/
def State.leaveBatch (core b : Nat) (s : State) : State :=
  let side := (s.core core).side
  let s1 := s.onBatch b fun x => { x with ended := insertNew core x.ended }
  let s2 := s1.onCore core fun c => { c with cur := none, done := some b }
  let s3 := s2.replaceStats core b side
  if (s2.walkers b).all fun k => ((s2.batch? b).map fun (x : Batch) => x.ended.contains k).getD false then
    if b % 1024 = 1023 then s3.closeEpoch (b / 1024) else s3
  else s3

/-- END_STEP: END of a core's tab completes (R158): the core is IDLE again, or STOPPED in a drain. -/
def execEndStep (core : Nat) (s : State) : Host.Outcome State Fault Refusal :=
  if core < 256 then
    .next (match s.issue? core 0 with
      | some i =>
        let s1 := (s.clearProbes core).stepDone core i false
        let draining := (s.core core).seq == .draining
        let s2 := (s1.leaveBatch core i.b).onCore core fun c => { c with seq := if draining then .stopped else .idle }
        sayAftercare s i.b s2
      | none => s)
  else .fault .noSuchUnit

end Sys2Proof.Machine
end

