-- ==== Sys2Proof/Machine/Publish.lean ====
section
/-!
DEFINITION. Publication by control pair 2: decision and input digests, seal blocks, datagrams, retractions, and the links they
leave by (08_bit_identity_and_seals.md R221 to R228; 10_fault_containment.md R290, R291; 11_cameras_results_scene.md R330 to
R334; 12_exham_group.md R374; 14_boot_and_trust.md R435).
-/

namespace Sys2Proof.Machine

/-! ### What a run consumes (11 R319, R327) -/

/-- The camera streams that a run of a side's programme consumes, in any tab of the programme: in this device's tabs, or by the run tables
of the other members. -/
def State.runStreams (s : State) (side run : Nat) : List Nat :=
  let steps := (s.tabsOf side).flatMap fun e => e.2.steps.filter fun w => stepKind w == 3 && stepRun w == run && sfld w 4 2 0 == 7
  let rows := s.runRows side run
  (List.range 32).filter fun k => (steps.any fun w => sfld w 4 10 6 == k) || rows.any fun x => x.streams.contains k

/-- The configuration record of import stream i (R325; its byte layout is the model's, log 16). -/
structure ImportCfg where
  srcfmt : Nat
  target : Nat
  maxAge : Nat
  count : Nat
  mant : Nat
  shift : Int
  zp : Int
  addr : Bytes
  port : Nat
  deriving DecidableEq, Repr

def parseImportCfg (b : Bytes) : ImportCfg :=
  { srcfmt := num b 0 1, target := num b 1 1, maxAge := num b 2 2, count := num b 4 4, mant := num b 8 4
    shift := sext 8 (num b 12 1), zp := sext 16 (num b 14 2), addr := slice b 16 16, port := num b 32 2 }

def State.importCfg (s : State) (i : Nat) : ImportCfg := parseImportCfg (s.settingBytes (0x3060 + i) 1 [])

/-- The import streams, configured ones, that a run consumes. -/
def State.runImports (s : State) (side run : Nat) : List Nat :=
  let progid := ((s.tabsOf side).head?.map (·.2.progid)).getD 0
  ((List.range 8).filter fun i => (s.importCfg i).count != 0).filter fun i => bit (Config.importStreams progid run) i

/-- The image that a batch's side holds (08 Table 08-3): the selected one, or the one on the other side. -/
def State.imageOf (s : State) (b : Nat) : Option Image :=
  s.sideImage (s.devSide b)

/-! ### Decision and input digests (08 R222, R223, R226) -/

/-- A decision record as 8 bytes (Table 08-2). -/
def Decision.bytes (d : Decision) : Bytes :=
  leBytes 8 (d.stepno % 2 ^ 24 + d.srckind * 2 ^ 24 + d.unit * 2 ^ 32 + d.outcome * 2 ^ 48)

/-- The order of the decision digest: UNIT, then STEPNO, then SRCKIND. -/
def Decision.le (x y : Decision) : Bool :=
  if x.unit ≠ y.unit then x.unit < y.unit
  else if x.stepno ≠ y.stepno then x.stepno < y.stepno
  else x.srckind ≤ y.srckind

/-- The device's ego-motion record of a batch (R221, SRCKIND 0x3). -/
def State.egoRecord (s : State) (b : Nat) : List Decision :=
  match s.batch? b with
  | some x =>
    match x.ego with
    | some v => [⟨0, 3, s.group.devno * 256, v.toNat⟩]
    | none => []
  | none => []

/-- The records that a run depends on, sorted (R222, R223). -/
def State.decisionsOf (s : State) (r : RunRec) : List Decision :=
  let own := r.decisions ++ (if s.hasScene r.ordinal r.run then s.egoRecord r.ordinal else [])
  own.mergeSort Decision.le

/-- One input entry (R226). -/
def inputEntry (kind stream seq : Nat) (digest : Bytes) : Bytes :=
  leBytes 1 kind ++ leBytes 1 stream ++ zeros 2 ++ leBytes 4 seq ++ padTo 32 digest

/-- The entry of a stream's frame in a batch. The frame of a stream of another member does not come here: its sequence number and its
digest are free (log 2). -/
def State.frameEntry (s : State) (x : Batch) (k : Nat) : List Bytes :=
  match x.frames.find? fun f => f.stream == k with
  | some f => [inputEntry 1 k f.seq f.digest]
  | none =>
    if s.inGroup ∧ ¬ (cfgMembers x.inputCfg).contains k then
      let at_ := (x.ordinal * 32 + k) * 64
      [inputEntry 1 k (leNat ((List.range 4).map fun j => Config.freeByte (at_ + j)))
        ((List.range 32).map fun j => Config.freeByte (at_ + 4 + j))]
    else []

/-- The ego-motion entries of a run: of this device's accepted messages when its own record has outcome 1, and of the messages of every other
member whose record has. No message carries those: their number, their SEQ and their digests are free (log 2). -/
def State.egoEntries (s : State) (r : RunRec) (x : Batch) : List Bytes :=
  let own := if x.ego == some true then (x.egoMsgs.mergeSort fun a b => decide (a.1 ≤ b.1)).map fun m => inputEntry 2 0 m.1 m.2 else []
  let others := r.decisions.filter fun d => d.srckind == 3 && d.outcome == 1 && d.unit / 256 != s.group.devno
  own ++ others.flatMap fun d =>
    let base := (x.ordinal * 32 + d.unit / 256) * 4096
    (List.range (Config.freeNat base)).map fun k =>
      inputEntry 2 0 (Config.freeNat (base + 1 + k)) ((List.range 32).map fun j => Config.freeByte ((base + 1 + k) * 32 + j))

/-- The input entries of a run: frames, ego-motion messages, imported tensors. -/
def State.inputsOf (s : State) (r : RunRec) : List Bytes :=
  match s.batch? r.ordinal with
  | none => []
  | some x =>
    let side := s.devSide r.ordinal
    ((s.runStreams side r.run).flatMap (s.frameEntry x)) ++
    (if s.hasScene r.ordinal r.run then s.egoEntries r x else []) ++
    ((s.runImports side r.run).flatMap fun k => (x.imports.filter fun f => f.stream == k).map fun f => inputEntry 3 k f.seq f.digest)

/-! ### The seal block (Table 08-3, R227) -/

/-- A batch was opened by a replay descriptor. -/
def State.isReplayed (s : State) (b : Nat) : Bool := ((s.batch? b).map fun (x : Batch) => x.replayed).getD false

/-- BOOTCOUNT of a batch's seals: the recorded one in replay (R241). -/
def State.sealBoot (s : State) (b : Nat) : Nat := if s.isReplayed b then s.walk.replayBoot else s.dev.bootCount

/-- The manifest digest of a device of an image's group: this device's own, that which a member reported at formation, or free bytes for
one that has never reported (log 2). -/
def State.manifestDigest (s : State) (i : Image) (dev : Nat) : Bytes :=
  if i.groupsize ≤ 1 ∨ dev = s.group.devno then i.digest
  else match s.group.ids.find? fun m => m.dev == dev && m.progid == i.progid && m.imgseq == i.imgseq with
    | some m => padTo 32 m.digest
    | none => (List.range 32).map fun k => Config.freeByte ((i.progid * 32 + dev) * 32 + k)

/-- IMGDIGEST: over the manifest digests of devices 0 to GROUPSIZE - 1, in that order. -/
def State.imgDigest (s : State) (b : Nat) : Bytes :=
  match s.imageOf b with
  | some i => digest32 ((List.range (max i.groupsize 1)).flatMap (s.manifestDigest i))
  | none => digest32 []

/-- The block of a VALID, HELD or VOID run; `code` is its STATUS. -/
def sealBlock (code : Nat) (corrected : Bool) (boot cause b progid imgseq : Nat) (imgDigest : Bytes) (run : Nat)
    (inputs decs : List Bytes) (payload : Bytes) : Bytes :=
  leBytes 4 0x4B52534C ++ leBytes 4 (1 + run * 2 ^ 16 + code * 2 ^ 24 + corrected.toNat * 2 ^ 26) ++ leBytes 4 boot ++
    leBytes 4 cause ++ leBytes 8 b ++ leBytes 8 b ++ leBytes 4 progid ++ leBytes 4 imgseq ++ imgDigest ++
    leBytes 4 decs.length ++ leBytes 4 inputs.length ++ digest32 inputs.flatten ++ digest32 payload ++ digest32 decs.flatten

/-- The result payload of a run: its tensors in ascending TENSOR order (R329). -/
def sortTensors (l : List Tensor) : List Tensor := l.mergeSort fun a b => decide (a.no ≤ b.no)
def payloadBytes (l : List Tensor) : Bytes := (sortTensors l).flatMap (·.bytes)

/-- The block of a VALID or HELD run. -/
def State.validBlock (s : State) (r : RunRec) : Bytes :=
  let im := s.imageOf r.ordinal
  sealBlock 0 r.corrected (s.sealBoot r.ordinal) 0 r.ordinal ((im.map (·.progid)).getD 0) ((im.map (·.imgseq)).getD 0)
    (s.imgDigest r.ordinal) r.run (s.inputsOf r) ((s.decisionsOf r).map Decision.bytes) (payloadBytes r.payload)

/-- The block of a VOID run. -/
def State.voidBlock (s : State) (b run cause : Nat) : Bytes :=
  let im := s.imageOf b
  sealBlock 2 false (s.sealBoot b) cause b ((im.map (·.progid)).getD 0) ((im.map (·.imgseq)).getD 0) (s.imgDigest b) run [] [] []

/-- The block of a STALE run: that of the batch whose result is repeated, with STATUS, ORDINAL and BOOTCOUNT of this batch. -/
def staleBlock (src : Bytes) (boot b : Nat) : Bytes :=
  let w1 := num src 4 4
  slice src 0 4 ++ leBytes 4 (w1 - bits w1 25 24 * 2 ^ 24 + 2 ^ 24) ++ leBytes 4 boot ++ leBytes 4 0 ++ leBytes 8 b ++
    slice src 0x18 (176 - 0x18)

/-! ### Links (11 R334, 14 R435) -/

/-- A datagram is dropped and counted. -/
def State.dropDatagram (s : State) : State := s.onPub fun p => { p with dropped := p.dropped + 1 }

/-- Send one datagram on a MAC. `full`: it finds its transmit queue full. -/
def State.transmit (mac : Nat) (full : Bool) (t : Tx) (s : State) : State :=
  if !s.canSend mac then s.dropDatagram
  else if full || s.pub.full.contains mac then s.dropDatagram.record { kind := 0x29, severity := 1, unit := .mac mac }
  else (s.frame mac t).warnPns

/-- A setting of 3100 or 3200 in force, with its default. -/
def State.pubCfg (s : State) (idx sub : Nat) (dflt : Bytes) : Bytes :=
  ((s.pub.cfg.find? fun e => e.1 == idx * 256 + sub).map (·.2)).getD dflt

/-- A destination record (Table 11-8): none when its address is all zeros. -/
def destOf (b : Bytes) : Option Bytes := if (slice b 0 16).all (· == 0#8) then none else some (slice b 0 22)
def destMacs (d : Bytes) : List Nat := exportMacs (num d 0x15 1)

/-- Bytes of payload in one datagram (3100.02). -/
def State.chunkSize (s : State) : Nat := max 1 (leNat (s.pubCfg 0x3100 2 (leBytes 2 1024)))

/-- The 48-byte header (Table 11-4). -/
structure Header where
  type : Nat
  status : Nat
  corrected : Bool
  last : Bool
  run : Nat
  ordinal : Nat
  tensor : Nat := 0
  outfmt : Nat := 0
  tcount : Nat := 0
  offset : Nat := 0
  length : Nat := 0
  dgno : Nat := 0
  boot : Nat
  progid : Nat
  imgseq : Nat
  deriving DecidableEq, Repr

def State.headerBytes (s : State) (h : Header) : Bytes :=
  leBytes 4 0x4B525044 ++
  leBytes 4 (h.type + 256 + h.status * 2 ^ 16 + h.corrected.toNat * 2 ^ 18 + (s.walk.replay || (h.type != 3 && s.isReplayed h.ordinal)).toNat * 2 ^ 19 + h.last.toNat * 2 ^ 20 +
    h.run * 2 ^ 21) ++
  leBytes 4 h.boot ++ leBytes 4 (h.ordinal % 2 ^ 32) ++ leBytes 4 (h.ordinal / 2 ^ 32 % 2 ^ 16 + s.group.devno * 2 ^ 16) ++
  leBytes 4 (h.tensor + h.outfmt * 16) ++ leBytes 4 h.tcount ++ leBytes 4 h.offset ++ leBytes 4 (h.length + h.dgno * 2 ^ 16) ++
  leBytes 4 s.pub.retracts ++ leBytes 4 h.progid ++ leBytes 4 h.imgseq

/-- Send one datagram to a destination, on each of its MACs. `full`: the MACs whose queue it finds full. -/
def State.sendTo (dest : Option Bytes) (full : List Nat) (h : Header) (payload : Bytes) (s : State) : State :=
  match dest with
  | none => s
  | some d => (destMacs d).foldl (fun t m => t.transmit m (full.contains m) (.datagram m d (t.headerBytes h) payload)) s

/-- One datagram of a result before it is numbered: its tensor and a piece of it. -/
structure Piece where
  tensor : Nat
  outfmt : Nat
  tcount : Nat
  offset : Nat
  bytes : Bytes
  deriving DecidableEq, Repr

/-- Pieces of at most `n` bytes; a value of no bytes has one piece. -/
def piecesOf (n tensor outfmt tcount : Nat) (b : Bytes) : List Piece :=
  if b.isEmpty then [⟨tensor, outfmt, tcount, 0, []⟩]
  else (List.range ((b.length + n - 1) / n)).map fun i => ⟨tensor, outfmt, tcount, i * n, (b.drop (i * n)).take n⟩

/-- Send a document of several datagrams; `tail` follows the payload of the last one. -/
def State.sendDoc (type ordinal boot : Nat) (dest : Option Bytes) (img : Option Image) (doc tail : Bytes) (s : State) : State :=
  let ps := piecesOf s.chunkSize 0 0 doc.length doc
  ps.zipIdx.foldl (fun t e =>
    let last := e.2 + 1 == ps.length
    t.sendTo dest []
      { type := type, status := 0, corrected := false, last := last, run := 0, ordinal := ordinal, tcount := doc.length
        offset := e.1.offset, length := e.1.bytes.length, dgno := e.2, boot := boot
        progid := (img.map (·.progid)).getD 0, imgseq := (img.map (·.imgseq)).getD 0 }
      (if last then e.1.bytes ++ tail else e.1.bytes)) s

/-- The datagrams of a result (R331): its tensors in order, or one empty datagram; the seal block and the seal in the last. -/
def State.sendResult (r : RunRec) (status : Nat) (corrected : Bool) (tensors : List Tensor) (block sealB : Bytes) (full : List (Nat × Nat))
    (s : State) : State :=
  let dests := s.pubCfg 0x3100 1 []
  let dest := destOf (slice dests (22 * r.run) 22)
  let ps := ((sortTensors tensors).flatMap fun t => piecesOf s.chunkSize t.no t.fmt t.count t.bytes)
  let ps1 := if ps.isEmpty then [⟨0, 0, 0, 0, []⟩] else ps
  ps1.zipIdx.foldl (fun t e =>
    let last := e.2 + 1 == ps1.length
    t.sendTo dest ((full.filter fun f => f.2 == e.2).map (·.1))
      { type := 1, status := status, corrected := corrected, last := last, run := r.run, ordinal := r.ordinal
        tensor := e.1.tensor, outfmt := e.1.outfmt, tcount := e.1.tcount, offset := e.1.offset, length := e.1.bytes.length
        dgno := e.2, boot := t.sealBoot r.ordinal, progid := num block 0x20 4, imgseq := num block 0x24 4 }
      (if last then e.1.bytes ++ block ++ sealB else e.1.bytes)) s

/-! ### When a run may be published (10 R290, R291) -/

/-- A run has ended: every core whose tab holds steps of it has completed the last of them, or has left the batch. -/
def State.runEnded (s : State) (r : RunRec) : Bool :=
  let left := ((s.batch? r.ordinal).map fun (x : Batch) => x.ended).getD []
  (s.tabsOf (s.devSide r.ordinal)).all fun e =>
    !(e.2.steps.any fun w => stepKind w != 0 && stepRun w == r.run) || r.ended.contains e.1 || left.contains e.1

/-- No tile of a batch's run waits for its verdict; `none` asks for every run. -/
def State.settled (s : State) (b : Nat) (run : Option Nat) : Bool :=
  !(s.walk.tiles.any fun t => t.ordinal == b && (run.isNone || t.run == run)) &&
  !(s.activeSites.any fun n =>
      ((s.site n).tile.toList ++ (s.site n).queue).any fun t => t.ordinal == b && t.sampled && (run.isNone || run == some t.run))

/-- Every close check of the run's counters is made (R173). -/
def State.closesDone (s : State) (b run : Nat) : Bool :=
  s.activeClusters.all fun cl => (List.range 16).all fun k =>
    let e := s.counterEntry cl (s.devSide b) k
    let x := s.ctrBank cl k b
    !(ceLimit e != 0 && ceRun e == run && x.state != .closed && x.ordinal == b)

/-- This device publishes a run: a standalone device publishes every one. A member goes on publishing its own runs, and no others, when it is
all that is left of its part of the group (12 R372, R380). -/
def State.publishes (s : State) (run : Nat) : Bool :=
  arrSize s.group.arrange ≤ 1 || s.group.publishers.getD run 255 == s.group.devno

/-- The members whose COMPLETE the publisher of a run waits for: those that the run depends on, and every one when a tab of the programme holds
a SCENE step of the run, for then the ego-motion record of each enters the seal (08 R222, R224). -/
def State.reporters (s : State) (b run : Nat) : List Nat :=
  if s.hasScene b run then s.group.members.filter (· != s.group.devno) else s.partners run

/-- Verdicts of this device and, in a group, of the run's members are done. -/
def State.verdictsDone (s : State) (r : RunRec) : Bool :=
  s.settled r.ordinal (some r.run) &&
    (!s.publishes r.run || (s.partners r.run).all r.settledBy.contains)

/-- Every lower run of the batch is published, and a STALE run's previous batch is (R331, R263). -/
def State.turnOf (s : State) (r : RunRec) : Bool :=
  !(s.walk.runs.any fun x => x.ordinal == r.ordinal && decide (x.run < r.run) && x.status.isNone && s.publishes x.run) &&
  (!r.stale || r.cause != 0 || r.ordinal == 0 || ((s.run? (r.ordinal - 1) r.run).map fun (x : RunRec) => x.status.isSome).getD true)

/-- No datagram of batch b + 2 leaves while a verdict of batch b is open, here or on a member that a HELD result waits for, or a retraction of
it is due (R291). -/
def State.oldDone (s : State) (b : Nat) : Bool :=
  !(s.walk.tiles.any fun t => decide (t.ordinal + 2 ≤ b) && t.run.isSome) &&
  !(s.walk.runs.any fun x => decide (x.ordinal + 2 ≤ b) && x.status == some .held && !x.final)

/-- All conditions of publication of a run. -/
def State.mayPublish (s : State) (r : RunRec) : Bool :=
  let release := ((s.batch? r.ordinal).map fun (x : Batch) => x.policy).getD 0 == 1
  !s.frozen && (s.dev.state == .serving || s.dev.state == .degraded || s.dev.state == .ready) && r.status.isNone && s.runEnded r &&
    s.closesDone r.ordinal r.run && (!s.publishes r.run || s.oldDone r.ordinal) && (release || s.verdictsDone r) &&
    (!s.hasScene r.ordinal r.run || (s.batch? r.ordinal).elim true (·.ego.isSome)) &&
    (!s.publishes r.run || (s.reporters r.ordinal r.run).all r.completes.contains) && s.turnOf r

/-! ### Publishing -/

/-- A final seal becomes a leaf of the ledger (R231); a replaying device signs no ledger (R239). -/
def State.addLeaf (b run : Nat) (sealB : Bytes) (s : State) : State :=
  if s.walk.replay || s.isReplayed b then s else s.onPub fun p => { p with leaves := p.leaves ++ [(b, run, sealB)] }

/-- A run's published status. -/
def State.setPublished (b run : Nat) (st : RunStatus) (block sealB : Bytes) (final : Bool) (s : State) : State :=
  let s1 := s.onRun b run fun r => { r with status := some st, block := block, sealBytes := sealB, final := final }
  if final then s1.addLeaf b run sealB else s1

/-- The first of the WAIT steps on each channel. -/
def firstPerChan : List Nat → List StepWord → List StepWord
  | _, [] => []
  | seen, w :: l =>
    let ch := sfld w 4 17 14
    if seen.contains ch then firstPerChan seen l else w :: firstPerChan (ch :: seen) l

/-- A base-die service sends one token for a batch on each channel on which a core's tab holds a WAIT that names it (R340). -/
def State.serviceTokens (k b : Nat) (isEmpty : Bool) (s : State) : State :=
  (s.tabsOf (s.devSide b)).foldl (fun t e =>
    let waits := firstPerChan [] (e.2.steps.filter fun w => stepKind w == 7 && sfld w 4 13 13 == 1 && sfld w 4 2 0 == k)
    waits.foldl (fun u w =>
      let tok : Token :=
        { ordinal := b, sender := serviceCode k, chan := sfld w 4 17 14, run := stepRun w, empty := isEmpty, dead := false }
      (u.postToken e.1 tok).trace (256 + k) 0 true
        { ordinal := b, kind := 8, chan := tok.chan, run := tok.run, unit := k, partner := coreCode s.group.devno e.1, svc := true
          isEmpty := isEmpty }) t) s

/-- Publish a run that this device publishes (R226 to R228, R331). -/
def State.publishHere (r : RunRec) (full : List (Nat × Nat)) (s : State) : State :=
  let b := r.ordinal
  let prev := if b = 0 then none else s.run? (b - 1) r.run
  -- a STALE run follows the final status of the batch before it (R263)
  let staleVoid := r.cause == 0 && r.stale && (match prev with
    | some p => p.status == some .void
    | none => false)
  let cause := if r.cause ≠ 0 then r.cause else match prev with
    | some p => if p.cause ≠ 0 then p.cause else 4
    | none => 4
  if r.cause != 0 || staleVoid then
    let block := s.voidBlock b r.run cause
    let sealB := digest32 block
    (s.sendResult r 2 false [] block sealB full).setPublished b r.run .void block sealB true
  else if r.stale then
    let src := (s.pub.lastResult.find? fun e => e.1 == r.run).map (·.2)
    let block := staleBlock ((src.map (·.block)).getD []) (s.sealBoot b) b
    let sealB := digest32 block
    let final := (prev.map fun (p : RunRec) => p.final).getD true
    (s.sendResult r 1 (bit (num block 4 4) 26) ((src.map (·.payload)).getD []) block sealB full).setPublished b r.run .stale block
      sealB final
  else
    let block := s.validBlock r
    let sealB := digest32 block
    let held := !s.verdictsDone r
    let s1 := s.sendResult r (if held then 3 else 0) r.corrected r.payload block sealB full
    (s1.setPublished b r.run (if held then .held else .valid) block sealB (!held)).onPub fun p =>
      { p with lastResult := (p.lastResult.filter fun e => e.1 != r.run) ++ [(r.run, ⟨block, r.payload⟩)] }

/-- COMPLETE fields of a run (Table 12-4). -/
def State.sendComplete (r : RunRec) (s : State) : State :=
  let st := if r.cause ≠ 0 then 2 else if r.stale then 1 else 0
  let ds := s.decisionsOf r
  s.toPublisher r.run 0x22
    [r.ordinal, r.run, st, r.corrected.toNat, (s.settled r.ordinal (some r.run)).toNat, ds.length] (ds.flatMap Decision.bytes)

/-- The last result of a batch has been sent: service 3 sends its tokens of the next batch, when that is open (R340). -/
def State.afterPublish (b : Nat) (s : State) : State :=
  if (s.walk.runs.any fun x => x.ordinal == b && x.status.isNone) || (s.batch? (b + 1)).isNone then s
  else s.serviceTokens 3 (b + 1) false

/-- The queues that stay full after a result: no datagram of a result has number 65,536 or above (log 106). -/
def stayFull (full : List (Nat × Nat)) : List Nat := [0, 1].filter fun m => full.any fun e => e.1 == m && decide (65536 ≤ e.2)

/-- PUBLISH_RUN: control pair 2 publishes a run of a batch, or reports it complete to its publisher (R374). `full`: the MACs whose transmit
queue is full, each with the number of the datagram that finds it so; 65,536 and above: whatever is sent after this result, until the next. -/
def execPublishRun (ordinal run : Nat) (full : List (Nat × Nat)) (s : State) : Host.Outcome State Fault Refusal :=
  .next (match s.run? ordinal run with
    | some r =>
      if s.mayPublish r then
        if s.publishes run then
          (((s.onPub fun p => { p with full := [] }).publishHere r full).afterPublish ordinal).onPub fun p => { p with full := stayFull full }
        else
          let st := if r.cause ≠ 0 then RunStatus.void else if r.stale then .stale else .valid
          ((s.sendComplete r).onRun ordinal run fun x =>
            { x with status := some st, final := s.settled ordinal (some run) }).afterPublish ordinal
      else if r.status.isSome ∧ ¬ r.final ∧ ¬ s.publishes run ∧ s.settled ordinal (some run) then
        -- the second COMPLETE of RELEASE-AND-RETRACT, with "verdicts done" set
        (s.sendComplete r).onRun ordinal run fun x => { x with final := true }
      else s
    | none => s)

/-! ### Retraction (R228, R332) -/

/-- One retraction datagram of a run. -/
def State.sendRetraction (r : RunRec) (s : State) : State :=
  let dest := destOf (slice (s.pubCfg 0x3100 1 []) (22 * r.run) 22)
  s.sendTo dest []
    { type := 2, status := 2, corrected := false, last := true, run := r.run, ordinal := r.ordinal, boot := s.sealBoot r.ordinal
      progid := num r.block 0x20 4, imgseq := num r.block 0x24 4 } (r.block ++ r.sealBytes)

/-- A HELD or STALE result of a run is retracted: its seal is that of a VOID block with cause 0x04, and final. -/
def State.retractOne (b run : Nat) (s : State) : State :=
  let block := s.voidBlock b run 4
  let sealB := digest32 block
  let s1 := (s.onRun b run fun r => { r with cause := 4, retracts := 1 }).setPublished b run .void block sealB true
  let s2 := s1.onPub fun p =>
    { p with retracts := p.retracts + 1
             retractLog := (p.retractLog ++ [(b, run, sealB)]).drop (p.retractLog.length + 1 - 64) }
  match s2.run? b run with
  | some r => s2.sendRetraction r
  | none => s2

/-- Retract a run, and the STALE result of the next batch that repeats it (R263, R291). -/
def State.retract (b run : Nat) (s : State) : State :=
  let s1 := s.retractOne b run
  match s1.run? (b + 1) run with
  | some r => if r.status = some .stale ∧ ¬ r.final then s1.retractOne (b + 1) run else s1
  | none => s1

/-- A verdict kills a run: it dies with cause 0x04, or its HELD result is retracted. -/
def State.verdictKills (b run : Nat) (s : State) : State :=
  match s.run? b run with
  | some r => if r.status = some .held ∧ ¬ r.final then s.retract b run else s.killRun b run 4
  | none => s

/-- The last verdict of a run is reached: a HELD result, and the STALE result that repeats it, become final (R228). -/
def State.holdsFinal (b run : Nat) (s : State) : State :=
  match s.run? b run with
  | some r =>
    if r.status = some .held ∧ ¬ r.final ∧ s.verdictsDone r then
      let s1 := (s.onRun b run fun x => { x with final := true }).addLeaf b run r.sealBytes
      match s1.run? (b + 1) run with
      | some x =>
        if x.status = some .stale ∧ ¬ x.final then
          (s1.onRun (b + 1) run fun y => { y with final := true }).addLeaf (b + 1) run x.sealBytes
        else s1
      | none => s1
    else s
  | none => s

/-- RETRACTION_REPEAT: the retraction of a run is sent again, three times in all. -/
def execRetractionRepeat (ordinal run : Nat) (s : State) : Host.Outcome State Fault Refusal :=
  .next (match s.run? ordinal run with
    | some r =>
      if 1 ≤ r.retracts ∧ r.retracts < 3 ∧ ¬ s.frozen then
        (s.sendRetraction r).onRun ordinal run fun x => { x with retracts := x.retracts + 1 }
      else s
    | none => s)

/-! ### Links and rates -/

/-- LINK_DOWN: the link of a MAC is lost, with record 0x28 at severity 2. -/
def execLinkDown (mac : Nat) (s : State) : Host.Outcome State Fault Refusal :=
  if mac < 2 then
    .next (if s.pub.macDown.contains mac then s
    else (s.onPub fun p => { p with macDown := p.macDown ++ [mac] }).record { kind := 0x28, severity := 2, unit := .mac mac })
  else .fault .noSuchUnit

/-- LINK_UP: the link of a MAC returns, with record 0x28 at severity 0. -/
def execLinkUp (mac : Nat) (s : State) : Host.Outcome State Fault Refusal :=
  if mac < 2 then
    .next (if s.pub.macDown.contains mac ∧ ¬ s.serdesOff then
      (s.onPub fun p => { p with macDown := p.macDown.filter (· != mac) }).record { kind := 0x28, severity := 0, unit := .mac mac }
    else s)
  else .fault .noSuchUnit

/-- EXPORT_RATE_SUMMARY: a second has ended; the records it could not export are summed up in record 0x1C (R305). -/
def execExportRateSummary (s : State) : Host.Outcome State Fault Refusal :=
  let missed := s.faults.missed
  -- a second is longer than any write to the flash, the fuses or the control rows takes (log 92)
  let s1 := s.writesStand.onFaults fun f => { f with exported := 0, missed := [] }
  .next (if missed.isEmpty then s1
    else s1.record { kind := 0x1C, severity := 0, unit := .pair 3, detail := [(12, .counts missed)] })

/-- STORE_ALLOWANCE_REFILL: the keep store's allowance for records of severity 0 and 1 rises by one, to 32 (R305). -/
def execStoreAllowanceRefill (s : State) : Host.Outcome State Fault Refusal :=
  .next (s.onFaults fun f => { f with allowance := min (f.allowance + 1) 32 })

end Sys2Proof.Machine
end

