-- ==== Sys2Proof/Machine/Ledger.lean ====
section
/-!
DEFINITION. The device's key derivation and the seal ledger (14_boot_and_trust.md Table 14-5, R427; 08_bit_identity_and_seals.md R230
to R233).
-/

namespace Sys2Proof.Machine

/-! ### Keys (14 Table 14-5) -/

/-- "KRY-ALIAS" and "KRY-LEDGER". -/
def labelAlias : Bytes := [75#8, 82#8, 89#8, 45#8, 65#8, 76#8, 73#8, 65#8, 83#8]
def labelLedger : Bytes := [75#8, 82#8, 89#8, 45#8, 76#8, 69#8, 68#8, 71#8, 69#8, 82#8]

/-- Seeds of the alias keys: bytes 0 to 31 for Ed25519, 32 to 63 for ML-DSA-65. -/
def State.aliasSeed (s : State) : Bytes :=
  shake256 64 (labelAlias ++ s.flash.uds ++ s.dev.measure ++ leBytes 8 s.dev.secver)

/-- Seeds of the ledger-signing keys. -/
def State.ledgerSeed (s : State) : Bytes :=
  shake256 64 (labelLedger ++ s.flash.uds ++ s.dev.measure ++ leBytes 8 s.dev.secver ++ leBytes 4 s.dev.bootCount)

def edSeed (seed : Bytes) : Bytes := seed.take 32
def mlSeed (seed : Bytes) : Bytes := seed.drop 32

/-- The key identifier of a pair of keys (R427). -/
def keyIdOf (seed : Bytes) : Bytes := (digest32 (Config.ed25519Public (edSeed seed) ++ Config.mldsaPublic (mlSeed seed))).take 8

/-- Both signatures over a message: 64 bytes, then 3,309. -/
def signBoth (seed msg : Bytes) : Bytes :=
  padTo 64 ((Config.ed25519Sign (edSeed seed) msg).take 64) ++ padTo 3309 ((Config.mldsaSign (mlSeed seed) msg).take 3309)

/-! ### The tree (R231) -/

def ledgerLeaf (sealB : Bytes) : Bytes := digest32 (0#8 :: sealB)
def ledgerNode (l r : Bytes) : Bytes := digest32 (1#8 :: l ++ r)

/-- The next level: pairs become nodes, an unpaired last entry passes unchanged. -/
def ledgerLevel : List Bytes → List Bytes
  | a :: b :: t => ledgerNode a b :: ledgerLevel t
  | l => l

/-- The root after `fuel` levels; 14 levels suffice for 16,384 leaves. -/
def ledgerRoot : Nat → List Bytes → Bytes
  | 0, l => l.headD (zeros 32)
  | _ + 1, [] => zeros 32
  | _ + 1, [r] => r
  | fuel + 1, l => ledgerRoot fuel (ledgerLevel l)

/-- The signed part (Table 08-4). -/
def ledgerSigned (isPartial : Bool) (boot no first last leaves : Nat) (root prev keyid : Bytes) : Bytes :=
  leBytes 4 0x4B524C47 ++ leBytes 4 (1 + isPartial.toNat * 2 ^ 16) ++ leBytes 4 boot ++ leBytes 4 no ++ leBytes 8 first ++ leBytes 8 last ++
    leBytes 4 leaves ++ zeros 4 ++ padTo 32 root ++ padTo 32 prev ++ padTo 8 keyid ++ zeros 16

/-! ### Forming a ledger -/

/-- Leaves in order: ascending ordinal, then run. -/
def leafLe (x y : Nat × Nat × Bytes) : Bool := if x.1 ≠ y.1 then decide (x.1 < y.1) else decide (x.2.1 ≤ y.2.1)

/-- No run of the batches up to `last` still waits for its final seal on this device. -/
def State.sealsFinal (s : State) (last : Nat) : Bool :=
  s.walk.runs.all fun r => decide (last < r.ordinal) || !s.publishes r.run || (r.status.isSome && r.final)

/-- Every run that was published has its final seal. -/
def State.publishedFinal (s : State) : Bool :=
  s.walk.runs.all fun r => r.status.isNone || !s.publishes r.run || r.final

/-- The last ordinal of the open ledger range. -/
def State.rangeEnd (s : State) : Nat := s.pub.ledgerFrom / 1024 * 1024 + 1023

/-- The ledger that is due: its last ordinal, and whether it is partial. -/
def State.ledgerDue (s : State) : Option (Nat × Bool) :=
  match s.dev.bOpen with
  | none => none
  | some b =>
    if s.rangeEnd ≤ b ∧ s.sealsFinal s.rangeEnd = true then some (s.rangeEnd, false)
    else if s.pub.partialDue ∧ s.publishedFinal = true ∧ s.pub.ledgerFrom ≤ b then
      -- the last ordinal published
      let l := (s.walk.runs.filter fun r => r.status.isSome).map (·.ordinal)
      let last := l.foldl max 0
      if l.isEmpty ∨ last < s.pub.ledgerFrom then none else some (last, decide (last < s.rangeEnd))
    else none

/-- Form, keep and send a ledger. -/
def State.formLedger (last : Nat) (isPartial : Bool) (s : State) : State :=
  let mine := (s.pub.leaves.filter fun l => decide (l.1 ≤ last)).mergeSort leafLe
  let seals := mine.map (·.2.2)
  let no := s.pub.ledgerFrom / 1024
  let seed := s.ledgerSeed
  let root := if seals.isEmpty then zeros 32 else ledgerRoot 14 (seals.map ledgerLeaf)
  let signed := ledgerSigned isPartial s.dev.bootCount no s.pub.ledgerFrom last seals.length root s.pub.ledgerPrev (keyIdOf seed)
  let ledger := signed ++ signBoth seed signed
  let entry := leBytes 4 no ++ leBytes 4 seals.length ++ leBytes 8 s.pub.ledgerFrom ++ (seals.map (padTo 32)).flatten
  let s1 := s.onPub fun p =>
    { p with leaves := p.leaves.filter fun l => decide (last < l.1)
             ledgerFrom := last + 1, ledgerPrev := digest32 signed, ledger := ledger
             sealList := (p.sealList ++ [entry]).drop (p.sealList.length + 1 - 2), partialDue := false }
  s1.sendDoc 3 no s.dev.bootCount (destOf (s.pubCfg 0x3100 3 [])) (s.imageOf last) ledger []

/-- LEDGER_PUBLISH: control pair 2 forms and publishes the ledger that is due. No ledger is signed in replay mode, and none once
control pair 2 has halted (R233). -/
def execLedgerPublish (s : State) : Host.Outcome State Fault Refusal :=
  .next (if s.walk.replay ∨ s.dev.pairHalted.contains 2 = true ∨ s.frozen then s
    else match s.ledgerDue with
      | some d => s.formLedger d.1 d.2
      | none => if s.pub.partialDue ∧ s.publishedFinal = true then s.onPub fun p => { p with partialDue := false } else s)

end Sys2Proof.Machine
end

