-- ==== Sys2Proof/Machine/Scene.lean ====
section
/-!
DEFINITION. The scene controller: ego-motion, the warp, the application of updates, and the top-down export
(11_cameras_results_scene.md R335 to R341, R344 to R346; 10_fault_containment.md R276; 08_bit_identity_and_seals.md R241).
-/

namespace Sys2Proof.Machine

/-! ### Ego-motion (R336 to R340) -/

/-- Limit a component of the motion (R337). -/
def clampTo (lim v : Int) : Int := sat v (-lim) lim

/-- The motion of the held messages: each component is summed, and each sum saturates. -/
def egoSum (l : List EgoMsg) : Int × Int × Int :=
  l.foldl (fun m e => (clampTo 1280 (m.1 + e.dyaw), clampTo 64 (m.2.1 + e.dx), clampTo 64 (m.2.2 + e.dy))) (0, 0, 0)

/-- Record 0x26 of a rejected ego-motion message. -/
def State.egoRejected (s : State) : State := s.record { kind := 0x26, severity := 1, unit := .pair 1 }

/-- The decision of R339 for a batch: the held messages are applied, or none is. -/
def State.egoDecide (b : Nat) (apply : Bool) (s : State) : State :=
  let held := s.scene.held
  let last := s.scene.lastEgo
  let s1 := s.onBatch b fun x =>
    { x with ego := some apply
             motion := if apply then egoSum held else (0, 0, 0)
             egoMsgs := if apply then held.map fun e => (e.seq, e.digest) else [] }
  let s2 := s1.onScene fun c => { c with held := if apply then [] else c.held, lastEgo := some apply }
  let s3 :=
    if !apply && (last == some true || b == 0) then
      s2.record { kind := 0x25, severity := 1, detected := some b, unit := .pair 1 }
    else if apply && last == some false then
      s2.record { kind := 0x25, severity := 0, detected := some b, unit := .pair 1 }
    else s2
  s3.serviceTokens 1 b (!apply)

/-- The recorded ego-motion decision of a replayed batch (08 R241). -/
def Batch.egoForced (x : Batch) (dev : Nat) : Option Nat :=
  (x.decisions.find? fun d => d.srckind == 3 && d.unit == dev * 256).map (·.outcome)

/-- At the opening (R339): a held message is accepted at once. A replayed batch follows its record, and every run that holds a
SCENE step dies with cause 0x08 where the record is missing. -/
def State.egoAtOpen (b : Nat) (s : State) : State :=
  match s.batch? b with
  | none => s
  | some x =>
    let holds := !s.scene.held.isEmpty
    if x.replayed then
      match x.egoForced s.group.devno with
      | some 1 => if holds then s.egoDecide b true else s
      | some _ => s.egoDecide b false
      | none =>
        let s1 := s.egoDecide b false
        (s1.runsOf (s1.devSide b)).foldl (fun t r => if t.hasScene b r then t.killRun b r 8 else t) s1
    else if holds then s.egoDecide b true else s

/-- The batch whose ego-motion decision is open, the oldest one. -/
def State.egoOpen (s : State) : Option Batch := s.walk.batches.reverse.find? fun x => x.ego.isNone

/-- A message that passes R337 is held, and decides the batch that waits for one. -/
def State.holdEgo (m : EgoMsg) (s : State) : State :=
  let s1 := s.onScene fun c => { c with held := c.held ++ [m], egoSeq := some m.seq }
  match s1.egoOpen with
  | some x => s1.egoDecide x.ordinal true
  | none => s1

/-- The tag of an ego-motion message verifies (R336, R338): the key of 3200.06, an empty plaintext, bytes 0 to 15 with the boot count as the
additional data, and the nonce that SHAKE256 gives. -/
def State.egoTagOk (data : Bytes) (s : State) : Bool :=
  let boot := leBytes 4 s.dev.bootCount
  let nonce := (digest32 ([69#8, 71#8, 79#8] ++ boot ++ slice data 8 8)).take 12
  slice data 16 16 == gcmTagOf 16 (s.pubCfg 0x3200 6 (zeros 32)) nonce (data.take 16 ++ boot) []

/-- A message comes on the carrier that 3200.01 selects, on the identifier and controller of 3200.02 or the port of 3200.03 (R336). -/
def State.egoCarrier (on : EgoVia) (s : State) : Bool :=
  let src := leNat (s.pubCfg 0x3200 1 [2#8])
  let id := leNat (s.pubCfg 0x3200 2 (leBytes 4 0x340))
  let ctl := id / 2 ^ 30
  if on.can then
    src != 1 && on.ident == id % 2 ^ 30 && on.unit < 2 && (ctl == 2 || ctl == on.unit) && bit (s.commSetting 1 3) on.unit
  else src != 0 && on.port == leNat (s.pubCfg 0x3200 3 (leBytes 2 49231)) && on.unit < 2 && !s.pub.macDown.contains on.unit

/-- A message of the right carriage is checked (R337), and counted as late when it lost to the window's end (R339). -/
def State.egoMessage (data : Bytes) (tagOk late : Bool) (s : State) : State :=
  let dyaw := sext 16 (num data 2 2)
  let dx := sext 16 (num data 4 2)
  let dy := sext 16 (num data 6 2)
  let seq := num data 8 8
  let auth := leNat (s.pubCfg 0x3200 5 [1#8]) == 1
  if data.length ≠ 32 ∨ num data 0 2 ≠ 0x4B45 ∨ (auth ∧ ¬ tagOk) ∨ (∃ q ∈ s.scene.egoSeq, seq ≤ q) ∨ dx.natAbs > 64 ∨ dy.natAbs > 64 ∨
      dyaw.natAbs > 1280 then s.egoRejected
  else if late then s.onScene fun c => { c with egoLate := c.egoLate + 1 }
  else s.holdEgo { seq := seq, dyaw := dyaw, dx := dx, dy := dy, digest := digest32 data }

/-- EGO_MOTION_MESSAGE: a message arrives on CAN FD or UDP; what comes elsewhere is not listened to. -/
def execEgoMotionMessage (on : EgoVia) (data : Bytes) (secured late : Bool) (s : State) : Host.Outcome State Fault Refusal :=
  .next (if ¬ on.can ∧ on.unit < 2 ∧ s.macDrops on.unit secured then s.countMacsec on.unit 2
    else if s.dev.state = .boot ∨ s.walk.replay ∨ s.egoCarrier on = false then s
    else s.egoMessage data (s.egoTagOk data) late)

/-- EGO_MOTION_WINDOW_END: the window after an opening ends without a message: no ego-motion for the batch. -/
def execEgoMotionWindowEnd (s : State) : Host.Outcome State Fault Refusal :=
  .next (match s.egoOpen with
    | some x => if x.replayed then s else s.egoDecide x.ordinal false
    | none => s)

/-! ### Warp (R341) -/

/-- π · 2^192, rounded down. -/
def piScaled : Int := 19720096697726538562396133364228268891463450865190089732560

/-- Partial sum of the series of sine and cosine in units of 2^-192. -/
def trigSum (x2 : Int) : Nat → Int → Int → Int
  | 0, _, _ => 0
  | f + 1, k, t => t + trigSum x2 f (k + 2) (-(t * x2 / 2 ^ 192) / (k * (k + 1)))

/-- round(32768 · v) of a value in units of 2^-192. -/
def trigRound (v : Int) : Int := (v * 32768 + 2 ^ 191) / 2 ^ 192

/-- round(32768 · cos(dyaw · π / 11520)). -/
def warpCos (dyaw : Int) : Int :=
  let x := dyaw.natAbs * piScaled / 11520
  trigRound (trigSum (x * x / 2 ^ 192) 24 1 (2 ^ 192))

/-- round(32768 · sin(dyaw · π / 11520)). -/
def warpSin (dyaw : Int) : Int :=
  let x := dyaw.natAbs * piScaled / 11520
  let v := trigRound (trigSum (x * x / 2 ^ 192) 24 2 x)
  if dyaw < 0 then -v else v

/-- The old cell that a new cell takes, none outside the old grid. -/
def warpSource (m : Int × Int × Int) (c sn : Int) (cell : Nat) : Option Nat :=
  let px : Int := (cell % 1024 : Nat) - 512
  let py : Int := (cell / 1024 : Nat) - 512
  let qx := (c * px - sn * py + 16384) / 32768 + m.2.1 + 512
  let qy := (sn * px + c * py + 16384) / 32768 + m.2.2 + 512
  if 0 ≤ qx ∧ qx ≤ 1023 ∧ 0 ≤ qy ∧ qy ≤ 1023 then some (qy.toNat * 1024 + qx.toNat) else none

/-- Words 0x30 of a context with another NOEGO bit. -/
def withNoEgo (w : Nat) (v : Bool) : Nat := w - w / 2 ^ 25 % 2 * 2 ^ 25 + v.toNat * 2 ^ 25

/-- A context that is carried into the new grid: one warp older, with NOEGO of this warp. -/
def agedCtx (noEgo : Bool) (b : Bytes) : Bytes :=
  let w := num b 0x30 4
  let age := min (w % 65536 + 1) 65535
  b.take 0x30 ++ leBytes 4 (withNoEgo (w - w % 65536 + age) noEgo) ++ b.drop 0x34

/-- The new grid of a warp; `bad` are the old cells that were poisoned and reset (R276). -/
def State.warpGrid (s : State) (m : Int × Int × Int) (noEgo : Bool) (bad : List Nat) : Tbl Bytes :=
  let c := warpCos m.1
  let sn := warpSin m.1
  let fresh := enteringCtx noEgo false
  if s.scene.grid.isEmpty ∧ bad.isEmpty then []
  else (List.range gridCells).filterMap fun cell =>
    match warpSource m c sn cell with
    | some o =>
      let v := if bad.contains o then enteringCtx noEgo true else agedCtx noEgo (s.context o)
      if v = fresh then none else some (cell, v)
    | none => none

/-- Cells whose contexts are poisoned (10 R272). -/
def State.poisonedCells (s : State) : List Nat :=
  (s.mem.poison.filter fun k => decide (Area.scene.lineKey 0 ≤ k) && decide (k < Area.scene.lineKey gridCells)).map (· - Area.scene.lineKey 0)

/-- Every context is written anew: none is poisoned any more (10 R275). -/
def State.cleanGrid (s : State) : State :=
  s.onMem fun m => { m with poison := m.poison.filter fun k => !(decide (Area.scene.lineKey 0 ≤ k) && decide (k < Area.scene.lineKey gridCells)) }

/-- The batch whose warp can start: the oldest one not warped, with its decision made and the updates of the one before applied. -/
def State.warpNext (s : State) : Option Batch :=
  match s.walk.batches.reverse.find? fun x => !x.warped with
  | some x =>
    if x.warping ∨ x.ego.isNone ∨ (∃ p ∈ s.walk.batches, p.ordinal + 1 = x.ordinal ∧ p.applied = false) then none else some x
  | none => none

/-- WARP_START: the warp of a batch starts. An export that it would overwrite is abandoned (R346); after a switch to another
programme every context takes the entering value first (R335). -/
def execWarpStart (s : State) : Host.Outcome State Fault Refusal :=
  .next (match s.warpNext with
    | none => s
    | some x =>
      if s.frozen then s else
      let s1 := s.onBatch x.ordinal fun y => { y with warping := true }
      let s2 := if x.fresh then (s1.onScene fun c => { c with grid := [], noEgoAll := false }).cleanGrid else s1
      let gone := s2.scene.exports.filter fun e => decide (e.1 + 2 ≤ x.ordinal)
      gone.foldl (fun t e => t.record { kind := 0x2A, severity := 0, detected := some e.1, unit := .scene })
        (s2.onScene fun c => { c with exports := c.exports.filter fun e => !decide (e.1 + 2 ≤ x.ordinal) }))

/-- WARP_COMPLETE: the new grid is in force, and service 2 sends its tokens. `badCells`: cells whose words failed twice; they and the cells
that were poisoned before are reset (10 R276). -/
def execWarpComplete (badCells : List Nat) (s : State) : Host.Outcome State Fault Refusal :=
  .next (match s.walk.batches.find? fun x => x.warping with
    | none => s
    | some x =>
      let noEgo := x.ego != some true
      let bad := ((badCells.filter (· < gridCells)) ++ s.poisonedCells).eraseDups
      let grid := s.warpGrid x.motion noEgo bad
      let s1 := bad.foldl (fun t c =>
        t.record { kind := 0x1D, severity := 1, detected := some x.ordinal, unit := .scene, reactions := [14], detail := [(15, .num c)] }) s
      let s2 := s1.onScene fun c => { c with grid := grid, noEgoAll := noEgo, warped := some x.ordinal }
      let s3 := (s2.cleanGrid.onBatch x.ordinal fun y => { y with warping := false, warped := true }).serviceTokens 2 x.ordinal false
      -- the SCENE steps that waited for it run
      s3.activeCores.foldl (fun t c => t.sceneCall x.ordinal c) s3)

/-! ### Updates (R344) -/

/-- Order of application: cell, source index, run. -/
def Update.le (x y : Update) : Bool :=
  if x.cell ≠ y.cell then decide (x.cell < y.cell)
  else if x.source ≠ y.source then decide (x.source < y.source)
  else decide (x.run ≤ y.run)

/-- Apply one update record to a context in batch b. -/
def applyUpdate (b : Nat) (u ctx : Bytes) : Bytes :=
  let add := u.getD 49 0#8 == 0#8
  let one (i : Nat) : Int × Bool :=
    let d := (u.getD i 0#8).toInt
    if add then
      let v := (ctx.getD i 0#8).toInt + d
      (sat v (-128) 127, decide (v < -128 ∨ v > 127))
    else (d, false)
  let feats := (List.range 48).map one
  let saturated := feats.any (·.2)
  let w := num ctx 0x30 4
  let occ := if u.getD 48 0#8 = 0#8 then w / 2 ^ 16 % 256 else (u.getD 48 0#8).toNat
  let noego := w / 2 ^ 25 % 2
  (feats.map fun f => BitVec.ofInt 8 f.1) ++ leBytes 4 (occ * 2 ^ 16 + noego * 2 ^ 25 + saturated.toNat * 2 ^ 27) ++
    leBytes 4 (b % 2 ^ 32) ++ leBytes 4 (b / 2 ^ 32 % 2 ^ 16) ++ zeros 4

/-- Apply a batch's updates, those of dead runs discarded. -/
def State.applyUpdates (x : Batch) (s : State) : State :=
  let dead (r : Nat) : Bool := ((s.run? x.ordinal r).map fun (y : RunRec) => y.cause != 0).getD true
  let l := (x.updates.filter fun u => !dead u.run).mergeSort Update.le
  l.foldl (fun t u => t.onScene fun c =>
    { c with grid := tput0 (enteringCtx c.noEgoAll false) u.cell (applyUpdate x.ordinal u.record (t.context u.cell)) c.grid }) s

/-! ### Export (R345, R346) -/

/-- The export of the grid as it stands. -/
def State.exportBytes (s : State) : Bytes :=
  let stride := max 1 (leNat (s.pubCfg 0x3200 9 [4#8]))
  let two := leNat (s.pubCfg 0x3200 8 [0#8]) == 1
  let n := 1024 / stride
  (List.range n).flatMap fun y => (List.range n).flatMap fun x =>
    let w := num (s.context (y * stride * 1024 + x * stride)) 0x30 4
    BitVec.ofNat 8 (w / 2 ^ 16) :: (if two then [BitVec.ofNat 8 (min (w % 65536) 255)] else [])

/-- An export after batch b is due when its period divides b. -/
def State.exportAfter (b : Nat) (s : State) : State :=
  let period := leNat (s.pubCfg 0x3200 7 (zeros 2))
  if period ≠ 0 ∧ b % period = 0 then s.onScene fun c => { c with exports := c.exports ++ [(b, s.exportBytes)] } else s

/-- The oldest batch whose updates can be applied: it is warped, has ended on every core and has its last verdict. -/
def State.applyNext (s : State) : Option Batch :=
  match s.walk.batches.reverse.find? fun x => !x.applied with
  | some x =>
    if x.warped ∧ (∀ k ∈ s.walkers x.ordinal, x.ended.contains k = true) ∧ s.settled x.ordinal none = true then some x else none
  | none => none

/-- SCENE_UPDATE_APPLY: the updates of a finished batch enter the grid. -/
def execSceneUpdateApply (s : State) : Host.Outcome State Fault Refusal :=
  .next (match s.applyNext with
    | none => s
    | some x => if s.frozen then s else ((s.applyUpdates x).onBatch x.ordinal fun y => { y with applied := true, updates := [] }).exportAfter x.ordinal)

/-- A result or a ledger is due, which goes before an export (R346). -/
def State.sendsFirst (s : State) : Bool :=
  s.walk.runs.any (fun r => s.publishes r.run && s.mayPublish r) || (!s.walk.replay && !s.dev.pairHalted.contains 2 && s.ledgerDue.isSome)

/-- SCENE_EXPORT: the oldest export that is due is sent, when no result and no ledger is; the last datagram carries its SHAKE256. Nothing is
sent in SAFE (10 R309). -/
def execSceneExport (s : State) : Host.Outcome State Fault Refusal :=
  .next (match s.scene.exports with
    | [] => s
    | (b, d) :: rest =>
      if s.dev.state = .safe ∨ s.frozen ∨ s.sendsFirst = true then s
      else
        let s1 := s.sendDoc 4 b (s.sealBoot b) (destOf (s.pubCfg 0x3200 10 [])) (s.imageOf b) d (digest32 d)
        (s1.onBatch b fun x => { x with exported := true }).onScene fun c => { c with exports := rest })

end Sys2Proof.Machine
end

