-- ==== Sys2Proof/Machine/Verdict.lean ====
section
/-!
DEFINITION. Verdicts: duplicate and third executions, what they decide, and the way of a unit back to OK
(10_fault_containment.md R286 to R289, R292, R293, R301; 04_digital_arrays.md R124).
-/

namespace Sys2Proof.Machine

def State.tileNo? (s : State) (id : Nat) : Option CheckedTile := s.walk.tiles.find? fun t => t.id == id
def State.onTile (id : Nat) (f : CheckedTile → CheckedTile) (s : State) : State :=
  s.onWalk fun w => { w with tiles := w.tiles.map fun t => if t.id = id then f t else t }

/-- The primary unit of a checked tile. -/
def CheckedTile.primary (t : CheckedTile) : UnitId := match t.site with
  | some n => .site n
  | none => .array t.cluster

/-- Output columns of a tile: positions of a faulty array's deviations count by them. -/
def CheckedTile.cols (t : CheckedTile) : Nat :=
  if t.given then (t.inputs.headD []).length else sfld t.word 8 29 20

/-- Codes as numbers; an absent one reads 0 in both executions. -/
def codeRows (l : List (List (Option Int))) : List (List Int) := l.map fun r => r.map fun x => x.getD 0

/-- The output codes that a checker forms for captured codes: it requantises its accumulators, with what other steps added, by the tile's own
bridge descriptor and the scale table of the same side (R124). -/
def CodeCapture.exact (c : CodeCapture) (scales : Bytes) (accs : List (List Int)) : List (List Int) :=
  let d := parseBDesc c.desc
  match quantizeTile d scales c.out0 (c.rest.mapIdx fun v l => l.mapIdx fun j y => y.map fun n => n + (accs.getD v []).getD j 0) with
  | some q => codeRows (finishCodes d c.lut c.outs q)
  | none => []

/-- What the operands of a tile give exactly (R124): the verified shard for a BOW step, accumulators and output codes; the results
themselves for a DIG step and a drone. -/
def State.exactOf (s : State) (t : CheckedTile) : List (List Int) :=
  if t.given then t.inputs
  else
    let side := s.sideOf t.core t.ordinal
    let leng := sfld t.word 4 1 0
    let accs := match wtFmt (sfld t.word 4 7 5), s.shardOf t.core leng side with
      | some f, some o => tileAccs o f t.word t.inputs
      | _, _ => t.inputs.map fun _ => List.replicate (sfld t.word 8 29 20) 0
    let scales (dstbr : Nat) : Bytes := ((s.shardOf t.core dstbr side).map shardScales).getD (s.scaleTable t.core dstbr t.ordinal)
    accs ++ t.codes.flatMap fun c => c.exact (scales (sfld t.word 0xC 17 16)) accs

/-- The captured results of the primary: accumulators of the vectors that were present, then the output codes. -/
def CheckedTile.got (t : CheckedTile) : List (List Int) :=
  if t.given then t.accs else t.accs.take t.inputs.length ++ t.codes.flatMap fun c => codeRows c.codes

/-- A captured tile waits for the output codes that a BRIDGE step of its batch has still to form from its bank (R123; log 84). -/
def State.codesDue (s : State) (t : CheckedTile) : Bool :=
  let c := s.core t.core
  let bank := sfld t.word 0xC 17 16
  !t.given && t.state == .captured && t.codes.isEmpty && sfld t.word 0xC 15 14 != 2 && c.cur == some t.ordinal &&
    ((c.banks.getD bank {}).parts.contains t.stepno) &&
    match s.tab? t.core c.side with
    | some tab => (tab.steps.drop c.next).any fun w => stepKind w == 4 && sfld w 4 18 17 == 0 && sfld w 4 16 15 == bank
    | none => false

/-- Lines of the checking area that a BOW step's captured codes take. -/
def CheckedTile.codeLines (t : CheckedTile) : Nat := sfld t.word 4 16 8 * ((sfld t.word 8 29 20 + 63) / 64)

/-- The checker compares the accumulators of a tile whose codes are still due, when the checking area has no room for another tile: when they
agree, their lines are free and the tile waits on for its codes (log 84). -/
def State.compareAccs (t : CheckedTile) (s : State) : State :=
  let free := t.lines - t.codeLines
  (s.onTile t.id fun x => { x with accsOk := true, lines := x.lines - free }).freeCheck (t.core / 8) free

/-- The tile in progress that a checked tile of a BOW step was. -/
def CheckedTile.tile (t : CheckedTile) (colLim : Nat) (accs : List (List Int)) : Tile :=
  let w := t.word
  { core := t.core, stepno := t.stepno, ordinal := t.ordinal, run := t.run.getD 0, word := w, treg := t.treg, vec := 0, bit := 0
    masked := false, rowLim := sfld w 4 27 17, vecLim := t.inputs.length, colLim := colLim, sampled := false, inputs := t.inputs
    accs := accs ++ List.replicate (sfld w 4 16 8 - t.inputs.length) (List.replicate (sfld w 8 29 20) 0), corrected := false }

/-- How many bows of a tile split on a site: those with a fret over the budget of driven set cells (02 R48). -/
def State.splitBows (s : State) (site : Nat) (t : CheckedTile) : Nat :=
  let side := s.sideOf t.core t.ordinal
  let fin := (inFmt (sfld t.word 4 4 2)).getD .int8
  let x := t.tile 0 []
  ((List.range t.inputs.length).flatMap fun v => (List.range fin.width).filter fun k =>
    let rows := s.drivenRows site side { x with vec := v, bit := k } fin.width
    (List.range 16).any fun f => (fretDrive rows (s.fretOnes site side) false f).split).length

/-- Array cycles that an execution of a tile takes (04 R113, R119): the passes of K-ENG for a drone. -/
def State.tileCycles (s : State) (t : CheckedTile) : Nat :=
  let side := s.sideOf t.core t.ordinal
  if t.run.isNone then kEngCycles (s.plane (2 * t.site.getD 0 + side)).wtfmt
  else if stepKind t.word = 1 then bowCycles t.word
  else digCycles (parseADesc (((s.tab? t.core side).bind fun tab => s.descriptor t.core tab (sfld t.word 4 14 0)).getD []))

/-- The work that an execution of a tile costs its unit: array cycles of a class, or the bows of an engine with their half-bows and margin
warnings (02 R72). -/
def State.countExecution (u : UnitId) (cls margins : Nat) (evs : List BowEvents) (t : CheckedTile) (s : State) : State :=
  match u with
  | .site n =>
    let side := s.sideOf t.core t.ordinal
    let width := (inFmt (sfld t.word 4 4 2)).elim 8 Fmt.width
    let splits := s.splitBows n t
    let s1 := (s.countEngine n 1 (sfld t.word 4 16 8 * ((inFmt (sfld t.word 4 4 2)).elim 8 Fmt.width))).countEngine n 5 margins
    let s2 := if margins = 0 then s1 else s1.countEvent (n / 40) 0x4A margins
    let s3 := if splits = 0 then s2 else ((s2.countEngine n 2 (2 * splits)).countEvent (n / 40) 0x47 splits).countSplits (n / 5) splits
    evs.foldl (fun u e =>
      let x := bowPair (u.drivenRows n side { t.tile 0 [] with vec := e.bow / width, bit := e.bow % width } width) (u.fretOnes n side) e
      u.countEvents n (n / 5) x.1 x.2) s3
  | .array cl => s.countEvent cl (0x10 + cls) (s.tileCycles t)
  | _ => s

/-- A tile has its final verdict: it leaves the verdict path, its lines of the checking area are free, and a HELD result may
become final. -/
def State.settleTile (t : CheckedTile) (s : State) : State :=
  let s1 := (s.onWalk fun w => { w with tiles := w.tiles.filter fun x => x.id != t.id }).freeCheck (t.core / 8) t.lines
  match t.run with
  | some r => s1.holdsFinal t.ordinal r
  | none => s1

/-- What a verdict that kills a tile's run does to it, as a reaction code: VOID, or retracted when it is published HELD (R291). -/
def State.runCodes (s : State) (t : CheckedTile) : List Nat :=
  match t.run.bind (s.run? t.ordinal) with
  | some r => if r.status = some .held ∧ ¬ r.final then [3] else [2]
  | none => []

/-- A failed check of a verdict and its record, with the outputs that differ. -/
def State.verdictCharge (u other : UnitId) (kind severity : Nat) (t : CheckedTile) (a b : List (List Int)) (s : State) : State :=
  let x := a.flatten.zip b.flatten
  let diffs := (x.zipIdx.filter fun e => e.1.1 != e.1.2).map (·.2)
  s.chargeRecord
    { kind := kind, severity := severity, detected := some t.ordinal, unit := u, unit2 := some other, run := t.run
      step := some t.stepno, reactions := if severity = 2 then s.runCodes t else []
      detail := [(2, .num diffs.length), (3, .num (diffs.headD 0))] } t.ordinal

/-- A verdict kills the run of a tile; a drone has none. -/
def State.killTileRun (t : CheckedTile) (s : State) : State := match t.run with
  | some r => s.verdictKills t.ordinal r
  | none => s

/-- The destination of a tile is poisoned while its core still walks its batch: its bank, or its container or output lines. -/
def State.poisonTile (t : CheckedTile) (s : State) : State :=
  let c := s.core t.core
  if t.run.isNone ∨ c.cur ≠ some t.ordinal then s
  else if stepKind t.word = 1 ∧ sfld t.word 0xC 15 14 ≠ 2 then
    s.onCore t.core fun c =>
      { c with banks := c.banks.mapIdx fun i b => if i = sfld t.word 0xC 17 16 then { b with poisoned := true } else b }
  else
    match s.tab? t.core c.side with
    | some tab =>
      let c' := { c with tiles := List.replicate 4 t.treg }
      (s.stepLines t.core tab c' t.word).2.foldl (fun u e =>
        let a := if e.1.space = 0 then Area.sram t.core else .sb (t.core / 8)
        (List.range e.2).foldl (fun v k => v.poisonLine (t.core / 8) a (e.1.line + k)) u) s
    | none => s

/-- SPLIT of a captured tile: nobody can say which execution is right (R288). -/
def State.splitTile (t : CheckedTile) (dup : List (List Int)) (s : State) : State :=
  let s1 := (s.countEvent t.cluster 0x26 1).poisonTile t
  let s2 := (s1.chargeFail t.checker t.ordinal).verdictCharge t.primary t.checker 4 2 t t.got dup
  (s2.killTileRun t).settleTile t

/-- An escalated tile is decided: its BOW step completes with the agreed accumulators, or with a poisoned bank (R288). -/
def State.endEscalated (t : CheckedTile) (agreed : Option (List (List Int))) (s : State) : State :=
  let walking := (s.core t.core).cur == some t.ordinal
  let w := t.word
  let s1 := match agreed with
    | some a =>
      if walking then
        s.finishTile t.site t.cluster
          (t.tile (presentCount (sfld w 0x18 15 0) ((s.core t.core).limit (sfld w 0x10 8 6)) (sfld w 8 29 20)) a)
      else s
    | none => s.poisonTile t
  if walking then s1.completeStep t.core t.ordinal w false else s1

/-- Escalation resolved (record 0x01), or split. -/
def State.judgeEscalated (t : CheckedTile) (third : Option (List (List Int))) (s : State) : State :=
  let site := t.primary
  if third == some t.dup then
    let s1 := s.endEscalated t (some t.dup)
    let s2 := s1.chargeRecord
      { kind := 0x01, severity := 1, detected := some t.ordinal, unit := site, unit2 := some t.checker, run := t.run, step := some t.stepno
        reactions := [1] } t.ordinal
    s2.settleTile t
  else
    let s1 := (s.countEvent t.cluster 0x26 1).endEscalated t none
    let s2 := s1.chargeFail t.checker t.ordinal
    let s3 := match t.third with
      | some c => if third.isSome then s2.chargeFail (.array c) t.ordinal else s2
      | none => s2
    let s4 := s3.chargeRecord
      { kind := 0x04, severity := 2, detected := some t.ordinal, unit := site, unit2 := some t.checker, run := t.run
        step := some t.stepno, reactions := s.runCodes t } t.ordinal
    (s4.killTileRun t).settleTile t

/-- The array of a unit is free for work of a class (04 R126); an engine checker has no other work. -/
def State.unitFree (s : State) (u : UnitId) (cls id : Nat) : Bool :=
  match u with
  | .array cl => !s.arrayBusy cl cls id
  | _ => true

/-- An array keeps the accumulators of a checked tile in the bank of classes 2 and 3 (04 R126). -/
def State.keepChecked (u : UnitId) (accs : List (List Int)) (s : State) : State :=
  match u with
  | .array cl => s.keepAccs cl 2 accs
  | _ => s

/-- DUPLICATE_EXECUTION: the checker of a tile has executed it, as work of class 3 on an array (Table 04-5). -/
def execDuplicateExecution (tile : Nat) (faults : CheckerFaults) (s : State) : Host.Outcome State Fault Refusal :=
  .next (if s.frozen then s else match s.tileNo? tile with
    | none => s
    | some t =>
      let sums := deviate faults.sums t.cols (s.exactOf t)
      if !s.unitFree t.checker 3 t.id then s
      -- codes are due: the accumulators alone are compared when room is wanted, and a difference is acted on at once
      else if s.codesDue t && (s.checkRoom (t.core / 8) t.lines || t.accsOk) then s
      else if s.codesDue t && t.got == sums then (s.countExecution t.checker 3 faults.margins faults.bows t).compareAccs t
      else
        let dup := sums
        let s0 := (s.countExecution t.checker 3 faults.margins faults.bows t).keepChecked t.checker dup
        let dupCl := unitCluster t.checker
        let third := s.thirdUnit t.cluster [t.cluster, dupCl]
        match t.state with
        | .captured =>
          if t.got = dup then
            (((s0.countEvent t.cluster 0x22 1).passCheck t.primary t.ordinal).passCheck t.checker t.ordinal).settleTile t
          else
            match third with
            | some c =>
              (s0.onTile tile fun x => { x with state := .third, dup := dup, third := some c }).countEvent t.cluster 0x23 1
            | none => s0.splitTile t dup
        | .escalated =>
          match third with
          | some c =>
            (s0.onTile tile fun x => { x with state := .escThird, dup := dup, third := some c }).countEvent t.cluster 0x23 1
          | none => s0.judgeEscalated { t with dup := dup } none
        | _ => s)

/-- THIRD_EXECUTION: the third unit of a disputed or escalated tile has executed it, as work of class 2 (R287, R288, Table 04-5). -/
def execThirdExecution (tile : Nat) (faults : List (Nat × Int)) (s : State) : Host.Outcome State Fault Refusal :=
  .next (if s.frozen then s else match s.tileNo? tile with
    | none => s
    | some t =>
      if t.third.any fun c => s.arrayBusy c 2 t.id then s
      else
        let r := deviate faults t.cols (s.exactOf t)
        let arr := UnitId.array (t.third.getD 0)
        let s0 := if t.third.isSome then (s.countExecution arr 2 0 [] t).keepChecked arr r else s
        match t.state with
        | .third =>
          if t.third.isNone then s0.splitTile t t.dup
          else if r = t.got then
            ((s0.countEvent t.cluster 0x24 1).verdictCharge t.checker arr 2 1 t t.dup r).settleTile t
          else if r = t.dup then
            (((s0.countEvent t.cluster 0x25 1).verdictCharge t.primary arr 3 2 t t.got r).killTileRun t).settleTile t
          else s0.splitTile t t.dup
        | .escThird => s0.judgeEscalated t (some r)
        | _ => s)

/-- UNIT_BACK_TO_OK: 1,024 ordinals have passed since the last failed check of a SUSPECT unit (R293). -/
def execUnitBackToOk (u : UnitId) (s : State) : Host.Outcome State Fault Refusal :=
  let c := s.check u
  .next (if s.frozen then s else if c.suspect ∧ ¬ c.retired ∧ (recentFails (s.dev.bOpen.getD 0) c.fails).isEmpty then
    (s.onCheck u fun x => { x with suspect := false, fails := [] }).record { kind := 0x15, severity := 0, unit := u }
  else s)

end Sys2Proof.Machine
end

