-- ==== Sys2Proof/Machine/Load.lean ====
section
/-!
DEFINITION. Image objects as bytes: tab images, counter tables with their order tables, shards; and the checks that a programme
passes before it is loaded (05_tablature.md R129 to R131, R139, R150, R154; 06_mapping_and_tiles.md R167, R168;
07_weight_courses.md R184, R185; 10_fault_containment.md R284; 11_cameras_results_scene.md R321, R328; 16_observation.md R478).
-/

namespace Sys2Proof.Machine

/-! ### Tab images (Tables 05-1 and 05-2) -/

/-- A tab image as its bytes give it. -/
structure TabImage where
  core : Nat
  tab : Tab
  fretOnes : Bytes
  desc : Bytes
  deriving DecidableEq, Repr

def parseBuf (b : Bytes) : Buf :=
  { space := bits (num b 0 4) 2 0, siderel := bit (num b 0 4) 3, unit := bits (num b 0 4) 16 4, base := num b 4 4 % 2 ^ 29
    length := num b 8 4 % 2 ^ 29 }

def parseTabImage (b : Bytes) : TabImage :=
  let w (o : Nat) := num b o 4
  let desclen := bits (w 0x1C) 31 16
  { core := bits (w 0xC) 7 0, fretOnes := slice b (w 0x28) 64, desc := slice b (w 0x30) (32 * desclen)
    tab :=
      { progid := w 8, runmask := bits (w 0xC) 23 8, seedmode := bit (w 0xC) 24, seed := num b 0x14 8
        descbase := bits (w 0x1C) 14 0, desclen := desclen, descs := slice b (w 0x30) (32 * desclen)
        tabcache := bits (w 0x24) 16 0, tcen := bit (w 0x24) 17
        bufs := (List.range (bits (w 0x20) 7 0)).map fun i => parseBuf (slice b (w 0x2C + 16 * i) 16)
        steps := (List.range (bits (w 0x10) 24 0)).map fun i => BitVec.ofNat 256 (num b (w 0x34 + 32 * i) 32) } }

/-- The header's magic, version, identity, reserved fields and ranges, and its five parts in order. -/
def tabHeaderOk (b : Bytes) (unit progid : Nat) : Bool :=
  let w (o : Nat) := num b o 4
  let steps := bits (w 0x10) 24 0
  let descs := bits (w 0x1C) 31 16
  let bufs := bits (w 0x20) 7 0
  w 0 == 0x4B544142 && w 4 == 1 && w 8 == progid && bits (w 0xC) 7 0 == unit % 256 && bits (w 0xC) 31 25 == 0 && 1 ≤ steps &&
    steps ≤ 16777216 && bits (w 0x10) 31 25 == 0 && !bit (w 0x1C) 15 && 1 ≤ descs && descs ≤ 2048 &&
    bits (w 0x1C) 14 0 + descs ≤ 32768 && 1 ≤ bufs && bits (w 0x20) 31 8 == 0 && bits (w 0x24) 31 18 == 0 && num b 0x38 8 == 0 &&
    64 ≤ w 0x28 && w 0x28 + 64 ≤ w 0x2C && w 0x2C + 16 * bufs ≤ w 0x30 && w 0x30 + 32 * descs ≤ w 0x34 &&
    w 0x34 + 32 * steps ≤ b.length && (slice b (w 0x28) 64).all fun x => x.toNat < 128

/-- The reserved fields of buffer table entry i. -/
def bufReservedOk (b : Bytes) (i : Nat) : Bool :=
  let e := slice b (num b 0x2C 4 + 16 * i) 16
  let sp := bits (num e 0 4) 2 0
  let u := bits (num e 0 4) 16 4
  bits (num e 0 4) 31 17 == 0 && bits (num e 4 4) 31 29 == 0 && bits (num e 8 4) 31 29 == 0 && num e 12 4 == 0 &&
    1 ≤ num e 8 4 % 2 ^ 29 && (sp == 2 || !bit (num e 0 4) 3) && (4 ≤ sp || u == 0) && (sp != 7 || u < 32)

/-! ### Places: what a buffer's lines are, whichever core names them -/

/-- A number for the memory that a space, a unit code and SIDEREL name from a core. -/
def placeKey (core : Nat) (space unit : Nat) (siderel : Bool) : Nat :=
  match space with
  | 0 => core
  | 1 => 2 ^ 20 + core / 8
  | 2 => 2 ^ 21 + siderel.toNat
  | 3 => 2 ^ 22
  | 4 => unit % 256
  | 5 => 2 ^ 20 + unit % 256 / 8
  | 6 => 2 ^ 23 + unit
  | _ => 2 ^ 24 + unit % 32

def Buf.key (core : Nat) (b : Buf) : Nat := placeKey core b.space b.unit b.siderel

/-- Two buffers of one table overlap. A SIDEREL buffer and another of space 2 never do: they count lines of different memories; an
operand of space 2 means the first entry that holds its line (log 77). -/
def Buf.overlaps (x y : Buf) : Bool :=
  x.space == y.space && x.unit == y.unit && x.siderel == y.siderel && x.base < y.base + y.length && y.base < x.base + x.length

def bufsDisjoint : List Buf → Bool
  | [] => true
  | b :: l => !l.any (Buf.overlaps b) && bufsDisjoint l

/-- What a load is judged against: the programme's tabs, its counter entries and order tables by cluster, and the slower-tier
segments of the side as (first line, lines). -/
structure Programme where
  tabs : List TabImage
  counters : Tbl (List (BitVec 128))
  orders : Tbl (List Nat)
  segs : List (Nat × Nat)
  deriving DecidableEq, Repr

/-- Lines that a programme finds in DRAM and in the base-die window (2100.03). -/
def State.dramLines (s : State) : Nat := Config.dramLines s.obs.traceSize

/-- A buffer lies within its space (R131, R509): below the checking area in a soundboard, within the segments when SIDEREL. -/
def State.bufFits (s : State) (p : Programme) (b : Buf) : Bool :=
  let top := b.base + b.length
  match b.space with
  | 0 => top ≤ sramLines
  | 1 => top ≤ checkingLine
  | 4 => top ≤ sramLines && s.coreActive (b.unit % 256)
  | 5 => top ≤ checkingLine && s.coreActive (b.unit % 256)
  | 2 =>
    if b.siderel then (List.range b.length).all fun i => p.segs.any fun g => g.1 ≤ b.base + i && b.base + i < g.1 + g.2
    else top ≤ s.dramLines
  | 3 => top ≤ Config.windowLines
  | _ => true

/-- A buffer does not touch the descriptor section of the core whose SRAM it names. -/
def descClear (p : Programme) (core : Nat) (b : Buf) : Bool :=
  if b.space = 0 ∨ b.space = 4 then
    p.tabs.all fun t => t.core != b.key core ||
      b.base * 2 + b.length * 2 ≤ t.tab.descbase || t.tab.descbase + t.tab.desclen ≤ b.base * 2
  else true

/-! ### Step field maps (Tables 05-3 to 05-14) -/

/-- The fields (offset, high bit, low bit) are zero. -/
def fieldsZero (w : StepWord) (l : List (Nat × Nat × Nat)) : Bool := l.all fun e => sfld w e.1 e.2.1 e.2.2 == 0

/-- Bytes `lo` to 0x1B of a step are zero. -/
def restZero (w : StepWord) (lo : Nat) : Bool := bits w.toNat 223 (8 * lo) == 0

/-- The fields of a step of each kind hold defined codes and values in range. With SVC = 1 the bits of UNIT above the service number, and
PDST of a SIGNAL, have to be 0 (log 77). -/
def stepFieldsOk (w : StepWord) : Bool :=
  match stepKind w with
  | 0 => restZero w 4
  | 1 =>
    let v := sfld w 4 16 8
    let rows := sfld w 4 27 17
    let outs := sfld w 8 29 20
    let width := (wtFmt (sfld w 4 7 5)).elim 0 Fmt.width
    fieldsZero w [(4, 31, 28), (8, 31, 30), (0x10, 31, 21)] && (inFmt (sfld w 4 4 2)).isSome && width != 0 && 1 ≤ v && v ≤ 256 &&
      1 ≤ rows && sfld w 8 9 0 + rows ≤ 1024 && 1 ≤ outs && outs ≤ 512 && sfld w 8 19 10 + outs ≤ 512 / width &&
      sfld w 0xC 15 14 != 3 && (sfld w 0xC 15 14 == 2 || outs * v ≤ 32768)
  | 2 => fieldsZero w [(4, 31, 27), (0xC, 31, 16)] && restZero w 0x10
  | 3 =>
    fieldsZero w [(4, 31, 23), (8, 31, 29), (0xC, 31, 29), (0x10, 31, 24)] && restZero w 0x18 && 1 ≤ sfld w 0x10 23 0 &&
      (sfld w 4 2 0 < 4 || sfld w 4 5 3 < 4)
  | 4 =>
    let vs := sfld w 0x14 8 0
    let n := sfld w 0x14 18 9
    fieldsZero w [(4, 31, 19), (0xC, 31, 6), (0x14, 31, 28), (0x18, 31, 16)] && sfld w 4 18 17 < 2 &&
      (sfld w 4 18 17 == 0 || (1 ≤ vs && vs ≤ 256 && 1 ≤ n && n ≤ 512))
  | 5 => fieldsZero w [(4, 31, 9)] && restZero w 8
  | 6 => fieldsZero w [(4, 31, 18), (8, 31, 0)] && restZero w 0xC && (sfld w 4 13 13 == 0 || sfld w 4 12 0 < 4)
  | 7 => fieldsZero w [(4, 31, 18), (8, 31, 27)] && restZero w 0xC && (sfld w 4 13 13 == 0 || sfld w 4 12 0 < 4)
  | 8 =>
    fieldsZero w [(8, 31, 21)] && restZero w 0xC && sfld w 4 1 0 != 3 && 1 ≤ sfld w 4 15 8 &&
      (sfld w 4 1 0 != 0 || sfld w 8 20 6 == 0)
  | 9 => fieldsZero w [(4, 31, 5), (8, 31, 20), (0xC, 31, 17), (0x10, 31, 17)] && 1 ≤ sfld w 0x14 15 0
  | 10 => fieldsZero w [(4, 31, 7), (8, 31, 14)] && restZero w 0xC
  | 11 =>
    fieldsZero w [(4, 31, 13), (8, 31, 16)] && restZero w 0xC && sfld w 4 1 0 != 3 && sfld w 4 12 10 ≤ sfld w 4 9 7 &&
      (sfld w 4 1 0 != 1 || 300 ≤ sfld w 8 15 0) && (sfld w 4 1 0 != 2 || 25 ≤ sfld w 8 15 0)
  | 12 =>
    fieldsZero w [(4, 31, 18), (0xC, 31, 24)] && restZero w 0x10 && sfld w 4 17 16 != 3 &&
      (sfld w 4 17 16 == 0 || sfld w 8 31 0 == 0) && (sfld w 4 17 16 == 1 || sfld w 0xC 23 0 == 0)
  | _ => false

/-- VARIES is required on a WAIT with a timeout, and on a sampled BOW or DIG step under SEEDMODE 1 (R150). -/
def variesRequired (t : Tab) (w : StepWord) : Bool :=
  match stepKind w with
  | 7 => sfld w 8 23 0 != 0
  | 1 => sfld w 0x10 9 9 == 1 && t.seedmode
  | 2 => sfld w 4 21 21 == 1 && t.seedmode
  | _ => false

/-- The step at a position: its common fields, its field map, its STEPNO, and END last and only there. -/
def stepOk (n k : Nat) (w : StepWord) : Bool :=
  fieldsZero w [(0, 10, 10), (0, 31, 15), (0x1C, 31, 24)] && stepFieldsOk w && stepNo w == k && (stepKind w == 0) == (k + 1 == n)

/-! ### What steps can reach (R131) -/

/-- The grants of a counter: its numbers, or the entries of its order table. -/
def Programme.grants (p : Programme) (cl k : Nat) : List Nat :=
  let e := ((tget0 [] p.counters cl).getD k 0#128).toNat
  if ceMap e then tget0 [] p.orders (cl * 16 + k) else List.range (ceLimit e)

/-- The values beside NONE that a tile register can hold at position k of a tab. -/
def Programme.tileValues (p : Programme) (core : Nat) (t : Tab) (k treg : Nat) : List Nat :=
  match ((t.steps.take k).filter fun w => stepKind w == 5 && sfld w 4 5 4 == treg).getLast? with
  | some w => p.grants (core / 8) (sfld w 4 3 0)
  | none => []

/-- Lines of an operand of step w that a step kind's `stepLines` does not list: weights, scales, tables, lists, other spaces. -/
def State.moreLines (s : State) (core : Nat) (t : Tab) (c : Core) (w : StepWord) : List (Opnd × Nat) × List (Opnd × Nat) :=
  let off := tileOffset c w
  let lut (b : BDesc) : List (Opnd × Nat) := if b.act = 2 then [(sbOpnd (b.lutaddr * 4), 4)] else []
  match stepKind w with
  | 2 =>
    let d := parseADesc ((s.descriptor core t (sfld w 4 14 0)).getD [])
    if d.op = 1 then ([(sbOpnd d.waddr, 8)], [])
    else
      let f := ((wtFmt d.wtfmt).map Fmt.width).getD 8
      let blocks := (d.n + 63) / 64 * ((d.k + 31) / 32)
      let n := if d.rowForm then d.k * (d.wpitch / 64) else blocks * ((2048 * f + 511) / 512)
      ([(sbOpnd d.waddr, n), (sbOpnd d.scaleaddr, 64)] ++ lut (parseBDesc ((s.descriptor core t d.bdesc).getD [])), [])
  | 3 =>
    let o := moveSrc c w
    let p := moveDst c w
    ((if o.space < 2 then [] else [(o, sfld w 0x10 23 0)]), (if p.space < 2 then [] else [(p, sfld w 0x10 23 0)]))
  | 4 => (lut (parseBDesc ((s.descriptor core t (sfld w 4 14 0)).getD [])), [])
  | 8 =>
    let a := sfld w 8 20 0 / 16
    (match sfld w 4 1 0 with
      | 1 => [(sramOpnd a, 1)]
      | 2 => [(sbOpnd a, 1)]
      | _ => [], [])
  | 9 =>
    ((if sfld w 4 1 1 = 1 then [(sbOpnd (sfld w 0x10 16 0 + off), (sfld w 0x14 15 0 + 15) / 16)] else []) ++
      (if sfld w 4 0 0 = 1 then [(sbOpnd (sfld w 0xC 16 0 + off), sfld w 0x14 15 0)] else []), [])
  | _ => ([], [])

/-- Lines [lo, hi) of a place that a step reaches. -/
structure Access where
  key : Nat
  lo : Nat
  hi : Nat
  run : Nat
  wr : Bool
  core : Nat
  step : Nat
  deriving DecidableEq, Repr

/-- The part of an operand that lies in the buffer that contains its first line. -/
def reachOf (core : Nat) (t : Tab) (w : StepWord) (wr : Bool) (e : Opnd × Nat) : List Access :=
  match (t.bufOf e.1).bind fun i => t.bufs[i]? with
  | some b =>
    [⟨b.key core, e.1.line, min (e.1.line + e.2) (b.base + b.length), stepRun w, wr, core, stepNo w⟩]
  | none => []

/-- What a run-end MARK reads of the buffer that its publication descriptor names (11 R329). -/
def State.publishReads (s : State) (core : Nat) (t : Tab) (w : StepWord) : List Access :=
  if stepKind w = 12 ∧ sfld w 4 17 16 = 2 ∧ sfld w 4 15 0 ≠ 0xFFFF then
    let d := parsePDesc ((s.descriptor core t (sfld w 4 15 0)).getD [])
    match t.bufs[d.bufidx]?, outFmt d.outfmt with
    | some b, some f =>
      [⟨b.key core, b.base + d.line, b.base + d.line + (packedLen f d.count + 63) / 64, stepRun w, false, core, stepNo w⟩]
    | _, _ => []
  else []

/-- Every access of a tab, at every value of its tile registers. The descriptor section of the image stands in `s`. -/
def State.accessesOf (s : State) (p : Programme) (x : TabImage) : List Access :=
  x.tab.steps.zipIdx.flatMap fun e =>
    let values := if stepStride e.1 = 0 then [65535] else p.tileValues x.core x.tab e.2 (stepTreg e.1)
    values.flatMap fun v =>
      let c : Core := { tiles := [v, v, v, v] }
      let a := s.stepLines x.core x.tab c e.1
      let b := s.moreLines x.core x.tab c e.1
      (a.1 ++ b.1).flatMap (reachOf x.core x.tab e.1 false) ++ (a.2 ++ b.2).flatMap (reachOf x.core x.tab e.1 true) ++
        s.publishReads x.core x.tab e.1

/-- A buffer that a run writes is accessed by that run alone; frames are read by every run. -/
def bufferShared (l : List Access) (key base top : Nat) : Option Access :=
  let here := l.filter fun a => a.key == key && a.lo < top && base < a.hi
  match here.find? (·.wr) with
  | some a => if key ≥ 2 ^ 24 then none else here.find? fun x => x.run != a.run
  | none => none

/-! ### Planned times (Tables 05-15 and 05-18) in quarters of a nanosecond at the slow corner -/

/-- The slot of a line on a path that has a side in a space. -/
def slotTime (core space unit : Nat) : Nat :=
  match space with
  | 0 | 1 => 5
  | 3 => 20
  | 4 | 5 => if unit % 256 / 64 = core / 64 then 10 else 20
  | 6 => 24
  | _ => 20

/-- The planned time of a step, 0 for a kind that R478 does not check. -/
def State.plannedTime (s : State) (core : Nat) (t : Tab) (w : StepWord) : Nat :=
  match stepKind w with
  | 1 => sfld w 4 16 8 * ((inFmt (sfld w 4 4 2)).elim 8 Fmt.width) * 96
  | 2 =>
    let d := parseADesc ((s.descriptor core t (sfld w 4 14 0)).getD [])
    let n := if d.op = 0 then arrayCycles d.wtfmt d.infmt d.k d.n d.v
      else d.v * ((d.k + 31) / 32 * 2 + (d.k + 7) / 8 + 12)
    (n + 520) * 5
  | 3 => sfld w 0x10 23 0 * max (slotTime core (sfld w 4 2 0) (sfld w 4 18 6)) (slotTime core (sfld w 4 5 3) (sfld w 4 18 6))
  | 4 =>
    let d := parseBDesc ((s.descriptor core t (sfld w 4 14 0)).getD [])
    let shape := if sfld w 4 18 17 = 0 then t.bankShape (sfld w 4 16 15) (stepNo w) else (0, sfld w 0x14 18 9, sfld w 0x14 8 0)
    ((shape.2.1 * shape.2.2 + 15) / 16 + (if d.act = 2 then 64 else 0)) * 5
  | 9 => sfld w 0x14 15 0 * 20
  | 10 => 90
  | _ => 0

/-! ### The checks, each with the rule that states it -/

/-- A violation of rule `r` when `ok` is false. -/
def must (r core step : Nat) (ok : Bool) : List Rejection := if ok then [] else [⟨r, core, step⟩]

/-- The checks on one tab image by itself. -/
def State.tabFaults (s : State) (p : Programme) (bytes : Bytes) (unit progid : Nat) (x : TabImage) : List Rejection :=
  let c := x.core
  let t := x.tab
  let n := t.steps.length
  must 131 c 0 (tabHeaderOk bytes unit progid && s.coreActive c) ++
  must 131 c 0 ((List.range t.bufs.length).all (bufReservedOk bytes) && bufsDisjoint t.bufs) ++
  must 131 c 0 (t.bufs.all fun b => s.bufFits p b && descClear p c b) ++
  (t.steps.zipIdx.flatMap fun e =>
    let w := e.1
    must 131 c e.2 (stepOk n e.2 w) ++ must 150 c e.2 (stepVaries w == variesRequired t w) ++
    (match stepKind w with
      | 1 =>
        let u := sfld w 0x10 20 11
        let bank := sfld w 0xC 17 16
        let mode := sfld w 0xC 15 14
        must 125 c e.2 (!(sfld w 0x10 9 9 == 1 && sfld w 0x10 10 10 == 1) || (s.coreActive (u / 4) && u / 32 != c / 8)) ++
        must 139 c e.2 (mode != 1 || t.bankShape bank e.2 == (sfld w 8 19 10, sfld w 8 29 20, sfld w 4 16 8))
      | 2 => must 125 c e.2 (sfld w 4 21 21 == 0 || (s.clusterActive (sfld w 4 26 22) && sfld w 4 26 22 != c / 8))
      | 4 => must 139 c e.2 (sfld w 4 18 17 != 0 || (t.bankShape (sfld w 4 16 15) e.2).2.1 != 0)
      | 8 => must 131 c e.2 (sfld w 4 31 16 * sfld w 4 15 8 ≤ 65535)
      | 11 => must 284 c e.2 (sfld w 4 1 0 != 0 || 30 ≤ sfld w 8 15 0)
      | _ => []) ++
    must 478 c e.2 (s.plannedTime c t w ≤ s.setting 0x7100 1 50 * 1000000)) ++
  -- R154 and R284: with PERIOD at most 7 a slot is live in every 8 consecutive ordinals
  (let named (slot i : Nat) := t.steps.any fun w => stepKind w == 11 && sfld w 4 1 0 == slot && bit (sfld w 4 6 2) i
   must 154 c 0 ((List.range 5).all (named 1)) ++
   must 154 c 0 (t.steps.any fun w => stepKind w == 11 && sfld w 4 1 0 == 0) ++
   must 284 c 0 ((List.range 5).all (named 0)))

/-- The number of SIGNAL steps from a core to a core on a channel for a run equals that of the WAIT steps (R131). -/
def syncFaults (dev : Nat) (p : Programme) : List Rejection :=
  let sends := p.tabs.flatMap fun x => (x.tab.steps.filter fun w => stepKind w == 6 && sfld w 4 13 13 == 0).map fun w =>
    (coreCode dev x.core, sfld w 4 12 0, sfld w 4 17 14, stepRun w)
  let waits := p.tabs.flatMap fun x => (x.tab.steps.filter fun w => stepKind w == 7 && sfld w 4 13 13 == 0).map fun w =>
    (sfld w 4 12 0, coreCode dev x.core, sfld w 4 17 14, stepRun w)
  let mine (u : Nat) := u / 256 == dev
  ((sends ++ waits).filter fun e => mine e.1 && mine e.2.1).flatMap fun e =>
    must 131 (e.1 % 256) 0 ((sends.filter (· == e)).length == (waits.filter (· == e)).length)

/-- An order table entry list: exactly LIMIT entries, none 65,535, no two equal. -/
def orderOk (limit : Nat) (l : List Nat) : Bool := l.length == limit && !l.contains 65535 && decide l.Nodup

/-- R167: TAKE steps, takers' CLOSEID MARKs, and order tables. -/
def counterFaults (p : Programme) (acc : List Access) : List Rejection :=
  (p.tabs.flatMap fun x => x.tab.steps.zipIdx.flatMap fun e =>
    if stepKind e.1 = 5 then
      let k := sfld e.1 4 3 0
      let en := ((tget0 [] p.counters (x.core / 8)).getD k 0#128).toNat
      must 167 x.core e.2 (ceLimit en != 0 && bit (ceTakers en) (x.core % 8) && ceRun en == stepRun e.1)
    else []) ++
  (p.counters.flatMap fun ce => (List.range 16).flatMap fun k =>
    let en := (ce.2.getD k 0#128).toNat
    if ceLimit en = 0 then []
    else
      let order := tget0 [] p.orders (ce.1 * 16 + k)
      let lines := (ceLimit en * 2 + 63) / 64
      must 167 (ce.1 * 8) 0 (!ceMap en || orderOk (ceLimit en) order) ++
      must 167 (ce.1 * 8) 0 (!ceMap en || !(p.tabs.any fun x => x.tab.bufs.any fun b =>
        b.key x.core == 2 ^ 20 + ce.1 && b.base < ceMapAddr en + lines && ceMapAddr en < b.base + b.length &&
          acc.any fun a => a.wr && a.key == b.key x.core && a.lo < b.base + b.length && b.base < a.hi)) ++
      ((listOf 8 (ceTakers en)).flatMap fun c =>
        match p.tabs.find? fun x => x.core == ce.1 * 8 + c with
        | some x =>
          let marks := x.tab.steps.zipIdx.filter fun e => stepKind e.1 == 12 && sfld e.1 4 17 16 == 0 &&
            sfld e.1 4 15 0 == ceCloseId en && stepRun e.1 == ceRun en
          let takes := x.tab.steps.zipIdx.filter fun e => stepKind e.1 == 5 && sfld e.1 4 3 0 == k
          must 167 x.core 0 (marks.length == 1 && takes.all fun t => marks.all fun m => t.2 < m.2)
        | none => must 167 (ce.1 * 8 + c) 0 false))

/-- R328: publication descriptors. -/
def publicationFaults (p : Programme) : List Rejection :=
  let marks := p.tabs.flatMap fun x => (x.tab.steps.filter fun w => stepKind w == 12 && sfld w 4 17 16 == 2 &&
    sfld w 4 15 0 != 0xFFFF).map fun w => (x, w)
  let descOf (e : TabImage × StepWord) : Option PDesc :=
    let a := sfld e.2 4 15 0
    if e.1.tab.descbase ≤ a ∧ a < e.1.tab.descbase + e.1.tab.desclen then
      some (parsePDesc (slice e.1.desc ((a - e.1.tab.descbase) * 32) 32))
    else none
  let names := marks.filterMap fun e => (descOf e).map fun d => (stepRun e.2, d.tensor)
  (marks.flatMap fun e => must 328 e.1.core (stepNo e.2) (match descOf e with
    | none => false
    | some d =>
      !d.rsvd && 1 ≤ d.count && 1 ≤ d.epl && (match outFmt d.outfmt, e.1.tab.bufs[d.bufidx]? with
        | some f, some b => d.line * 64 + packedLen f d.count ≤ b.length * 64
        | _, _ => false))) ++
  must 328 0 0 (decide names.Nodup)

/-- A programme consumes a camera stream: a MOVE reads space 7 (R319). -/
def Programme.camera (p : Programme) : Bool := p.tabs.any fun x => x.tab.steps.any fun w => stepKind w == 3 && sfld w 4 2 0 == 7

/-- Whether periodic batch source is in force or armed (R321, R324). -/
def State.periodicSource (s : State) : Bool :=
  let src (l : List (Nat × Bytes)) := ((l.find? fun e => e.1 == 0x3000 * 256 + 6).map fun e => leNat e.2).getD 0
  src s.walk.intakeCfg == 1 ||
    ((s.walk.intake.state == 1 || (s.walk.intake.state == 2 && s.dev.bOpen.elim true (· < s.walk.intake.bstar))) &&
      src s.walk.intake.staged == 1)

/-- The state with the descriptor section of every tab in its core's SRAM, to read descriptors by; the load itself writes none. -/
def State.withDescriptors (s : State) (p : Programme) : State :=
  p.tabs.foldl (fun t x => t.store (.sram x.core) (x.tab.descbase * 32) x.desc) s

/-- Every violation of the load checks. `images`: each tab image's bytes and the unit of its entry. -/
def State.loadFaults (s0 : State) (progid : Nat) (images : List (Bytes × Nat)) (p : Programme) : List Rejection :=
  let s := s0.withDescriptors p
  let acc := p.tabs.flatMap (s.accessesOf p)
  ((images.zip p.tabs).flatMap fun e => s.tabFaults p e.1.1 e.1.2 progid e.2) ++
  must 131 0 0 (decide (p.tabs.map (·.core)).Nodup) ++
  (acc.flatMap fun a => must 131 a.core a.step (!(a.wr && (a.key == 2 ^ 21 + 1 || a.key ≥ 2 ^ 24)))) ++
  (p.tabs.flatMap fun x => x.tab.bufs.flatMap fun b =>
    match bufferShared acc (b.key x.core) b.base (b.base + b.length) with
    | some a => [⟨131, a.core, a.step⟩]
    | none => []) ++
  syncFaults s0.group.devno p ++ counterFaults p acc ++ publicationFaults p ++ must 321 0 0 (!(p.camera && s0.periodicSource))

/-! ### Counter tables (Table 06-5) -/

/-- The 16 entries of a counter table object. -/
def parseCounters (b : Bytes) : List (BitVec 128) := (List.range 16).map fun k => BitVec.ofNat 128 (num b (16 * k) 16)

/-- Bytes of order table k in a counter table object: the tables follow the entries in counter order (log 23). -/
def orderBytes (e : BitVec 128) : Nat := if ceMap e.toNat then 2 * ceLimit e.toNat else 0

/-- Order tables of a counter table object, by counter. -/
def parseOrders (b : Bytes) : List (Nat × List Nat) :=
  let es := parseCounters b
  (List.range 16).filterMap fun k =>
    let e := es.getD k 0#128
    let off := 256 + ((es.take k).map orderBytes).sum
    if ceMap e.toNat then
      some (k, ((List.range (ceLimit e.toNat)).filter fun i => off + 2 * i + 2 ≤ b.length).map fun i => num b (off + 2 * i) 2)
    else none

/-- The reserved fields of a counter table entry. -/
def counterReservedOk (e : BitVec 128) : Bool :=
  let n := e.toNat
  bits n 31 18 == 0 && bits n 63 49 == 0 && bits n 95 75 == 0 && bits n 127 112 == 0 && ceLimit n ≤ 4096

/-! ### Shards (Table 07-3, R185) -/

/-- m_f of a fret of a shard's bitmap, recomputed under R48: the most cells in one data, sum or index column of the fret. -/
def fretOnesOf (o : Bytes) (f : Nat) : Nat :=
  let rows := (List.range 64).map fun i => shardRow o (64 * f + i)
  ((List.range 532).map fun c => colCount rows c).foldl max 0

/-- The scale table conforms to R86. -/
def scalesOk (fmt : Nat) (b : Bytes) : Bool :=
  let used := 512 / ((wtFmt fmt).elim 8 Fmt.width)
  (List.range 512).all fun j =>
    let q := num b (8 * j) 4
    1 ≤ q && q < 256 && (j < used || (q == 1 && num b (8 * j + 4) 4 == 0))

/-- The checks of R185 on a shard by itself: its header against its entry, sums, references, FRETONES, BMDIGEST and scales. -/
def shardOk (progid unit leng : Nat) (o : Bytes) : Bool :=
  let w3 := num o 0xC 4
  o.length == 73856 && num o 0 4 == 0x4B575348 && num o 4 4 == 1 && num o 8 4 == progid && bits w3 12 0 == unit &&
    bits w3 14 13 == leng && (wtFmt (bits w3 17 15)).isSome && bits w3 31 18 == 0 && num o 0x30 16 == 0 && num o 0x50 48 == 0 &&
    ((List.range 1024).all fun r => shardRow o r == fullRow r (shardRow o r % 2 ^ 512)) &&
    ((List.range 16).all fun f => (o.getD (0x40 + f) 0#8).toNat == fretOnesOf o f) &&
    shardDigest o == digest32 (slice o 0x80 69632) && scalesOk (shardFmt o) (shardScales o)

/-- The checks of R185 on a shard against its core's tab image. -/
def shardFitsTab (leng : Nat) (o : Bytes) (x : TabImage) : Bool :=
  (x.tab.steps.all fun w => !(stepKind w == 1 && sfld w 4 1 0 == leng) || sfld w 4 7 5 == shardFmt o) &&
    slice o 0x40 16 == slice x.fretOnes (16 * leng) 16

end Sys2Proof.Machine
end

