-- ==== Sys2Proof/Machine/Reply.lean ====
section
/-!
DEFINITION. What a write does, seen from its answer: the state after it, the status and the data of the response
(13_malrov_dictionary.md R403, Tables 13-6 and 13-7).
-/

namespace Sys2Proof.Machine

/-- The outcome of a request: the state after it, and its response. `wait`: the answer is registered to wait for something
else, such as the append of a kept value (R393). -/
structure Reply where
  s : State
  status : Nat := 0
  data : Bytes := []
  wait : Bool := false
  deriving DecidableEq, Repr

/-- Status OK. -/
def Reply.ok (s : State) : Reply := { s := s }

/-- A status of Table 13-6 that carries no data; nothing changes. -/
def Reply.deny (code : Nat) (s : State) : Reply := { s := s, status := code }

/-- REFUSED with a reason and a condition code. -/
def Reply.refused (reason cond : Nat) (s : State) : Reply :=
  { s := s, status := 8, data := [BitVec.ofNat 8 reason, BitVec.ofNat 8 cond] }

/-- Statuses by name. -/
def stNoObject : Nat := 1
def stNoSub : Nat := 2
def stAccess : Nat := 3
def stSession : Nat := 4
def stRole : Nat := 5
def stLength : Nat := 6
def stRange : Nat := 7
def stSegmented : Nat := 9
def stTransfer : Nat := 0xA
def stBusy : Nat := 0xB
def stSeq : Nat := 0xC
def stAuth : Nat := 0xD
def stLocked : Nat := 0xE
def stUnavailable : Nat := 0xF
def stBadOp : Nat := 0x10

/-! ### Responses on the wire (R388, R389, R401) -/

/-- A response; inside a session its data are encrypted and tagged under the session key and the nonce of R401 for a response, with its
header as the additional data. -/
def response (key : Bytes) (ep : Nat) (dest : ReplyTo) (op tid idx sub status sid seq : Nat) (last : Bool) (offset : Nat) (data : Bytes) : Tx :=
  let nonce := leBytes 1 sid ++ [1#8] ++ zeros 6 ++ leBytes 4 seq
  if sid = 0 then .response ep dest op tid idx sub status sid seq last offset data []
  else .response ep dest op tid idx sub status sid seq last offset (gcmXor key nonce data)
    (gcmTagOf 16 key nonce (pduHeader op tid idx sub status data.length sid last seq offset) data)

/-- An open session. -/
def State.session? (s : State) (sid : Nat) : Option Session := s.dict.sessions.find? fun x => x.sid == sid

/-- The key of a session, empty when it is not open. -/
def State.sessionKey (s : State) (sid : Nat) : Bytes := ((s.session? sid).map (·.key)).getD []

/-- A response as REFUSED with a reason and a condition code. -/
def State.asRefused (s : State) (reason cond : Nat) : Tx → Tx
  | .response ep dest op tid idx sub _ sid seq _ _ _ _ =>
    response (s.sessionKey sid) ep dest op tid idx sub 8 sid seq false 0 [BitVec.ofNat 8 reason, BitVec.ofNat 8 cond]
  | t => t

/-- A waiting answer becomes a refusal, and may leave. -/
def State.refuseAnswer (no reason cond : Nat) (s : State) : State :=
  let old := (s.dict.outbox.filter fun a => a.no == no).map (·.tx)
  let again (t : Tx) : Tx := if old.contains t then s.asRefused reason cond t else t
  (s.onDict fun d =>
    { d with
      outbox := d.outbox.map fun a => (if a.no = no then { a with tx := s.asRefused reason cond a.tx } else a)
      sessions := d.sessions.map fun x => { x with stored := x.stored.map again } }).release no

/-- b_open as a number that B* can be compared with; none before the first batch, which counts as -1 (log 24). -/
def State.openOrd (s : State) : Int := match s.dev.bOpen with
  | some b => b
  | none => -1

/-- B* ≥ b_open + 4 (R197, R281, R324). -/
def State.bstarOk (s : State) (b : Nat) : Bool := decide ((b : Int) ≥ s.openOrd + 4)

/-! ### Group-wide changes on the leader (12_exham_group.md R376) -/

/-- The leader asks every member for a change: an ARM message; `answer`: the answer that waits for them. -/
def State.askMembers (kind b : Nat) (answer : Option Nat) (s : State) : State :=
  (s.onGroup fun g =>
    { g with armed := (g.armed.filter fun a => a.kind != kind) ++ [⟨kind, b, s.dev.modeEpoch + 1, answer, [s.group.devno]⟩] }).groupMsg
      0x26 255 [kind, b, s.dev.modeEpoch + 1, 0] []

/-- The armed change of a kind. -/
def State.armOf (s : State) (kind : Nat) : Option GroupArm := s.group.armed.find? fun a => a.kind == kind

/-- Every present member has accepted the change of a kind. -/
def State.allAccepted (s : State) (kind : Nat) : Bool := match s.armOf kind with
  | some a => s.group.members.all a.acks.contains
  | none => false

/-- The leader's change of a kind is withdrawn: an answer that still waits for the members is sent. -/
def State.disarmGroup (kind : Nat) (s : State) : State :=
  match s.armOf kind with
  | some a => (match a.answer with
    | some n => s.release n
    | none => s).onGroup fun g => { g with armed := g.armed.map fun (x : GroupArm) => (if x.kind = kind then { x with answer := none } else x) }
  | none => s

end Sys2Proof.Machine
end

