-- ==== Sys2Proof/Machine/Capo.lean ====
section
/-!
DEFINITION. Weight images and the capo: manifests, the fetch and verification of objects, program-and-verify, seals, scans and
wear, and the arm, commit, fence and release of a switch (07_weight_courses.md R179 to R217; 05_tablature.md R132, R133;
14_boot_and_trust.md R412).
-/

namespace Sys2Proof.Machine

/-! ### Image bookkeeping -/

/-- The side that the capo does not select. -/
def State.freeSide (s : State) : Nat := 1 - s.capo.side

/-- Key of an object of a side. -/
def objKey (side entry : Nat) : Nat := side * 8192 + entry

/-- A verified object of a side, from DRAM. -/
def State.object? (s : State) (side entry : Nat) : Option Bytes :=
  (s.capo.objects.find? fun e => e.1 == objKey side entry).map (·.2)

/-- SHAKE256 of the drone plane pattern's bitmap. -/
def dronePlaneDigest : Bytes := digest32 (mread planeDefault [] 0 69632)

/-- Record 0x13 with a reason of Table 07-9 (R510). -/
def State.reject13 (reason : Nat) (digest : Bytes) (unit2 : Option UnitId) (s : State) : State :=
  s.record
    { kind := 0x13, severity := 1, unit := .pair 0, unit2 := unit2, reactions := [13]
      detail := (if digest.isEmpty then [] else [(8, Detail.bytes digest)]) ++ [(10, .num reason)] }

/-- KEYID of an image key slot: the first 8 bytes of SHAKE256 over both public keys (14_boot_and_trust.md). -/
def keyId (slot : Bytes) : Bytes := (digest32 (slice slot 0 1984)).take 8

/-- The active image key that a manifest names. -/
def State.imageKey? (s : State) (id : Bytes) : Option Nat :=
  (s.flash.imageKeys.find? fun e => e.2.getD 1984 0#8 == 1#8 && keyId e.2 == id).map (·.1)

/-! ### Plane contents -/

/-- The scale-table bank of a plane, from a shard, or QC 1 and BIAS 0 (03 R87). -/
def State.loadScales (plane : Nat) (o : Option Bytes) (s : State) : State :=
  let b := match o with
    | some x => shardScales x
    | none => (List.range 4096).map scaleDefault
  s.onMem fun m => { m with scales := mwrite scaleDefault (plane * 4096) b m.scales }

/-- The cells of a plane hold a shard's bitmap, or the drone plane pattern. -/
def State.loadCells (plane : Nat) (o : Option Bytes) (s : State) : State :=
  let b := match o with
    | some x => slice x 0x80 69632
    | none => mread planeDefault [] 0 69632
  s.onMem fun m => { m with planes := mwrite planeDefault (plane * 2 ^ 17) b m.planes }

/-- A plane needs a write (R190). What a write in progress had pulsed counts first; at the endurance limit the plane is never written
again, and its site is ordered out (R212). The shard comes from DRAM, or is fetched. -/
def State.writePlane (plane : Nat) (want : Bytes) (key fmt cls : Nat) (s : State) : State :=
  let s1 := s.dropWrite plane
  if (s1.plane plane).endurance = 2 then
    (s1.onPlane plane fun p => { p with isSealed := false }).retireSite (plane / 2) (s1.dev.bOpen.getD 0)
  else (s1.startWrite plane want key fmt cls).awaitShard plane

/-- A staging or repair write: the plane's scale bank follows its shard (03 R87). -/
def State.beginWrite (plane : Nat) (want : Bytes) (key fmt cls : Nat) (s : State) : State :=
  let s1 := (s.writePlane plane want key fmt cls).onPlane plane fun p => { p with tries := 0 }
  if want.isEmpty then s1.loadScales plane none
  else
    match s1.keyShard (plane % 2) key want with
    | some o => s1.loadScales plane (some o)
    | none => s1

/-- A refresh writes the shard that the plane holds, and keeps the seal (R213). -/
def State.beginRefresh (plane : Nat) (s : State) : State :=
  let p := s.plane plane
  if p.cls ≠ 0 ∨ p.shard.isEmpty then s
  else
    let s1 := s.writePlane plane p.shard p.shardKey p.wtfmt 3
    if (s1.plane plane).cls = 3 then s1.onPlane plane fun x => { x with isSealed := p.isSealed, tries := 0 } else s1

/-! ### Capo state changes -/

/-- A plane of the new side lost its seal while a switch is armed (R199, R376): a member tells the leader. -/
def State.sealGone (plane : Nat) (s : State) : State :=
  let s1 := s.onPlane plane fun p => { p with isSealed := false }
  if s.capo.state = .armed ∧ plane % 2 = s.freeSide then
    if s.notLeader then s1.groupMsg 0x28 s.group.leader [plane / 2] [] else s1.onGroup fun g => { g with sealLost := s.inGroup }
  else s1

/-- Remove the seals of a side's planes. -/
def State.unseal (side : Nat) (s : State) : State :=
  s.activeSites.foldl (fun t n =>
    if (t.plane (2 * n + side)).isSealed then t.onPlane (2 * n + side) fun p => { p with isSealed := false } else t) s

/-- What a side holds beside its planes is given up when another image begins to take its place there: objects, tabs, counters, order
tables (log 78). -/
def State.clearSide (side : Nat) (s : State) : State :=
  (s.onCapo fun c => { c with objects := c.objects.filter fun e => e.1 / 8192 != side, programOk := false, programBad := false }).onMem fun m =>
    { m with tabs := m.tabs.filter (fun e => e.1 % 2 != side)
             counters := m.counters.filter (fun e => e.1 % 2 != side)
             orders := m.orders.filter (fun e => e.1 / 16 % 2 != side) }

/-- An entry before its object is fetched. -/
def Entry.fresh (e : Entry) : Entry := { e with verified := false, source := none, asked := none, tried := [], round := 0 }

/-- The staged image's entry. -/
def State.entry? (s : State) (n : Nat) : Option (Image × Entry) :=
  match s.capo.staged with
  | some i => (i.entries[n]?).map fun e => (i, e)
  | none => none

/-- Ask the source whose turn it is for a staged entry that is not here (R187). -/
def State.askFor (n : Nat) (s : State) : State :=
  match s.entry? n with
  | some (_, e) => if ¬ e.verified ∧ e.source.isNone then s.askAt s.freeSide n else s
  | none => s

/-- Staging of an image begins on the free side (R203, R204, R214): planes that are sealed and whose shard's object digest is
unchanged keep their seal under their new entry; the others lose it when they are written. -/
def State.beginStaging (img : Image) (mirror : Bool) (s : State) : State :=
  let side := s.freeSide
  let old := (s.capo.staged.map (·.entries)).getD []
  let fresh := { img with entries := img.entries.map Entry.fresh }
  let s1 := s.activeSites.foldl (fun t n =>
    let pl := 2 * n + side
    let p := t.plane pl
    if p.isSealed then
      let kept := match old[p.shardKey - 1]? with
        | some o => img.entries.findIdx? fun e => e.kind == 1 && e.unit == o.unit && e.leng == o.leng && e.digest == o.digest
        | none => none
      match kept with
      | some k => t.onPlane pl fun x => { x with shardKey := k + 1, wantKey := if x.cls = 0 then x.wantKey else k + 1 }
      | none => (t.dropWrite pl).onPlane pl fun x => { x with isSealed := false }
    else t.dropWrite pl) s
  let s2 := (s1.clearSide side).onCapo fun c =>
    { c with state := .staging, staged := some fresh, mirror := mirror, corrupt := [], excluded := [], refresh := false }
  (List.range img.entries.length).foldl (fun t n => t.askFor n) s2

/-- The capo becomes IDLE; the free side's objects stay in DRAM (R186). A mirror of the selected image begins when 2230.04 asks for it
(R214). -/
def State.becomeIdle (s : State) : State :=
  let s1 := s.onCapo fun c =>
    { c with state := .idle, staged := none, former := none, mirror := false, refresh := false, bstar := ord48, armDone := false
             programOk := false, programBad := false }
  match s.capo.selected with
  | some i => if s.setting 0x2230 4 1 = 1 ∧ (s.imageKey? i.keyid).isSome then (s1.onCapo fun c => { c with stagedRaw := c.selectedRaw }).beginStaging i true else s1
  | none => s1

/-! ### Arm conditions (R197) -/

/-- The shards of the staged image: entry number, core and logical engine. -/
def State.stagedShards (s : State) : List (Nat × Nat × Nat) :=
  match s.capo.staged with
  | some i => i.entries.zipIdx.filterMap fun e => if e.1.kind = 1 then some (e.2, e.1.unit % 256, e.1.leng) else none
  | none => []

/-- The plane that carries a logical engine on the free side is sealed with its shard. A lost engine has no plane; a site in
COPYING, whose failing site holds the sealed plane, counts as sealed (R199). -/
def State.shardSealed (s : State) (entry core leng : Nat) : Bool :=
  match s.siteOf core leng, s.object? s.freeSide entry with
  | some n, some o =>
    let p := s.plane (2 * n + s.freeSide)
    p.isSealed && p.shard == shardDigest o
  | none, some _ => true
  | _, none => false

def State.allSealed (s : State) : Bool := s.stagedShards.all fun e => s.shardSealed e.1 e.2.1 e.2.2

/-- Site 4 of a core is COPYING for a site that carries a shard of the staged image (R199): a commit to B* waits for order 6 (02 R70). -/
def State.copyPending (s : State) (core : Nat) : Bool :=
  let x4 := s.site (core * 5 + 4)
  x4.state == .copying && x4.copyFor.any fun f => s.stagedShards.any fun e => e.2.1 == core && s.siteOf core e.2.2 == some (core * 5 + f)

/-- Every slower-tier segment of the free side is good in both copies. -/
def State.slowOk (s : State) : Bool := !s.mem.slowBad.any fun e => e.1 / 8192 == s.freeSide

/-- The device holds no programme: it arms and commits under R412, without the limit on B*. -/
def State.noProgramme (s : State) : Bool := s.dev.noImage || s.capo.selected.isNone

/-- The failed condition of an ARM, by its code of Table 13-7. -/
def State.armFault (s : State) (b : Nat) : Option Nat :=
  if s.capo.state ≠ .staged then some 1
  else if !s.noProgramme && !s.bstarOk b then some 2
  else if !s.allSealed then some 3
  else if !s.capo.programOk then some 4
  else if !s.slowOk || (s.capo.staged.any fun i => i.entries.any fun e => !e.verified) then some 5
  else if s.periodicSource && (s.tabsOf s.freeSide).any fun e => e.2.steps.any fun w => stepKind w == 3 && sfld w 4 2 0 == 7 then some 7
  else none

/-- Cores that take part: those with a tab on either side. -/
def State.tabCores (s : State) : List Nat :=
  s.activeCores.filter fun c => (s.tab? c 0).isSome || (s.tab? c 1).isSome

/-- The capo registers of every core (R196). -/
def State.setCapoRegs (new b : Nat) (s : State) : State :=
  s.activeCores.foldl (fun t c => t.onCore c fun x => { x with sideNew := new, bstar := b, acked := false }) s

/-! ### Loading a side into the cores and units -/

/-- The bytes of block `k` of a step array (05 R155). -/
def Tab.blockBytes (t : Tab) (k : Nat) : Bytes := ((t.steps.drop (256 * k)).take 256).flatMap fun w => leBytes 32 w.toNat

/-- Byte address of block `k` of the soundboard copy (05 Table 05-1). -/
def Tab.blockAt (t : Tab) (k : Nat) : Nat := t.tabcache * 64 + k * 8192

/-- Blocks of a step array. -/
def Tab.blocks (t : Tab) : Nat := (t.steps.length + 255) / 256

/-- A tab that the tab buffer holds whole (05 R155). -/
def Tab.resident (t : Tab) : Bool := decide (t.steps.length ≤ 2048)

/-- The soundboard copy of a step array is placed with its side (log 78). -/
def State.placeTabCopy (core : Nat) (t : Tab) (s : State) : State :=
  if t.tcen then
    (List.range t.blocks).foldl (fun u k => u.storeLines (.sb (core / 8)) (t.blockAt k) (t.blockBytes k) false) s
  else s

/-- Copy a side's descriptor sections to SRAM, its order tables and step array copies to the soundboards, load the step arrays that fit into
the tab buffers, and select it on the cores (R133). -/
def State.enterSide (side epoch : Nat) (s0 : State) : State :=
  let s := (s0.tabsOf side).foldl (fun t e => t.placeTabCopy e.1 e.2) s0
  let imgs := s.capo.objects.filter fun e => e.1 / 8192 == side && num e.2 0 4 == 0x4B544142
  let s1 := imgs.foldl (fun t e =>
    let x := parseTabImage e.2
    t.storeLines (.sram x.core) (x.tab.descbase * 32) x.desc false) s
  let s2 := s1.mem.orders.foldl (fun t o =>
    let k := o.1 / 16
    if k % 2 = side then
      let e := t.counterEntry (k / 2) side (o.1 % 16)
      t.storeLines (.sb (k / 2)) (ceMapAddr e * 64) (o.2.flatMap (leBytes 2)) false
    else t) s1
  s2.activeCores.foldl (fun t c =>
    t.onCore c fun x =>
      { x with side := side, fenced := true, epoch := epoch, epochNext := [], refetch := false
               ring := (s.tab? c side).elim [] fun y => if y.resident then List.range y.blocks else []
               seq := if (s.tab? c side).isSome then .idle else .unloaded }) s2

/-- The side of a programme that has passed its checks is loaded (R132, R167, R87): tabs, counter tables, fret-ones banks, and
the scale banks of logical engines without a shard. -/
def State.installSide (side : Nat) (p : Programme) (shards : List (Nat × Nat)) (s : State) : State :=
  let s1 := s.onMem fun m =>
    { m with
      tabs := p.tabs.foldl (fun t x =>
        tput (fun _ => (⟨0, 0, false, 0, 0, 0, [], 0, false, [], []⟩ : Tab)) (x.core * 2 + side) x.tab t) m.tabs
      counters := p.counters.foldl (fun t e => tput0 [] (e.1 * 2 + side) e.2 t) m.counters
      orders := p.orders.foldl (fun t e => tput0 [] ((e.1 / 16 * 2 + side) * 16 + e.1 % 16) e.2 t) m.orders }
  p.tabs.foldl (fun t x =>
    (List.range 4).foldl (fun u l =>
      match u.siteOf x.core l with
      | some n =>
        let ones := (slice x.fretOnes (16 * l) 16).map (·.toNat)
        let v := u.onSite n fun y => if side = 0 then { y with fretA := ones } else { y with fretB := ones }
        if shards.contains (x.core, l) then v else v.loadScales (2 * n + side) none
      | none => u) t) s1

/-- Start the write of a shard into the plane that carries its engine on a side. -/
def State.stageShard (side entry core leng cls : Nat) (o : Bytes) (s : State) : State :=
  match s.siteOf core leng with
  | some n =>
    let pl := 2 * n + side
    let p := s.plane pl
    -- a site of an inactive cluster is unpowered: no plane of it is written (00 R2, 01 R20)
    if s.siteActive n = false ∨ (p.isSealed ∧ p.shard = shardDigest o ∧ p.shardKey = entry + 1) ∨ (p.cls ≠ 0 ∧ p.want = shardDigest o) then s
    else s.beginWrite pl (shardDigest o) (entry + 1) (shardFmt o) cls
  | none => s

/-! ### Manifests (R180 to R183) -/

def parseEntry (b : Bytes) : Entry :=
  { kind := bits (num b 0 4) 3 0, unit := bits (num b 0 4) 20 8, leng := bits (num b 0 4) 22 21, offset := num b 4 4
    length := num b 8 4, target := num b 12 4 % 2 ^ 29, digest := slice b 0x10 32, verified := false, tried := [], round := 0 }

/-- Bytes of a manifest with n entries. -/
def manifestLen (n : Nat) : Nat := 128 + 48 * n + 64 + 3309

/-- A manifest as parsed. -/
def parseManifest (b : Bytes) : Image :=
  let n := bits (num b 0x18 4) 13 0
  { progid := num b 8 4, imgseq := num b 0xC 4, digest := digest32 (b.take (manifestLen n)), keyid := slice b 0x20 8
    groupsize := bits (num b 0x10 4) 6 2, devno := bits (num b 0x10 4) 11 7, arrange := num b 0x1C 4, replset := num b 0x14 2
    entries := (List.range n).map fun i => parseEntry (slice b (128 + 48 * i) 48) }

/-- Reserved fields and codes of the header and of the entries. -/
def manifestFieldsOk (b : Bytes) : Bool :=
  let n := bits (num b 0x18 4) 13 0
  num b 0 4 == 0x4B574D46 && num b 4 4 == 1 && bits (num b 0x10 4) 31 12 == 0 && num b 0x16 2 == 0 && bits (num b 0x18 4) 31 14 == 0 &&
    num b 0x48 56 == 0 && 1 ≤ n && n ≤ 8192 && b.length == manifestLen n &&
    (List.range n).all fun i =>
      let e := slice b (128 + 48 * i) 48
      let w := num e 0 4
      let k := bits w 3 0
      1 ≤ k && k ≤ 4 && bits w 7 4 == 0 && bits w 31 23 == 0 && (k == 1 || bits w 22 21 == 0) && bits (num e 12 4) 31 29 == 0 &&
        (k == 2 || num e 12 4 == 0) && (k != 2 || bits w 20 8 == 0) && (k != 4 || bits w 10 8 == 0) &&
        (k != 1 || num e 8 4 == 73856)

/-- Two entries name the same object. -/
def Entry.same (x y : Entry) : Bool :=
  x.kind == y.kind && x.unit == y.unit && x.leng == y.leng && (x.kind != 2 || x.target == y.target)

def entriesDistinct : List Entry → Bool
  | [] => true
  | e :: l => !l.any e.same && entriesDistinct l

/-- The reason of Table 07-9 for which a manifest is rejected, none when it is accepted. The image is addressed by 32-bit
offsets, so an object lies inside it when its last byte does (log 25). -/
def State.manifestFault (b : Bytes) (edOk mlOk : Bool) (s : State) : Option Nat :=
  let m := parseManifest b
  if (s.imageKey? m.keyid).isNone then some 2
  else if !(edOk && mlOk) then some 1
  else if !manifestFieldsOk b then some 3
  else if bits (num b 0x10 4) 1 0 ≠ (if s.dev.gradeB then 2 else 1) then some 4
  else if m.groupsize ≠ arrSize s.group.arrange ∨ m.devno ≠ s.group.devno ∨ m.arrange ≠ s.group.arrange then some 5
  else if m.imgseq < s.setting 0x2210 5 0 then some 6
  else if !entriesDistinct m.entries || m.entries.any fun e => decide (e.offset + e.length > 2 ^ 32) then some 7
  else none

/-- A segment of 2210.01 (R396): bytes are taken as they come, and LAST has the manifest checked. -/
def State.manifestSegment (offset : Nat) (data : Bytes) (last edOk mlOk : Bool) (s : State) : Reply :=
  if s.capo.state = .armed ∨ s.capo.state = .committed ∨ s.capo.state = .releasing then Reply.refused 2 0 s
  else
    let b := s.capo.manifestBuf.take offset ++ data
    let s1 := s.onCapo fun c => { c with manifestBuf := b }
    if last then
      let s2 := s1.onCapo fun c => { c with manifestBuf := [] }
      match s.manifestFault b edOk mlOk with
      | some reason => Reply.refused 7 0 ((s2.onCapo fun c => { c with rejected := true }).reject13 reason [] none)
      | none =>
        -- what was delivered for an earlier manifest is not this image's (log 95)
        Reply.ok ((s2.onCapo fun c => { c with stagedRaw := b, rejected := false, delivery := [], arrived := [] }).beginStaging (parseManifest b) false)
    else if manifestLen 8192 < b.length then Reply.deny stLength (s.onCapo fun c => { c with manifestBuf := [] })
    else Reply.ok s1

/-- Delivered ranges: a new range takes in every range that it meets, whatever the order of the transfers. -/
def addRange (l : List (Nat × Nat)) (off n : Nat) : List (Nat × Nat) :=
  let near (r : Nat × Nat) : Bool := decide (r.1 ≤ off + n) && decide (off ≤ r.1 + r.2)
  let met := l.filter near
  let lo := met.foldl (fun a r => min a r.1) off
  let hi := met.foldl (fun a r => max a (r.1 + r.2)) (off + n)
  (lo, hi - lo) :: l.filter fun r => !near r

/-- A segment of 2210.02: the first 8 bytes of the transfer are the image offset, the rest goes to the DRAM delivery region. -/
def State.imageSegment (offset : Nat) (data : Bytes) (last : Bool) (s : State) : Reply :=
  -- the transfer's image offset stands in the first 8 bytes of `objectHead`
  let head := (s.capo.objectHead.take offset ++ data).take 8
  let s1 := s.onCapo fun c => { c with objectHead := if last then [] else head }
  if head.length < 8 then (if last then Reply.deny stLength s1 else Reply.ok s1)
  else
    let at_ := leNat head + (offset - 8)
    let body := data.drop (8 - offset)
    Reply.ok (if body.isEmpty then s1
      else s1.onCapo fun c =>
        { c with delivery := mwrite (fun _ => 0#8) at_ body c.delivery, arrived := addRange c.arrived at_ body.length })

/-! ### The fetch of objects (R187, R188); sources: 0 the delivery region, 1 + n neighbour n, 25 boot flash (log 25) -/

def State.onEntry (n : Nat) (f : Entry → Entry) (s : State) : State := s.onEntryAt s.freeSide n f

/-- The neighbour of a source code, as the port that leads to it (key 8). -/
def State.neighbourUnit (s : State) (source : Nat) : Option UnitId :=
  if 1 ≤ source ∧ source < 25 then some (.exham (portToward s.group.arrange s.group.devno (source - 1))) else none

/-- A source has failed for an entry of a side's image: the next one is asked; when the second pass is exhausted, the fetch stops with a
record. -/
def State.sourceFailed (side n source : Nat) (s : State) : State :=
  let s1 := (s.onEntryAt side n fun e => { e with tried := insertNew source e.tried, asked := none }).askAt side n
  match s1.entryAt side n with
  | some (_, e) => if e.asked.isNone ∧ e.round = 1 then s1.reject13 0x0B e.digest none else s1
  | none => s1

/-- What a side's image still asks of a neighbour that is excluded goes to the next source (R188). -/
def State.forsake (side source : Nat) (s : State) : State :=
  match s.sideImage side with
  | some i => i.entries.zipIdx.foldl (fun t e => if e.1.asked = some source then t.sourceFailed side e.2 source else t) s
  | none => s

/-- A corrupt object: record 0x13, and a neighbour that has supplied four is excluded (record 0x3E). -/
def State.corruptFrom (side n source reason : Nat) (digest : Bytes) (s : State) : State :=
  let s1 := (s.reject13 reason digest (s.neighbourUnit source)).sourceFailed side n source
  if 1 ≤ source ∧ source < 25 then
    let k := tget0 0 s1.capo.corrupt (source - 1) + 1
    let t := s1.onCapo fun c => { c with corrupt := tput0 0 (source - 1) k c.corrupt }
    if k = 4 then
      (((t.onCapo fun c => { c with excluded := insertNew (source - 1) c.excluded }).record
        { kind := 0x3E, severity := 2, unit := (s.neighbourUnit source).getD .sec }).forsake s.freeSide source).forsake s.capo.side source
    else t
  else s1

/-- The reason of Table 07-9 for which an object of an entry does not verify by itself. -/
def objectFault (i : Image) (e : Entry) (o : Bytes) : Option Nat :=
  if o.length ≠ e.length ∨ digest32 o ≠ e.digest then some 8
  else if e.kind = 1 ∧ !shardOk i.progid e.unit e.leng o then some 9
  else none

/-- The programme of a side's verified objects. -/
def State.programmeOf (s : State) (side : Nat) (i : Image) : Programme :=
  let objs (k : Nat) := i.entries.zipIdx.filterMap fun e =>
    if e.1.kind = k then (s.object? side e.2).map fun o => (e.1, o) else none
  { tabs := (objs 3).map fun e => parseTabImage e.2
    counters := (objs 4).foldl (fun t e => tput0 [] (e.1.unit % 256 / 8) (parseCounters e.2) t) []
    orders := (objs 4).foldl (fun t e =>
      (parseOrders e.2).foldl (fun u x => tput0 [] (e.1.unit % 256 / 8 * 16 + x.1) x.2 u) t) []
    segs := (i.entries.filter fun e => e.kind == 2).map fun e => (e.target, (e.length + 63) / 64) }

/-- The first violation of the load checks of a side's programme, with R167's checks of the counter table objects. -/
def State.programmeFault (s : State) (side : Nat) (i : Image) : Option Rejection :=
  let objs (k : Nat) := i.entries.zipIdx.filterMap fun e =>
    if e.1.kind = k then (s.object? side e.2).map fun o => (o, e.1.unit) else none
  let tables := (objs 4).flatMap fun e =>
    let es := parseCounters e.1
    must 167 (e.2 % 256) 0 (es.all counterReservedOk && e.1.length == 256 + (es.map orderBytes).sum)
  (tables ++ s.loadFaults i.progid (objs 3) (s.programmeOf side i)).head?

/-- Every object is verified and every plane sealed: STAGED, and the auto-arm of 2200.06 (Table 07-6, R197). -/
def State.isStaged (s : State) : Bool :=
  s.capo.state == .staging && s.capo.programOk && s.allSealed && (s.capo.staged.elim false fun i => i.entries.all (·.verified))

/-- An object of the staged image is verified. In a group it is offered to the other members (12 R382). -/
def State.verifyEntry (n : Nat) (s : State) : State :=
  let s1 := s.onEntry n fun x => { x with verified := true, source := none, asked := none }
  match s1.entry? n with
  | some (i, e) => s1.groupMsg 0x30 255 [i.progid, i.imgseq, 1] e.digest
  | none => s1

/-- Shards of a core whose tab is verified: each that is here is checked against the tab; then it is verified and its plane is written, or it
is a corrupt object of its source (R185, R188, R190). -/
def State.settleShards (core : Nat) (x : TabImage) (s : State) : State :=
  let side := s.freeSide
  (s.stagedShards.filter fun e => e.2.1 == core).foldl (fun t e =>
    match t.object? side e.1, t.entry? e.1 with
    | some o, some (_, y) =>
      if shardFitsTab e.2.2 o x then
        (if y.verified then t else t.verifyEntry e.1).stageShard side e.1 core e.2.2 4 o
      else
        let u := (t.onEntry e.1 fun z => { z with verified := false, source := none }).onCapo fun c =>
          { c with objects := c.objects.filter fun k => k.1 != objKey side e.1 }
        match y.source with
        | some k => u.corruptFrom side e.1 k 9 y.digest
        | none => u.reject13 9 y.digest none
    | _, _ => t) s

/-- A programme is rejected by a load check: record 0x13 names control pair 0 (R511), and the step. -/
def State.recordRejection (r : Rejection) (s : State) : State :=
  s.record
    { kind := 0x13, severity := 1, unit := .pair 0, step := some r.stepno, reactions := [13], detail := [(10, .num 0x0C)] }

/-- Once every tab image and counter table is verified the whole programme is checked, and loaded or rejected (R131, R167, R176, R185,
R328). -/
def State.checkProgramme (s : State) : State :=
  match s.capo.staged with
  | some i =>
    if s.capo.state = .staging ∧ (i.entries.all fun e => e.verified || e.kind == 1 || e.kind == 2) = true ∧ ¬ s.capo.programOk ∧
        ¬ s.capo.programBad then
      match s.programmeFault s.freeSide i with
      | some r =>
        ((s.onDict fun d => { d with rejection := r }).onCapo fun c => { c with programBad := true }).recordRejection r
      | none =>
        (s.installSide s.freeSide (s.programmeOf s.freeSide i)
          (i.entries.filterMap fun e => if e.kind = 1 then some (e.unit % 256, e.leng) else none)).onCapo fun c =>
            { c with programOk := true }
    else s
  | none => s

/-! ### Arm and withdrawal -/

/-- Bytes of an image slot that an image takes: its manifest, and its objects at their image offsets (14 Table 14-2). -/
def imageExtent (raw : Bytes) (i : Image) : Nat := i.entries.foldl (fun m e => max m (e.offset + e.length)) raw.length

/-- Bytes of an image slot (14 Table 14-2). -/
def imageSlotSize : Nat := 125829120

/-- The image slot that holds an image, by its manifest digest. -/
def Flash.slotOf (f : Flash) (digest : Bytes) : Option Nat := (f.images.find? fun x => x.2.digest == digest).map (·.1)

/-- A staged image is written to an image slot at its arm, so that it is there at the next boot: to the slot that does not hold the selected
image. One that does not fit into a slot is not kept (log 26). -/
def State.keepImage (img : Image) (s : State) : State :=
  if (s.flash.slotOf img.digest).isSome ∨ imageSlotSize < imageExtent s.capo.stagedRaw img then s
  else
    let slot := 1 - ((s.capo.selected.bind fun i => s.flash.slotOf i.digest).getD 1)
    let objs := (s.capo.objects.filter fun e => e.1 / 8192 == s.freeSide).map fun e => (slot * 8192 + e.1 % 8192, e.2)
    s.onFlash fun f =>
      { f with images := (f.images.filter fun x => x.1 != slot) ++ [(slot, img)]
               manifests := tput0 [] slot s.capo.stagedRaw f.manifests
               objects := objs.foldl (fun t e => tput0 [] e.1 e.2 t) (f.objects.filter fun e => e.1 / 8192 != slot) }

/-- A switch to another image is armed, or no longer: what the next boot looks at (R205, log 93). -/
def State.keepArmed (digest : Bytes) (s : State) : State := if s.flash.armed = digest then s else s.onFlash fun f => { f with armed := digest }

/-- The switch is armed (R197): (B*, side, e + 1) goes to every core. -/
def State.doArm (b : Nat) (refresh : Bool) (s : State) : State :=
  let s1 := (s.onCapo fun c => { c with state := .armed, bstar := b, armDone := false, refresh := refresh }).setCapoRegs s.freeSide b
  match s.capo.staged with
  | some i => if refresh then s1 else (s1.keepImage i).keepArmed i.digest
  | none => s1

/-- The capo registers return to the selected side. -/
def State.capoRest (s : State) : State :=
  s.activeCores.foldl (fun t c => t.onCore c fun x =>
    { x with sideOld := s.capo.side, sideNew := s.capo.side, bstar := ord48, acked := false }) s

/-- The armed switch is withdrawn, with an outcome code of 2200.05, and the state becomes `to_`. DESIGN CHOICE (R197 arms "when the state becomes
STAGED", log 96): a return to STAGED by a withdrawal is none that arms again under 2200.06. -/
def State.capoWithdrawn (outcome : Nat) (to_ : CapoState) (s : State) : State :=
  let s1 := s.capoRest.keepArmed []
  s1.onCapo fun c => { c with state := to_, bstar := ord48, armDone := false, refresh := false, outcome := outcome }

/-- IMGSEL names the slot that holds the selected image (14 Table 14-3). -/
def State.nameImageSlot (digest : Bytes) (s : State) : State :=
  match s.flash.slotOf digest with
  | some n => if n = s.flash.imgsel then s else s.onFlash fun f => f.writeDir f.active f.trial f.attempts n
  | none => s

/-- The new side is selected: 2200.04, 2210.04 and the keep-store record of R201. The old side keeps its image until it is released. -/
def State.capoSelect (s : State) : State :=
  let side := s.freeSide
  let img := s.capo.staged
  let i := img.getD ⟨0, 0, [], [], 1, 0, 0, 0, []⟩
  let s1 := ((s.keepArmed []).nameImageSlot i.digest).onCapo fun c =>
    { c with state := .releasing, side := side, selected := img, staged := none, former := c.selected, selectedRaw := c.stagedRaw
             selDigest := i.digest, outcome := 1 }
  (s1.onKeep fun k => { k with sideRec := some ⟨side, i.progid, i.imgseq, i.digest⟩ }).append 1 0x22 0
    (leBytes 1 side ++ leBytes 4 i.progid ++ leBytes 4 i.imgseq ++ i.digest ++ leBytes 4 s.dev.bootCount)

/-- The old side is released (R202): the capo registers rest on the new side, and the capo is IDLE. -/
def State.capoRelease (s : State) : State := ((s.capoRest).unseal s.freeSide).becomeIdle

/-- R412: a device without a programme commits at the arm, with B* = 0, and passes through to IDLE. -/
def State.commitAtArm (s : State) : State :=
  let s1 := (s.doArm 0 false).enterSide s.freeSide (s.dev.modeEpoch + 1)
  (((s1.capoSelect).onDev fun d => { d with noImage := false, modeEpoch := s.dev.modeEpoch + 1 }).capoRelease.lifeCount 3).autoStart

/-- ARM of 2200.02, or the auto-arm. In a group the leader asks every member first (R376). -/
def State.armCapo (b : Nat) (refresh : Bool) (answer : Option Nat) (s : State) : State :=
  if s.inGroup && !refresh then
    ((s.doArm b refresh).onGroup fun g => { g with sealLost := false }).askMembers 0 b answer
  else if s.noProgramme then s.commitAtArm
  else s.doArm b refresh

/-- The state becomes STAGED when it is due, and the auto-arm follows. -/
def State.checkStaged (s0 : State) : State :=
  let s := s0.checkProgramme
  if s.isStaged then
    let s1 := s.onCapo fun c => { c with state := .staged }
    let lead := s.setting 0x2200 6 0
    if lead = 0 ∨ s1.notLeader then s1
    else
      let b := (s1.openOrd + lead).toNat
      if (s1.armFault b).isSome then s1.onCapo fun c => { c with outcome := 4 } else s1.armCapo b false none
  else s

/-- Code of 2200.03. -/
def CapoState.code : CapoState → Nat
  | .idle => 0 | .staging => 1 | .staged => 2 | .armed => 3 | .committed => 4 | .releasing => 5

/-- The effect of 2200.02 (R197, R198, R204, R376). -/
def State.capoCommand (code : Nat) (s : State) : Reply :=
  if s.notLeader then Reply.refused 4 s.group.leader s
  else if code = 1 then
    let b := s.setting 0x2200 1 0
    match s.armFault b with
    | some c => Reply.refused 5 c (s.onCapo fun k => { k with outcome := 4 })
    | none =>
      if s.inGroup then { s := s.armCapo b false (some s.dict.answerNo), wait := true } else Reply.ok (s.armCapo b false none)
  else if code = 2 then
    match s.capo.state with
    | .armed =>
      -- the return to STAGED does not arm again under 2200.06 (log 96)
      Reply.ok ((s.capoWithdrawn 2 .staged).disarmGroup 0)
    | .committed | .releasing => Reply.refused 3 0 s
    | c => Reply.refused 0xB c.code s
  else if code = 3 then
    if s.capo.state = .staged then Reply.ok ((s.unseal s.freeSide).becomeIdle) else Reply.refused 0xB s.capo.state.code s
  else Reply.deny stRange s

/-- The commit decision at the opening of batch B* - 2 (R199): in a group the OPEN message carries it (1 commit, 2 withdraw). A commit is
recorded in 2200.05 as switched (Table 07-6, log 78). -/
def State.capoDecide (b decision : Nat) (s : State) : State :=
  if s.capo.state = .armed ∧ b + 2 = s.capo.bstar then
    let ok := if s.inGroup ∧ ¬ s.capo.refresh then decision == 1 else s.capo.armDone && s.allSealed
    if ok then (s.onCapo fun c => { c with state := .committed, outcome := 1 }).lifeCount 3
    else s.capoWithdrawn 3 (if s.allSealed then .staged else .staging)
  else s

/-! ### Event meanings: arm, fence, release -/

/-- ARM_COMPLETE: every core has acknowledged the armed switch. -/
def execArmComplete (s : State) : Host.Outcome State Fault Refusal :=
  .next (if s.frozen then s else if s.capo.state = .armed then
    (s.activeCores.foldl (fun t c => t.onCore c fun x => { x with acked := true }) s).onCapo fun c => { c with armDone := true }
  else s)

/-- Every participating core has completed END of the last batch on the old side. -/
def State.oldSideEnded (s : State) : Bool :=
  let b := s.capo.bstar
  (s.tabsOf s.capo.side).all fun e =>
    let c := s.core e.1
    c.cur.isNone && (b == 0 || (s.dev.bOpen.isSome && (c.done == some (b - 1) || ((s.batch? (b - 1)).map fun (x : Batch) => x.ended.contains e.1).getD false)))

/-- SIDE_FENCE: the fence of R133 for a committed switch, before B* starts on any core. -/
def execSideFence (s : State) : Host.Outcome State Fault Refusal :=
  .next (if s.frozen then s else if s.capo.state = .committed ∧ s.oldSideEnded = true ∧ s.dev.bOpen.any (fun b => s.capo.bstar ≤ b + 1) = true then
    -- a refresh switch of a member is its own; the mode epoch is the group's (R214, 12 R377)
    let s1 := s.enterSide s.freeSide (match s.batch? s.capo.bstar with
      | some x => x.epoch
      | none => if s.notLeader && s.capo.refresh then s.dev.modeEpoch else s.dev.modeEpoch + 1)
    if s.inGroup then s1.groupMsg 0x25 s.group.leader [s.capo.bstar] [] else s1
  else s)

/-- OLD_SIDE_RELEASE: batch B* - 1 is published and judged, and B* has ended on every core (R202). -/
def execOldSideRelease (s : State) : Host.Outcome State Fault Refusal :=
  let b := s.capo.bstar
  .next (if s.frozen then s else if s.capo.state = .releasing ∧ (s.walk.tiles.all fun t => b ≤ t.ordinal) = true ∧
      (s.walk.runs.all fun r => b ≤ r.ordinal || (r.status.isSome && r.final)) = true ∧
      ((s.walkers b).all fun k => ((s.batch? b).map fun (x : Batch) => x.ended.contains k).getD true) = true then s.capoRelease
  else s)

/-! ### Event meanings: objects -/

/-- A write that waited for this shard goes on (R216). -/
def State.shardCame (side n : Nat) (s : State) : State :=
  s.onPlanes fun t => t.map fun e =>
    if e.1 % 2 = side ∧ e.2.wantKey = n + 1 ∧ e.2.awaits = true then (e.1, { e.2 with awaits := false }) else e

/-- An object that is good by itself, from a source: slower-tier segments go to their region, and shards and tabs find each other. A shard is
verified only with its tab (R185). -/
def State.acceptObject (n source : Nat) (e : Entry) (o : Bytes) (s : State) : State :=
  let side := s.freeSide
  let s0 := s.onCapo fun c => { c with objects := tput0 [] (objKey side n) o c.objects }
  let s1 := if e.kind = 1 then s0.onEntry n fun x => { x with source := some source, asked := none } else s0.verifyEntry n
  let s2 := if e.kind = 2 then s1.placeSegment (objKey side n) e.target o else s1.shardCame side n
  let core := e.unit % 256
  let tab := match s2.capo.staged with
    | some i => i.entries.zipIdx.findSome? fun x => if x.1.kind = 3 ∧ x.1.unit % 256 = core then s2.object? side x.2 else none
    | none => none
  let s3 := if e.kind = 1 ∨ e.kind = 3 then
      match tab with
      | some t => s2.settleShards core (parseTabImage t)
      | none => s2
    else s2
  s3.checkStaged

/-- States in which the staged image's objects are fetched: STAGING, and STAGED, ARMED and COMMITTED for a segment whose copies failed
(04 R122). -/
def CapoState.stages : CapoState → Bool
  | .staging | .staged | .armed | .committed => true
  | .idle | .releasing => false

/-- DRAM lacks an object of a side's image that was here: a slower-tier segment of which neither copy could be confirmed (04 R122), the tab of a
core whose sources all failed (05 R156), or a shard that a write waits for (R216). -/
def State.lacks (s : State) (side n : Nat) (e : Entry) : Bool :=
  (e.kind == 2 && s.mem.slowBad.contains (objKey side n, 0)) ||
    (e.kind == 3 && (((s.core (e.unit % 256)).refetch && (s.core (e.unit % 256)).side == side) || !s.tabCopyGood (e.unit % 256) side)) ||
    (e.kind == 1 && s.planes.any fun p => p.1 % 2 == side && p.2.wantKey == n + 1 && p.2.awaits)

/-- The entry of a side's image that is to be fetched: a staged object that has not come, an object of the selected image that no flash slot gave
at boot (14 R411), or one that DRAM lacks. -/
def State.wanted (s : State) (side n : Nat) : Option (Image × Entry) :=
  (s.entryAt side n).filter fun x =>
    (!x.2.verified && x.2.source.isNone && (side == s.capo.side || s.capo.state.stages)) || s.lacks side n x.2

/-- An object that DRAM lacked is here again. -/
def State.restoreObject (side n : Nat) (e : Entry) (o : Bytes) (s : State) : State :=
  let s1 := s.onEntryAt side n fun x => { x with asked := none, tried := [], round := 0 }
  if e.kind = 2 then s1.placeSegment (objKey side n) e.target o
  else if e.kind = 3 then
    (s1.onCore (e.unit % 256) fun c => { c with refetch := if c.side = side then false else c.refetch }).onMem fun m =>
      { m with tabBad := m.tabBad.filter fun x => x.1 != e.unit % 256 * 2 + side }
  else (s1.onCapo fun c => { c with objects := tput0 [] (objKey side n) o c.objects }).shardCame side n

/-! ### The selected image at boot (14 R409, R411, R412) -/

/-- The flash slot that holds the selected image (14 R412): the one that IMGSEL names, or the other. -/
def State.bootImage (s : State) : Option (Nat × Image) :=
  match s.keep.sideRec with
  | some r =>
    let l := s.flash.images.filter fun f => f.2.progid == r.progid && f.2.imgseq == r.imgseq
    (l.find? fun f => f.1 == s.flash.imgsel).orElse fun _ => l.head?
  | none => none

/-- The object of an entry stands in an image slot and verifies (14 R412). -/
def State.flashObjectOk (s : State) (slot : Nat) (img : Image) (e : Entry × Nat) : Bool :=
  match s.flash.objects.find? fun o => o.1 == slot * 8192 + e.2 with
  | some o => (objectFault img e.1 o.2).isNone
  | none => false

/-- The objects of an image are read from its flash slot, or as a neighbour supplied them, onto a side: the planes of the sites hold their
shards already. -/
def State.loadObjects (slot side : Nat) (img : Image) (s : State) : State :=
  img.entries.zipIdx.foldl (fun t e =>
    match (t.object? side e.2).orElse fun _ => (t.flash.objects.find? fun o => o.1 == slot * 8192 + e.2).map (·.2) with
    | some o =>
      let u := t.onCapo fun c => { c with objects := tput0 [] (objKey side e.2) o c.objects }
      if e.1.kind = 2 then u.placeSegment (objKey side e.2) e.1.target o
      else if e.1.kind = 1 then
        match u.siteOf (e.1.unit % 256) e.1.leng with
        | some n =>
          (u.onPlane (2 * n + side) fun p =>
            { p with shard := shardDigest o, shardKey := e.2 + 1, wtfmt := shardFmt o, isSealed := true }).loadScales (2 * n + side) (some o)
        | none => u
      else u
    | none => t) s

/-- An image every object of which is verified. -/
def Image.allVerified (i : Image) : Image := { i with entries := i.entries.map fun e => { e with verified := true, asked := none } }

/-- The cores and logical engines of an image's shards. -/
def Image.shardUnits (i : Image) : List (Nat × Nat) := i.entries.filterMap fun e => if e.kind = 1 then some (e.unit % 256, e.leng) else none

/-- The objects of the selected image are on the selected side: they are checked and entered (R131, R133). -/
def State.loadImage (slot : Nat) (img : Image) (s : State) : State :=
  let side := s.capo.side
  let s2 := (s.loadObjects slot side img).onCapo fun c =>
    { c with selected := some img.allVerified, selDigest := img.digest, selectedRaw := tget0 [] s.flash.manifests slot, programOk := false }
  match s2.programmeFault side img with
  | some r => ((s2.onDict fun d => { d with rejection := r }).onDev fun d => { d with noImage := true }).recordRejection r
  | none =>
    ((s2.installSide side (s2.programmeOf side img) img.shardUnits).enterSide side 0).becomeIdle

/-- An object of the selected image that no flash slot gave has come from a neighbour. Once SELFTEST is over, the last of them lets the image be
loaded, and the device leaves the condition of R412 (log 97). -/
def State.bootObject (n : Nat) (o : Bytes) (s : State) : State :=
  let side := s.capo.side
  let s1 := (s.onCapo fun c => { c with objects := tput0 [] (objKey side n) o c.objects }).onEntryAt side n fun x =>
    { x with verified := true, asked := none }
  match s1.bootImage, s1.capo.selected with
  | some f, some i =>
    if s1.dev.noImage ∧ (s1.dev.state = .ready ∨ s1.dev.state = .degraded) ∧ (i.entries.all (·.verified)) = true then
      ((s1.onDev fun d => { d with noImage := false }).loadImage f.1 f.2).autoStart
    else s1
  | _, _ => s1

/-! ### Event meanings: objects -/

/-- An object arrives for an entry of a side's image from the source that is being asked. `late`: the timeout won, and has its effect (R188,
01 R31). -/
def State.objectArrives (side n source : Nat) (obj : Bytes) (late : Bool) (s : State) : State :=
  match s.wanted side n with
  | some (i, e) =>
    if s.sourceNow i e ≠ some source then s
    else if late then
      ((s.onCapo fun c => { c with late := c.late + 1 }).reject13 0x0A e.digest (s.neighbourUnit source)).sourceFailed side n source
    else
      let o := if source = 0 then mread (fun _ => 0#8) s.capo.delivery e.offset e.length else obj
      match objectFault i e o with
      | some r => s.corruptFrom side n source r e.digest
      | none =>
        if e.verified then s.restoreObject side n e o
        else if side = s.capo.side then s.bootObject n o
        else s.acceptObject n source e o
  | none => s

/-- The side whose image an event about entry n is about: the free side when an object is to come there, else the selected side (log 98). -/
def State.fetchSide (s : State) (n : Nat) : Nat := if (s.wanted s.freeSide n).isSome then s.freeSide else s.capo.side

/-- OBJECT_RECEIVED: an object arrives from the delivery region, a neighbour or boot flash. -/
def execObjectReceived (entry source : Nat) (obj : Bytes) (late : Bool) (s : State) : Host.Outcome State Fault Refusal :=
  .next (s.objectArrives (s.fetchSide entry) entry source obj late)

/-- OBJECT_FETCH_TIMEOUT: the source that is asked has given no complete answer in 20 ms. -/
def execObjectFetchTimeout (entry : Nat) (s : State) : Host.Outcome State Fault Refusal :=
  let side := s.fetchSide entry
  .next (match s.wanted side entry with
    | some (i, e) =>
      match s.sourceNow i e with
      | some k => (s.reject13 0x0A e.digest (s.neighbourUnit k)).sourceFailed side entry k
      | none => s
    | none => s)

/-- SOURCE_RETRY: one second after every source has failed for an object, the whole list is tried once more; an object that no source
can supply stops its fetch here. -/
def execSourceRetry (entry : Nat) (s : State) : Host.Outcome State Fault Refusal :=
  let side := s.fetchSide entry
  .next (match s.wanted side entry with
    | some (i, e) =>
      if e.round = 0 ∧ s.sourceNow i e = none then
        let s1 := (s.onEntryAt side entry fun x => { x with tried := [], round := 1 }).askAt side entry
        if (s.sourcesOf i e).isEmpty then s1.reject13 0x0B e.digest none else s1
      else s
    | none => s)

/-! ### Program and verify (R190 to R194) -/

/-- Declared current of a loop, mA (Table 07-5). -/
def loopCurrent (cells : Nat) : Nat := 40 + 4 * cells

/-- The sum of the declared currents of all running loops. -/
def State.vppLoad (s : State) : Nat := (s.planes.map fun e => e.2.running).sum

/-- The waiting loop that is served next: the highest class, the oldest of it. -/
def State.vppNext (s : State) : Option (Nat × Nat) :=
  [1, 2, 3, 4].findSome? fun c => s.capo.vppQueue.find? fun w => (s.plane w.1).cls == c

/-- A loop of the plane is admitted. While a tuning pass runs on its site it keeps its admission and starts when the pass has ended
(09 R251). -/
def State.admitLoop (w : Nat × Nat) (s : State) : State :=
  let s1 := (s.onPlane w.1 fun p => { p with running := w.2 }).onCapo fun c =>
    { c with vppQueue := c.vppQueue.filter fun x => x.1 != w.1 }
  match (s.site (w.1 / 2)).passing with
  | some p => s1.onSite (w.1 / 2) fun x => { x with passing := some { p with held := w.1 :: p.held } }
  | none => s1

/-- The plane's admitted loop has not started: a tuning pass runs on its site. -/
def State.loopHeld (s : State) (pl : Nat) : Bool :=
  match (s.site (pl / 2)).passing with
  | some p => p.held.contains pl
  | none => false

/-- Admit waiting loops in order while the rail can carry them; none while VPP_W is out of range or PFAIL_N is low. -/
def admitLoops : Nat → State → State
  | 0, s => s
  | n + 1, s =>
    match s.vppNext with
    | some w =>
      if !s.capo.vppBad && !s.dev.pfailLow && s.vppLoad + w.2 ≤ 3000 then
        admitLoops n (s.admitLoop w)
      else s
    | none => s

/-- The plane is the selected one of its site, for the batch that its core walks or walked last. -/
def State.planeSelected (s : State) (site side : Nat) : Bool :=
  s.sideOf (site / 5) (((s.core (site / 5)).cur.orElse fun _ => s.dev.bOpen).getD 0) == side

/-- The plane is locked as part of the old side of a switch: that becomes writable at its release (R202). -/
def State.oldSideLocked (s : State) (side : Nat) : Bool :=
  match s.capo.state with
  | .committed => side == s.capo.side
  | .releasing => side != s.capo.side
  | _ => false

/-- The VPP_W class of a rewrite from the shard: a repair when the plane belongs to a switch whose decision has been made, else a staging
write (R193, R208). -/
def State.repairClass (s : State) (side : Nat) : Nat := if s.capo.state = .committed ∧ side = s.freeSide then 2 else 4

/-- PROGRAM_LOOP_START: a plane's write asks for a loop on a row in which `cells` cells fail. A selected plane is not written, but by a copy into
site 4, or by the repair of the new side's plane whose core waits for its seal before B* (R200). While a tuning pass runs on the site the
loop starts when the pass has ended (09_tuning_passes.md R251, log 89). -/
def execProgramLoopStart (site side row cells : Nat) (s : State) : Host.Outcome State Fault Refusal :=
  if site < 1280 ∧ side < 2 then
    let pl := 2 * site + side
    let p := s.plane pl
    .next (if s.frozen then s else if s.siteActive site = true ∧ p.cls ≠ 0 ∧ p.running = 0 ∧ ¬ p.awaits ∧
        (p.cls = 1 ∨ p.cls = 2 ∧ (s.core (site / 5)).cur.all (· < s.capo.bstar) = true ∨ s.planeSelected site side = false) ∧
        (s.site site).state ≠ .retired ∧ (s.capo.vppQueue.all fun w => w.1 != pl) = true ∧ 0 < cells ∧ (p.loops = 0 ∨ p.row = row) then
      let s1 := (s.onPlane pl fun x => { x with row := row }).onCapo fun c => { c with vppQueue := c.vppQueue ++ [(pl, loopCurrent cells)] }
      admitLoops s1.capo.vppQueue.length s1
    else s)
  else .fault .noSuchUnit

/-- A write of a plane has failed (R192): it is tried once more from the pre-read; then the site is ordered out. A refresh that failed has
cost the seal: its retry is a repair or a staging write (R200). -/
def State.writeFailed (pl : Nat) (s : State) : State :=
  let p := s.plane pl
  let b := s.dev.bOpen.getD 0
  if p.tries = 0 then
    (s.writePlane pl p.want p.wantKey p.wtfmt (if p.cls = 1 then 1 else s.repairClass (pl % 2))).onPlane pl fun x => { x with tries := 1 }
  else
    let s1 := (s.dropWrite pl).onPlane pl fun x =>
      { x with tries := 0, isSealed := false, failCount := min (x.failCount + 1) 65535 }
    (s1.appendWear pl p).orderOut (pl / 2) b { kind := 0x0F, severity := 1, unit := .site (pl / 2) }

/-- PROGRAM_LOOP_COMPLETE: a loop on a row ends with `failing` cells that do not pass the verify read. A loop during which VPP_W
was lost is void. -/
def execProgramLoopComplete (site side row failing : Nat) (s : State) : Host.Outcome State Fault Refusal :=
  if site < 1280 ∧ side < 2 then
    let pl := 2 * site + side
    let p := s.plane pl
    .next (if s.frozen = true ∨ s.siteActive site = false ∨ p.running = 0 ∨ p.row ≠ row ∨ s.loopHeld pl = true then s
    else
      let s1 := s.countEngine site 6 1
      let s2 :=
        if p.voided then s1.onPlane pl fun x => { x with running := 0, voided := false, dropped := none }
        else if p.dropped.isSome then
          -- its write was given up: a retry loop counts over the plane's life, and no more (R211)
          s1.onPlane pl fun x => { x with running := 0, dropped := none, retryLoops := min (x.retryLoops + (p.dropped.getD false).toNat) 0xFFFFFFFF }
        else
          let retry := decide (p.loops ≥ 1)
          let t := s1.onPlane pl fun x =>
            { x with running := 0, pulsed := true, loops := if failing = 0 then 0 else p.loops + 1
                     retry := p.retry + retry.toNat, retryLoops := min (p.retryLoops + retry.toNat) 0xFFFFFFFF }
          if failing ≠ 0 ∧ (p.loops + 1 ≥ 8 ∨ p.retry + retry.toNat ≥ 450) then t.writeFailed pl else t
      admitLoops s2.capo.vppQueue.length s2)
  else .fault .noSuchUnit

/-- The end of a copy into site 4: order 4 of Table 02-11 follows, one tuning pass. -/
def State.copyWritten (site : Nat) (s : State) : State :=
  let x := s.site site
  if x.state = .copying ∧ x.copyStage = 2 then
    (s.onSite site fun y =>
      { y with copyStage := 4, passing := some (s.newPass site .substitution (((s.core (site / 5)).cur).getD ord48) false false false) }).countEngine
        site 8 1
  else s

/-- SEAL_READBACK_DONE: the readback of a written plane, by its SHAKE256. One that does not match after a staging, repair or refresh write
is a failed write (R192, log 85); after a copy, orders 2 and 3 of Table 02-11 are repeated once (02 R71). -/
def execSealReadbackDone (site side : Nat) (digest : Bytes) (s : State) : Host.Outcome State Fault Refusal :=
  if site < 1280 ∧ side < 2 then
    let pl := 2 * site + side
    let p := s.plane pl
    .next (if s.frozen = true ∨ s.siteActive site = false then s else if p.cls = 0 ∨ p.running ≠ 0 ∨ p.loops ≠ 0 ∨ p.awaits ∨ (s.site site).state = .retired ∨ (s.capo.vppQueue.any fun w => w.1 == pl) = true then s
    else
      let good := digest == (if p.want.isEmpty then dronePlaneDigest else p.want)
      if good then
        let s1 := ((s.countWrite pl).onPlane pl fun x =>
          { x with shard := p.want, shardKey := p.wantKey, isSealed := !p.want.isEmpty, cls := 0, tries := 0, written := true
                   pulsed := false }).appendWear pl p
        let s2 := match s.keyShard side p.wantKey p.want with
          | some o => (s1.loadCells pl (some o)).loadScales pl (some o)
          | none => if p.want.isEmpty then (s1.loadCells pl none).loadScales pl none else s1
        (s2.copyWritten site).checkStaged
      else if (s.site site).state = .copying then
        let t := (s.site site).copyTries
        if t = 0 then (s.onSite site fun x => { x with copyTries := 1 }).writePlane pl p.want p.wantKey p.wtfmt p.cls
        else (s.dropWrite pl).retireSite site (s.dev.bOpen.getD 0)
      else (s.sealGone pl).writeFailed pl)
  else .fault .noSuchUnit

/-! ### Scans (R207 to R210, R213 to R215) -/

/-- The site carries the tiles of a logical engine. -/
def State.carries (s : State) (site : Nat) : Bool :=
  (s.core (site / 5)).subst.contains (site % 5) && (s.site site).state != .retired

/-- A scan sum that does not match (R208): the plane loses its seal, and one that may be written is rewritten from its shard. DESIGN CHOICE
(Tables 10-8a and 10-8b have no key and no path for a plane, log 109): record 0x11 names the site of the plane, and not which of its two planes
it is. -/
def State.scanMismatch (site side b : Nat) (s : State) : State :=
  let pl := 2 * site + side
  let p := s.plane pl
  let sel := s.planeSelected site side
  let r : Rec :=
    { kind := 0x11, severity := if sel then 2 else 1, detected := some b, unit := .site site, exposed := true, exposure := p.matchAt }
  let s1 := s.sealGone pl
  if sel then (if s1.carries site then s1.orderOut site b r else s1.record r)
  else if s.oldSideLocked side ∨ p.cls ≠ 0 then s1.record r
  else (s1.beginWrite pl p.shard p.shardKey p.wtfmt (s.repairClass side)).record { r with reactions := [11] }

/-- What a scan margin count brings (R213 to R215). -/
def State.scanMargin (site side n b : Nat) (s : State) : State :=
  let pl := 2 * site + side
  let due := decide (n ≥ s.setting 0x2230 1 64)
  if !s.planeSelected site side then (if due && !s.oldSideLocked side then s.beginRefresh pl else s.onPlane pl fun p => { p with overScans := 0 })
  else
    let s1 :=
      if !due then s.onPlane pl fun p => { p with overScans := 0 }
      else if s.capo.state = .staged ∧ s.capo.mirror then
        let bs := (s.openOrd + 16).toNat
        let u := s.onPlane pl fun p => { p with overScans := 0 }
        if (u.armFault bs).isNone then u.armCapo bs true none else u
      else if s.capo.refresh then s
      else s.onPlane pl fun p => { p with overScans := p.overScans + 1 }
    if decide (n ≥ s.setting 0x2230 2 1024) || decide ((s1.plane pl).overScans ≥ 16) then s1.retireSite site b else s1

/-- PLANE_SCAN_DONE: a full read of one plane in a live scan slot ends with its scan sum and its scan margin count. -/
def execPlaneScanDone (site side : Nat) (digest : Bytes) (marginCount : Nat) (s : State) : Host.Outcome State Fault Refusal :=
  if site < 1280 ∧ side < 2 then
    let pl := 2 * site + side
    let c := s.core (site / 5)
    let due := match c.droneLive with
      | some d => d.kind == 2 && bit d.sites (site % 5) && s.scanSide site == side
      | none => false
    .next (if s.frozen then s else if !due then s
    else
      let p := s.plane pl
      let b := c.cur.getD (s.dev.bOpen.getD 0)
      let m := min marginCount 65535
      let good := digest == (if p.shard.isEmpty then dronePlaneDigest else p.shard)
      let s1 := ((s.countEngine site 7 1).onPlane pl fun x =>
        { x with scanSum := digest, scanAt := some b, prevSum := if p.scanAt.any (fun k => decide (k / 1024 < b / 1024)) then p.scanSum else x.prevSum
                 prevAt := if p.scanAt.any (fun k => decide (k / 1024 < b / 1024)) then p.scanAt else x.prevAt, matchAt := if good then some b else x.matchAt, lastMargin := m
                 peakMargin := max x.peakMargin m }).appendWear pl p
      let s2 := if good then s1 else s1.scanMismatch site side b
      (s2.scanMargin site side m b).droneSiteDone site)
  else .fault .noSuchUnit

end Sys2Proof.Machine
end

