-- ==== Sys2Proof/Machine/Tuning.lean ====
section
/-!
DEFINITION. Tuning passes: acceptance, candidates and targets, retries, and the tuning records of the keep store
(09_tuning_passes.md R243 to R267; 15_keep_store.md R446, R447).
-/

namespace Sys2Proof.Machine

/-- Pegs of one site: offsets (4,352), gains (16) and row drive. -/
structure Pegs where
  off : Tbl Nat
  gain : Tbl Nat
  drive : Nat
  deriving DecidableEq, Repr

/-- The targets of a site. -/
def Site.targets (x : Site) : Pegs := ⟨x.offT, x.gainT, x.driveT⟩

/-! ### The searches of a sweep (R252) -/

/-- The binary search of R252 over the high counts of its steps: `lo` and `hi` bound the largest ramp code that reads high. -/
def edgeLoop : List Nat → Nat → Nat → Nat
  | [], lo, _ => lo
  | h :: l, lo, hi =>
    let mid := (lo + hi + 1) / 2
    if 32 ≤ h then edgeLoop l mid hi else edgeLoop l lo (mid - 1)

/-- edge(n) of a ramp of width `w`. -/
def edge (w : Nat) (highs : List Nat) : Nat := edgeLoop ((List.range w).map fun i => highs.getD i 0) 0 (2 ^ w - 1)

/-- The edges a and b of a converter. -/
def searchEdges (x : Search) (w conv : Nat) : Nat × Nat :=
  match x.own.find? fun e => e.1 == conv with
  | some e => (edge w e.2.1, edge w e.2.2)
  | none => (edge w x.common0, edge w x.common1)

/-- The midpoint of a converter's edges, rounded half to even. -/
def searchRaw (x : Search) (w conv : Nat) : Nat :=
  let e := searchEdges x w conv
  (rne ((e.1 + e.2 : Nat) : Int) 1).toNat

/-- No edge of a search equals 0 or 2^w - 1 (R253). -/
def searchOk (x : Search) (w : Nat) : Bool :=
  let ok (e : Nat) : Bool := e != 0 && e != 2 ^ w - 1
  (List.range 4352).all fun c => ok (searchEdges x w c).1 && ok (searchEdges x w c).2

/-- A number in its place in a rising list. -/
def insertSorted (n : Nat) : List Nat → List Nat
  | [] => [n]
  | m :: l => if n ≤ m then n :: m :: l else m :: insertSorted n l

/-- The lower median: of 272 values element 135 of the sorted list, of 4,352 element 2,175. -/
def lowerMedian (l : List Nat) : Nat := (l.foldr insertSorted []).getD ((l.length - 1) / 2) 0

/-- The raw values of a sweep's pegs: a converter's offset, a fret's gain, the row drive. -/
def offRaw (x : Sweep) (conv : Nat) : Nat := searchRaw x.off 6 conv
def gainRaw (x : Sweep) (fret : Nat) : Nat := lowerMedian ((List.range 272).map fun k => searchRaw x.gain 8 (272 * fret + k))
def driveRaw (x : Sweep) : Nat := lowerMedian ((List.range 4352).map (searchRaw x.drive 8))

def sweepOk (x : Sweep) : Bool := searchOk x.drive 8 && searchOk x.gain 8 && searchOk x.off 6

/-! ### Acceptance and candidates (R253, R254) -/

/-- Set cells of the reference columns 532 to 543 in a fret (02 Table 02-3). -/
def refCells : List Nat := [0, 0, 8, 8, 16, 16, 24, 24, 32, 32, 32, 32]

/-- The reference columns whose readback is not the count of Table 02-3. -/
def refFailsOf (r : PassResult) : List (Nat × Nat) :=
  (r.readback.filter fun e => e.2.2 != refCells.getD (e.2.1 - 532) 0).map fun e => (e.1, e.2.1)

/-- Every result of the level check is COUNT n, MARGIN 0 and OVER 0. -/
def levelOk (r : PassResult) : Bool := r.levels.all fun e => e.count == e.level && !e.margin && !e.overFlag

/-- The two sweeps of a peg agree within 2 codes (R253). -/
def agrees (a b : Nat) : Bool := a ≤ b + 2 && b ≤ a + 2

/-- R253. -/
def passAccepts (r : PassResult) : Bool :=
  (refFailsOf r).isEmpty && sweepOk r.sweep1 && sweepOk r.sweep2 && levelOk r && agrees (driveRaw r.sweep1) (driveRaw r.sweep2) &&
    ((List.range 16).all fun i => agrees (gainRaw r.sweep1 i) (gainRaw r.sweep2 i)) &&
    (List.range 4352).all fun i => agrees (offRaw r.sweep1 i) (offRaw r.sweep2 i)

/-- The mean of two raw values, half to even (R254). -/
def candidate (a b : Nat) : Nat := (rneDiv ((a : Int) + b) 2).toNat

def passCandidates (r : PassResult) : Pegs :=
  { off := (List.range 4352).foldl (fun t i => tput0 32 i (candidate (offRaw r.sweep1 i) (offRaw r.sweep2 i)) t) []
    gain := (List.range 16).foldl (fun t i => tput0 128 i (candidate (gainRaw r.sweep1 i) (gainRaw r.sweep2 i)) t) []
    drive := candidate (driveRaw r.sweep1) (driveRaw r.sweep2) }

/-! ### Tuning records (Table 09-5) and tuning-set entries (Table 15-5) -/

/-- Bytes 0x000 to 0xCDF of a tuning record. -/
def recordBody (site passNo : Nat) (tref : Int) (p : Pegs) : Bytes :=
  leBytes 4 site ++ leBytes 4 passNo ++ leBytesI 2 tref ++ zeros 2 ++ leBytes 4 p.drive ++
    ((List.range 16).map fun i => BitVec.ofNat 8 (tget0 128 p.gain i)) ++ packRaw 6 ((List.range 4352).map (tget0 32 p.off))

def recordBytes (site passNo : Nat) (tref : Int) (p : Pegs) : Bytes :=
  let b := recordBody site passNo tref p
  b ++ leBytes 4 (crc32c b)

/-- The entry of a tuning set that stands for a record, over the pegs of the previous record. -/
def setEntry (site passNo : Nat) (tref : Int) (old new : Pegs) : Bytes :=
  let gains := (List.range 16).filter fun i => tget0 128 old.gain i != tget0 128 new.gain i
  let offs := (List.range 4352).filter fun i => tget0 32 old.off i != tget0 32 new.off i
  let b := leBytes 2 site ++ leBytesI 2 tref ++ leBytes 4 (crc32c (recordBody site passNo tref new)) ++ leBytes 1 new.drive ++
    leBytes 1 gains.length ++ leBytes 2 offs.length ++
    (gains.flatMap fun i => leBytes 1 i ++ leBytes 1 (tget0 128 new.gain i)) ++
    padTo (if gains.length % 2 = 0 then 0 else 2) [] ++
    (offs.flatMap fun i => leBytes 4 (i + tget0 32 new.off i * 2 ^ 13))
  padTo ((b.length + 3) / 4 * 4) b

/-- Close the open tuning set: its payload is pending for append (R447). -/
def State.closeSet (s : State) : State :=
  if s.keep.setBuf.isEmpty then s
  else
    (s.onKeep fun k => { k with setBuf := [] }).append 3 0x11 0 (leBytes 4 s.keep.setBuf.length ++ s.keep.setBuf.flatMap (·.2))

/-- The record of an accepted pass goes to the keep store: in full when the site's chain is empty or its entry is long. -/
def State.saveTuning (site passNo : Nat) (tref : Int) (old new : Pegs) (s : State) : State :=
  let e := setEntry site passNo tref old new
  if !s.keep.chained.contains site || 512 < e.length then
    (s.onKeep fun k => { k with chained := insertNew site k.chained }).append 3 0x10 site (recordBytes site passNo tref new)
  else
    let used := (s.keep.setBuf.map fun x => x.2.length).sum
    let s1 := if s.keep.setBuf.length = 32 ∨ 4 + used + e.length > 4032 then s.closeSet else s
    s1.onKeep fun k => { k with setBuf := k.setBuf ++ [(site, e)] }

/-! ### The end of a pass -/

/-- Causes that have a pass served at once (R258, R259, R255): emergency, substitution and SELFTEST. -/
def PassCause.atOnce : PassCause → Bool
  | .emMargin | .emReference | .substitution | .selftest => true
  | _ => false

/-- The pass is an emergency, substitution or SELFTEST pass: its candidates are loaded at once (R259), and its retry is made at once
(R255). A pass in a tuning window is none, whatever cause was pending (R244, log 79). DESIGN CHOICE (R258 makes targets of a retry pass's candidates,
R259 loads those of an emergency, substitution or SELFTEST pass, log 115): a retry made at once keeps its first pass's cause here, and its
candidates are loaded at once, though the pass log names it a retry. -/
def Passing.atOnce (p : Passing) : Bool := p.cause.atOnce && !p.window

/-- An entry of the pass log (R267). -/
def State.logPass (site : Nat) (p : Passing) (cause : PassCause) (ok : Bool) (s : State) : State :=
  s.onPassLog fun l => (⟨p.start, site, cause, ok, p.stale, s.dev.bootCount⟩ :: l).take 256

/-- A pass is accepted. The pass of a substitution ends order 4 of 02 Table 02-11. -/
def State.passAccepted (site : Nat) (p : Passing) (c : Pegs) (s : State) : State :=
  let x := s.site site
  let no := min (x.passNo + 1) 0xFFFFFFFF
  let s1 := s.onSite site fun y =>
    let z := { y with passing := none, pending := [], tref := p.temp, passNo := no, sincePass := 0, retryLost := false, outcome := 1
                      offT := c.off, gainT := c.gain, driveT := c.drive, refFails := [] }
    let u := if p.atOnce then { z with off := c.off, gain := c.gain, drive := c.drive } else z
    if y.state = .copying ∧ p.cause = .substitution then { u with copyStage := 5 } else u
  (s1.logPass site p (if p.retry then .retry else p.cause) true).saveTuning site no p.temp x.targets c

/-- A rejected retry is one failed check (R255); a standby in COPYING then leaves (02 R71), and a site in SELFTEST is ordered out (R250). -/
def State.retryRejected (site : Nat) (cause : PassCause) (b : Nat) (s : State) : State :=
  let copying := (s.site site).state == .copying
  let s1 := s.chargeRecord { kind := 0x0D, severity := 1, detected := some b, unit := .site site } b
  if (copying ∨ cause = .selftest) ∧ ¬ (s1.site site).check.retired then s1.retireSite site b else s1

/-- A pass is rejected (R255): a retry becomes pending, or is made at once; a rejected retry is a failed check. A retry at once is a pass of its
own: its batch, temperature and plane are those of its own start (R248, R251, R267). -/
def State.passRejected (site : Nat) (p : Passing) (refFails : List (Nat × Nat)) (s : State) : State :=
  let x := s.site site
  let b := if p.start = ord48 then s.dev.bOpen.getD 0 else p.start
  let last := p.retry || x.retryLost
  -- the batch in which a retry at once starts; outside any batch for one in SELFTEST
  let start := if p.start = ord48 then ord48 else (s.core (site / 5)).cur.getD ord48
  let s1 := s.logPass site p (if last then .retry else p.cause) false
  if !last then
    let y := s1.onSite site fun y =>
      { y with outcome := 2, refFails := refFails
               pending := if p.atOnce then insertCause p.cause y.pending else insertCause .retry y.pending
               passing := if p.atOnce then some { s.newPass site p.cause start true false false with held := p.held } else none }
    if p.atOnce then y.countEngine site 8 1 else y
  else
    (s1.onSite site fun y =>
      { y with outcome := 3, passing := none, retryLost := true, refFails := refFails
               pending := y.pending.filter (· != .retry) }).retryRejected site p.cause b
where
  insertCause (c : PassCause) (l : List PassCause) : List PassCause := if l.contains c then l else l ++ [c]

/-- Reference columns of a fret that failed in this pass and in the one before it (R256): record 0x0E names fret and column. -/
def State.referenceFaults (site : Nat) (p : Passing) (now : List (Nat × Nat)) (s : State) : State :=
  (now.filter fun f => (s.site site).refFails.contains f).foldl (fun t f =>
    t.record { kind := 0x0E, severity := 1, detected := if p.start = ord48 then none else some p.start, unit := .site site
               detail := [(3, .num (f.1 * 544 + f.2))] }) s

/-! ### SELFTEST passes (R250) -/

/-- The sites that tune in a round of SELFTEST: those of its site number that are not RETIRED. -/
def State.roundSites (s : State) (round : Nat) : List Nat :=
  s.activeSites.filter fun n => n % 5 == round && (s.site n).state != .retired

/-- A round starts: every core's site of that number starts its pass in parallel. -/
def State.startRound (round : Nat) (s : State) : State :=
  ((s.roundSites round).foldl (fun t n =>
    (t.onSite n fun x => { x with passing := some (s.newPass n .selftest ord48 false false false) }).countEngine n 8 1) s).onDev fun d =>
      { d with selftestRound := round + 1 }

/-- No active site runs a pass. -/
def State.noPassRuns (s : State) : Bool := s.activeSites.all fun n => (s.site n).passing.isNone

/-- SELFTEST goes on with its next round when the last one has ended; a round without a site is over at once. -/
def State.nextRound : Nat → State → State
  | 0, s => s
  | k + 1, s =>
    if s.dev.state = .selftest ∧ s.dev.selftestRound < 5 ∧ s.noPassRuns = true then State.nextRound k (s.startRound s.dev.selftestRound) else s

/-- TUNING_PASS_COMPLETE: the pass that runs on a site ends with these outcomes of its phases. DESIGN CHOICE (02 Table 02-13 does not say, log
110): its calibration bows, like the row reads of a scan, count as no executed bow of counter 01. -/
def execTuningPassComplete (site : Nat) (res : PassResult) (s : State) : Host.Outcome State Fault Refusal :=
  if site < 1280 then
    .next (if s.frozen then s else match (s.site site).passing with
      -- the window of a site that was retired in it ends without an outcome
      | none =>
        if (s.site site).state = .retired ∧ (s.core (site / 5)).droneLive.any (fun d => d.kind == 1) = true then
          (s.droneSiteDone site).refreshSeq (site / 5)
        else s
      | some p =>
        let s1 := s.referenceFaults site p (refFailsOf res)
        let s2 := if passAccepts res then s1.passAccepted site p (passCandidates res) else s1.passRejected site p (refFailsOf res)
        if (s2.site site).passing.isSome then s2
        else ((s2.droneSiteDone site).refreshSeq (site / 5)).nextRound 5)
  else .fault .noSuchUnit

/-- TUNING_SET_PERIOD_END: the 100 ms of an open tuning set end (R447). -/
def execTuningSetPeriodEnd (s : State) : Host.Outcome State Fault Refusal := .next s.closeSet

/-- One code towards a target. -/
def stepCode (now target : Nat) : Nat := if now < target then now + 1 else if target < now then now - 1 else now

/-- At the start of a batch on the core every peg of its sites moves one code towards its target (R258). -/
def Site.stepPegs (x : Site) : Site :=
  { x with
    off := (List.range 4352).foldl (fun t i => tput0 32 i (stepCode (tget0 32 x.off i) (tget0 32 x.offT i)) t) x.off
    gain := (List.range 16).foldl (fun t i => tput0 128 i (stepCode (tget0 128 x.gain i) (tget0 128 x.gainT i)) t) x.gain
    drive := stepCode x.drive x.driveT }

/-- Causes that arise at a batch opening (R248): temperature and periodic; a RETIRED site has none. -/
def State.tuningDue (site : Nat) (temp : Int) (s : State) : State :=
  s.onSite site fun x =>
    if x.state = .retired then x
    else
      let d := temp - x.tref
      let hot := decide (d.natAbs > s.walk.tuningCfg.getD 0 6 * 16)
      let n := x.sincePass + 1
      let old := decide (n ≥ s.walk.tuningCfg.getD 3 1024)
      let add (c : PassCause) (b : Bool) (l : List PassCause) : List PassCause := if b && !l.contains c then l ++ [c] else l
      { x with temp := temp, sincePass := min n 65535, pending := add .periodic old (add .temperature hot x.pending) }

end Sys2Proof.Machine
end

