-- ==== Sys2Proof/Machine/Walk.lean ====
section
/-!
DEFINITION. The start of a batch on clusters and cores: ordinals, counter banks, registers, substitutions that take effect,
counter epochs, and the blocks of a streamed tab (01_engine_to_package.md R22 to R24; 02_count_exact_crossbar.md R69, Table 02-11;
05_tablature.md R139, R141, R155, R156, R158;
06_mapping_and_tiles.md R169; 07_weight_courses.md R200, R201, R217; 16_observation.md R468).
-/

namespace Sys2Proof.Machine

/-! ### Counter epochs (R468) -/

/-- Switch the listed keys of a counter family. -/
def switchKeys (e : Nat) (keys : List Nat) (t : Tbl Ctr) : Tbl Ctr := keys.foldl (fun u k => tmod0 {} k (Ctr.toEpoch e) u) t

/-- The engine and core counters of a core, as the mask names their families. -/
def State.switchCore (core : Nat) (s : State) : State :=
  s.onObs fun o =>
    { o with
      engine := if bit o.epochMask 0 then switchKeys o.epochNo ((List.range 40).map (core * 40 + ·)) o.engine else o.engine
      core := if bit o.epochMask 1 then switchKeys o.epochNo ((List.range 8).map (core * 8 + ·)) o.core else o.core
      epochCores := o.epochCores.filter (· != core) }

/-- Place of an active cluster in the arrays of active clusters. -/
def State.clusterRank (s : State) (cl : Nat) : Nat := (s.activeClusters.filter (· < cl)).length

/-- The event counters of a cluster, with the staged selection of 7010.01 (R467). -/
def State.switchCluster (cl : Nat) (s : State) : State :=
  let sel := s.settingBytes 0x7010 1 []
  let at_ (i : Nat) : Nat := (sel.getD (s.clusterRank cl * 16 + i) 0#8).toNat
  s.onObs fun o =>
    { o with
      event := if bit o.epochMask 2 then switchKeys o.epochNo ((List.range 16).map (cl * 16 + ·)) o.event else o.event
      eventSel := if bit o.epochMask 2 then (List.range 16).foldl (fun t i => tput0 0 (cl * 16 + i) (at_ i) t) o.eventSel else o.eventSel
      epochClusters := o.epochClusters.filter (· != cl) }

/-- The counters of the base die. -/
def State.switchBase (s : State) : State :=
  s.onObs fun o =>
    { o with
      link := if bit o.epochMask 3 then switchKeys o.epochNo (List.range 48) o.link else o.link
      proto := if bit o.epochMask 4 then switchKeys o.epochNo (List.range 12) o.proto else o.proto
      macsec := if bit o.epochMask 5 then switchKeys o.epochNo (List.range 6) o.macsec else o.macsec
      imports := if bit o.epochMask 6 then switchKeys o.epochNo (List.range 2) o.imports else o.imports
      epochBase := false }

/-- The command has reached batch b_e. -/
def State.epochReached (s : State) (b : Nat) : Bool := s.obs.epochBatch.any fun e => decide (e ≤ b)

/-- At the opening of b_e the base die switches, and every core that has no tab to start the batch with. -/
def State.epochAtOpen (b : Nat) (s : State) : State :=
  if s.epochReached b then
    let s1 := if s.obs.epochBase then s.switchBase else s
    (s1.obs.epochCores.filter fun c => !(s1.walkers b).contains c).foldl (fun t c => t.switchCore c) s1
  else s

/-! ### ORDINAL_RECEIVED and CLUSTER_ORDINAL_ACCEPT -/

/-- No opened batch before b that the core walks has been passed over: it walks or has walked each, or holds its ordinal (R22). -/
def State.coreSkipsNone (s : State) (core b : Nat) : Bool :=
  let c := s.core core
  s.walk.batches.all fun x =>
    b ≤ x.ordinal || (c.ordinals.any fun m => m.ordinal == x.ordinal) || (c.cur.any fun k => decide (x.ordinal ≤ k)) ||
      (c.done.any fun k => decide (x.ordinal ≤ k)) || x.ended.contains core || !(s.walkers x.ordinal).contains core

/-- ORDINAL_RECEIVED: a core takes an ordinal that its cluster has accepted, in order (R22). -/
def execOrdinalReceived (core ordinal boot epoch : Nat) (s : State) : Host.Outcome State Fault Refusal :=
  if core < 256 then
    let c := s.core core
    .next (if s.frozen then s else match s.batch? ordinal with
      | some x =>
        if s.coreActive core && (s.cluster (core / 8)).accepted.contains ordinal && x.epoch == epoch && boot == s.dev.bootCount &&
            (c.ordinals.all fun m => m.ordinal < ordinal) && c.cur.elim true (· < ordinal) && c.done.elim true (· < ordinal) &&
            s.coreSkipsNone core ordinal then
          s.onCore core fun c => { c with ordinals := c.ordinals ++ [⟨ordinal, boot, epoch⟩] }
        else s
      | none => s)
  else .fault .noSuchUnit

/-- Every core of a cluster with a tab has completed END of a batch that is still alive. -/
def State.clusterEnded (s : State) (cl b : Nat) : Bool :=
  match s.batch? b with
  | some x => (s.walkers b).all fun k => k / 8 != cl || x.ended.contains k
  | none => true

/-- No opened batch before b that the cluster's cores walk has been passed over (R22). -/
def State.clusterSkipsNone (s : State) (cl b : Nat) : Bool :=
  s.walk.batches.all fun x =>
    b ≤ x.ordinal || ((s.cluster cl).accepted.any fun k => decide (x.ordinal ≤ k)) || s.clusterEnded cl x.ordinal

/-- CLUSTER_ORDINAL_ACCEPT: a cluster accepts an opened ordinal once its cores have completed the last but one, and opens the banks
of its work counters for it (R169). -/
def execClusterOrdinalAccept (cluster ordinal : Nat) (s : State) : Host.Outcome State Fault Refusal :=
  if cluster < 32 then
    let c := s.cluster cluster
    .next (if s.frozen then s else if s.clusterActive cluster && (s.batch? ordinal).isSome && (c.accepted.all fun b => b < ordinal) &&
        s.clusterSkipsNone cluster ordinal && (ordinal < 2 || s.clusterEnded cluster (ordinal - 2)) then
      let s1 := s.onCluster cluster fun c => { c with accepted := (ordinal :: c.accepted).take 4 }
      let s2 := (List.range 16).foldl (fun t k =>
        if ceLimit (t.counterEntry cluster (t.devSide ordinal) k) = 0 then t
        else (t.onCluster cluster (Cluster.closeBank (k * 2 + ordinal % 2))).onCtrBank cluster k ordinal fun _ =>
          { state := .opened, ordinal := ordinal }) s1
      if s2.epochReached ordinal && s2.obs.epochClusters.contains cluster then s2.switchCluster cluster else s2
    else s)
  else .fault .noSuchUnit

/-! ### CORE_BATCH_START -/

/-- A plane of the new side is ready for B*: sealed, and no write of it under way (R190). A site that is RETIRING with no standby to come runs
under full duplication as it stands (R200, 10 Table 10-7). -/
def State.planeReady (s : State) (entry core leng : Nat) : Bool :=
  match s.siteOf core leng with
  | some n => (s.site n).state == .retiring || (s.shardSealed entry core leng && (s.plane (2 * n + s.freeSide)).cls == 0)
  | none => s.shardSealed entry core leng

/-- Every plane that a core uses on the new side is ready, or has been replaced (R200); a copy into site 4 is waited for, with its order 6
(02 R70). -/
def State.coreSealed (s : State) (core b : Nat) : Bool :=
  s.capo.state != .committed || b != s.capo.bstar ||
    (!s.copyPending core && (s.stagedShards.filter fun e => e.2.1 == core).all fun e => s.planeReady e.1 e.2.1 e.2.2)

/-- The mode epoch that a core reports at the ordinal handshake of batch b: that of the latest mode change up to b which it has taken,
at the fence of R133 for a switch and with the opening of its first batch for every other change (R22, 07 R201). -/
def Core.epochAt (c : Core) (b : Nat) : Nat := ((c.epochNext.filter fun e => decide (e.1 ≤ b)).getLast?.map (·.2)).getD c.epoch

/-- Whether a core can start its next batch, and which: the epoch it reports is the one sent with the ordinal (R22). A core that a drain has
brought to STOPPED while an opened batch is still to be walked (16 R479) starts it from there (log 86). -/
def State.startable (s : State) (core : Nat) : Option OrdinalMsg :=
  let c := s.core core
  match c.ordinals with
  | [] => none
  | m :: _ =>
    let side := s.sideOf core m.ordinal
    if (c.seq = .idle ∨ (c.seq = .stopped ∧ s.dev.draining)) ∧ (s.tab? core side).isSome = true ∧ c.side = side ∧ c.fenced ∧
        ¬ c.refetch ∧ c.epochAt m.ordinal = m.epoch then some m
    else none

/-- A substitution takes effect (Table 02-11, orders 5 and 6): site 4 carries the engine from this batch, and takes the staged
shard into its other plane while an image is staged. -/
def State.substitute (core b : Nat) (s : State) : State :=
  let n4 := core * 5 + 4
  let x4 := s.site n4
  match x4.state, x4.copyFor with
  | .copying, some f =>
    if x4.copyStage = 5 then
      let old := s.site (core * 5 + f)
      let leng := ((s.core core).subst.findIdx? (· == f)).getD 4
      let s1 := s.onSite (core * 5 + f) Site.retire
      let s2 := s1.onSite n4 fun x =>
        { x with state := .substitute, copyFor := none, copyStage := 6, fretA := old.fretA, fretB := old.fretB }
      let s3 := (s2.onCore core fun c => { c with subst := c.subst.set leng 4 }).record
        { kind := 0x17, severity := 0, detected := some b, unit := .site (core * 5 + f), unit2 := some (.site n4) }
      let staging := s3.capo.state == .staging || s3.capo.state == .staged || s3.capo.state == .armed || s3.capo.state == .committed
      if staging then
        match s3.stagedShards.find? fun e => e.2.1 == core && e.2.2 == leng with
        | some e =>
          match s3.object? s3.freeSide e.1 with
          | some o => s3.stageShard s3.freeSide e.1 core leng 1 o
          | none => s3
        | none => s3
      else s3
    else s
  | _, _ => s

/-- A site that was retired without a standby leaves: its logical engine is lost from this batch (10 R296). -/
def State.dropLost (core : Nat) (s : State) : State :=
  (List.range 5).foldl (fun t i =>
    if (t.site (core * 5 + i)).leaving then t.loseEngine (core * 5 + i) else t) s

/-- Per-batch counts of a core's sites restart, and their pegs take one step (09 R246, R258). -/
def State.resetSites (core b : Nat) (s : State) : State :=
  (List.range 5).foldl (fun t i => t.onSite (core * 5 + i) fun x =>
    ({ x with margins := 0, misses := 0, replays := 0, replayCharged := false
              staleRuns := x.staleRuns.filter fun e => b ≤ e.1 } : Site).stepPegs) s

/-- The registers of a core at the start of a batch (R139, R141). `blocks`: the blocks of its tab that the tab buffer holds then. A token that
a timed-out WAIT has given up stays to be discarded whenever it comes (R148). -/
def Core.enter (c : Core) (m : OrdinalMsg) (draining : Bool) (blocks : List Nat) : Core :=
  let b := m.ordinal
  { c with
    seq := if draining then .draining else .walk
    cur := some b, next := 0, ordinals := c.ordinals.tail, epoch := c.epochAt b
    epochNext := c.epochNext.filter fun e => decide (b < e.1), ring := blocks, moves := []
    preds := [true, true, true, true, true, true, true, true]
    limits := [65535, 65535, 65535, 65535, 65535, 65535, 65535, 65535]
    tiles := [65535, 65535, 65535, 65535], grants := [none, none, none, none], banks := [{}, {}, {}, {}]
    flight := [], scenes := [], sync := [], droneLive := none, marks := [], published := []
    dead := c.dead.filter fun e => b ≤ e.1
    channels := c.channels.filter fun t => b ≤ t.ordinal
    deadFrom := c.deadFrom.filter fun e => b ≤ e.1 + 1
    journal := c.journal.filter fun e => b ≤ e.ordinal + 1
    journalBad := c.journalBad.filter fun e => b ≤ e + 1
    journalSubst := (c.journalSubst.filter fun e => b ≤ e.1 + 1) ++ [(b, c.subst)] }

/-- Every core of the new programme has started B*, or has ended it. -/
def State.switchStarted (s : State) : Bool :=
  let b := s.capo.bstar
  s.capo.state == .committed && (s.tabsOf s.freeSide).all fun e =>
    (s.core e.1).cur == some b || ((s.batch? b).map fun (x : Batch) => x.ended.contains e.1).getD false

/-- CORE_BATCH_START: a core that holds the next ordinal, is idle, and stands on the batch's side starts it. Substitutions take
effect first; B* waits until every plane that the core then uses is sealed (07 R200, log 52). -/
def execCoreBatchStart (core : Nat) (s : State) : Host.Outcome State Fault Refusal :=
  if core < 256 then
    .next (match s.startable core with
      | none => s
      | some m =>
        let b := m.ordinal
        let s0 := (s.substitute core b).dropLost core
        if !s0.coreSealed core b then s0 else
        let s1 := s0.resetSites core b
        let blocks := (s1.tab? core (s1.core core).side).elim [] fun t => if t.resident then List.range t.blocks else []
        let s2 := (s1.onCore core fun c => c.enter m s.dev.draining blocks).countEvent (core / 8) 0x4C 1
        -- tokens of earlier batches left the channels
        let s2 := (s2.admitTokens core).pump core
        let s3 := if s2.epochReached b && s2.obs.epochCores.contains core then s2.switchCore core else s2
        let s4 := if s3.switchStarted then s3.capoSelect else s3
        s4.refreshSeq core)
  else .fault .noSuchUnit

/-! ### Tab blocks (R155, R156) -/

/-- Sources of a block in the order in which they are asked: 0 the soundboard copy, 1 and 2 the DRAM copies. A block that the tab buffer
lacks is fetched from the soundboard copy when TCEN is 1, else from DRAM; what follows, and every fetch of a block that is there, is a
fetch again under R156. -/
def blockSources (t : Tab) (first : Bool) : List Nat :=
  (if first then (if t.tcen then [0] else [1]) else []) ++ (if t.tcen then [0] else []) ++ [1, 2]

/-- A source holds the block: the soundboard copy as the soundboard has it now (log 78). -/
def State.sourceHolds (s : State) (core block : Nat) (t : Tab) (src : Nat) : Bool :=
  src != 0 || s.load (.sb (core / 8)) (t.blockAt block) (t.blockBytes block).length == t.blockBytes block

/-- What the fetches of a block came to: the state with the fetches counted, the sources that failed, and whether a good one was found. -/
structure Fetched where
  s : State
  failed : List Nat
  good : Bool
  deriving DecidableEq, Repr

/-- Make the fetches, up to the first good one. `ok` says of each source asked whether the block came with good parity and its expected
STEPNOs. -/
def State.fetchFrom (core block : Nat) (t : Tab) : List Nat → List Bool → Bool → List Nat → State → Fetched
  | [], _, _, failed, s => ⟨s, failed, false⟩
  | src :: l, ok, again, failed, s =>
    let s1 := s.countEvent (core / 8) (if src = 0 then 0x44 else 0x45) 1
    let s2 := if again then s1.countCore core 8 1 else s1
    if ok.headD false && s.sourceHolds core block t src then ⟨s2, failed, true⟩
    else State.fetchFrom core block t l ok.tail true (insertNew src failed) s2

/-- Each failed copy of a block is rewritten from the first good source (R156): the soundboard copy in its lines, the DRAM copies in theirs. -/
def State.rewriteBlock (core block : Nat) (t : Tab) (failed : List Nat) (s : State) : State :=
  let key := core * 2 + (s.core core).side
  let s1 := if failed.contains 0 then s.storeLines (.sb (core / 8)) (t.blockAt block) (t.blockBytes block) false else s
  s1.onMem fun m => { m with tabBad := m.tabBad.filter fun e => !(e.1 == key && failed.contains e.2) }

/-- The side that a core walks is fetched again, from the sources of its image (07 Table 07-4). -/
def State.askTab (core : Nat) (s : State) : State :=
  let side := (s.core core).side
  match (s.sideImage side).bind fun i => i.entries.findIdx? fun e => e.kind == 3 && e.unit % 256 == core with
  | some n => s.fetchAgain side n
  | none => s

/-- Every source of a block has failed: the core abandons its walk, the runs of its tab die with cause 0x06, and the side is
fetched again. A batch that opened meanwhile is one that the core does not walk; its runs are VOID there too (log 74). -/
def State.tabLost (core b : Nat) (t : Tab) (s : State) : State :=
  let draining := (s.core core).seq == .draining
  let s1 := ((listOf 16 t.runmask).foldl (fun u r => u.runDiesHere core b r 6) s).record
    { kind := 0x0B, severity := 2, detected := some b, unit := .core core, reactions := [2] }
  let s2 := (s1.abandonWalk core).leaveBatch core b
  let late := (s2.walk.batches.map (·.ordinal)).filter fun n => decide (b < n)
  let s3 := (late.foldl (fun u n => (u.killCoreRunsBy 6 core n).leaveBatch core n) s2).onCore core fun c =>
    { c with refetch := true, ordinals := [], seq := if draining then .stopped else .idle }
  s3.askTab core

/-- TAB_BLOCK_FETCH: a block of the tab of a walking core is fetched into the tab buffer, up to 7 blocks ahead of issue (R155), or fetched
again because a step of it failed its check (R156). -/
def execTabBlockFetch (core block : Nat) (good : List Bool) (s : State) : Host.Outcome State Fault Refusal :=
  if core < 256 then
    let c := s.core core
    .next (match c.cur, s.tab? core c.side with
      | some b, some t =>
        let now := c.next / 256
        if (c.seq = .walk ∨ c.seq = .stalled ∨ c.seq = .draining) ∧ ¬ c.refetch ∧ block < t.blocks ∧
            (t.resident = true ∨ now ≤ block ∧ block ≤ now + 7) then
          let first := !t.resident && !c.ring.contains block
          let r := s.fetchFrom core block t (blockSources t first) good (!first) []
          if r.good then
            ((r.s.rewriteBlock core block t r.failed).onCore core fun k =>
              { k with ring := insertNew block (k.ring.filter fun n => t.resident || decide (now ≤ n)) }).refreshSeq core
          else
            let key := core * 2 + c.side
            (r.s.onMem fun m => { m with tabBad := r.failed.foldl (fun l n => if l.contains (key, n) then l else l ++ [(key, n)]) m.tabBad }).tabLost
              core b t
        else s
      | _, _ => s)
  else .fault .noSuchUnit

end Sys2Proof.Machine
end

