-- ==== Sys2Proof/Machine/Intake.lean ====
section
/-!
DEFINITION. Cameras and batches: frames, capture sets, the opening of batches, the device-wide changes of intake and checking policy,
and imported tensors (11_cameras_results_scene.md R312 to R327; 10_fault_containment.md R281; 12_exham_group.md R373, R376;
07_weight_courses.md R199; 15_keep_store.md R460).
-/

namespace Sys2Proof.Machine

/-! ### Intake settings (R314, R324) -/

/-- Keys of the settings that an intake change puts in force: 3000.02 to 3000.08, the stream records, the port lanes. -/
def intakeKey (k : Nat) : Bool :=
  (0x300002 ≤ k && k ≤ 0x300008) || (k % 256 == 1 && 0x3010 ≤ k / 256 && k / 256 ≤ 0x3030)

def policyKey (k : Nat) : Bool := k == 0x500001 || k == 0x500002

/-- A number among intake settings. -/
def cfgNum (cfg : List (Nat × Bytes)) (idx sub dflt : Nat) : Nat :=
  ((cfg.find? fun e => e.1 == idx * 256 + sub).map fun e => leNat e.2).getD dflt

/-- Lanes of a port (3030.01). -/
def cfgLanes (cfg : List (Nat × Bytes)) (port : Nat) : Nat :=
  ((((cfg.find? fun e => e.1 == 0x303001).map (·.2)).getD []).getD port 0#8).toNat

/-- The settings that batch b uses: those of a committed change from its B* on. -/
def State.intakeFor (s : State) (b : Nat) : List (Nat × Bytes) :=
  if s.walk.intake.state = 2 ∧ s.walk.intake.bstar ≤ b then s.walk.intake.staged else s.walk.intakeCfg

/-- The ordinal of the next batch. -/
def State.nextOrd (s : State) : Nat := match s.dev.bOpen with
  | some b => b + 1
  | none => 0

/-- The settings of a set that begins now: those of the batch that it will become, behind the sets that wait. -/
def State.intakeNext (s : State) : List (Nat × Bytes) := s.intakeFor (s.nextOrd + s.walk.sets.length)

/-- Fields of a stream configuration (Table 11-2). -/
def cfgPort (c : Bytes) : Nat := bits (num c 0 4) 4 1
def cfgVc (c : Bytes) : Nat := bits (num c 0 4) 8 5
def cfgDt (c : Bytes) : Nat := bits (num c 0 4) 14 9
def cfgUnsigned (c : Bytes) : Bool := bit (num c 0 4) 17
def cfgSrcW (c : Bytes) : Nat := bits (num c 4 4) 12 0
def cfgSrcH (c : Bytes) : Nat := bits (num c 4 4) 28 16
def cfgCropX (c : Bytes) : Nat := bits (num c 8 4) 12 0
def cfgCropY (c : Bytes) : Nat := bits (num c 8 4) 28 16
def cfgCropW (c : Bytes) : Nat := bits (num c 0xC 4) 12 0
def cfgCropH (c : Bytes) : Nat := bits (num c 0xC 4) 28 16
def cfgShift (c : Bytes) : Nat := bits (num c 0x14 4) 4 0
def cfgZp (c : Bytes) : Int :=
  if cfgUnsigned c then (bits (num c 0x14 4) 15 8 : Nat) else sext 8 (bits (num c 0x14 4) 15 8)

/-- Bits of a sample of a data type, 0 for one outside Table 11-1. -/
def dtBits (dt : Nat) : Nat := if dt = 0x1E then 8 else if dt = 0x2B then 10 else if dt = 0x2C then 12 else if dt = 0x2E then 16 else 0

/-- R314: the check of a stream record that is written. -/
def streamCfgOk (c : Bytes) : Bool :=
  let w0 := num c 0 4
  let raw := bits w0 16 15
  c.length == 64 && bits w0 31 18 == 0 && bits (num c 4 4) 15 13 == 0 && bits (num c 4 4) 31 29 == 0 && bits (num c 8 4) 15 13 == 0 &&
    bits (num c 8 4) 31 29 == 0 && bits (num c 0xC 4) 15 13 == 0 && bits (num c 0xC 4) 31 29 == 0 && bits (num c 0x10 4) 15 12 == 0 &&
    bits (num c 0x10 4) 31 28 == 0 && bits (num c 0x14 4) 7 5 == 0 && bits (num c 0x14 4) 31 16 == 0 &&
    (slice c 0x28 24).all (· == 0#8) &&
    (!cfgEn c ||
      (dtBits (cfgDt c) != 0 && 1 ≤ cfgSrcW c && cfgSrcW c ≤ 4096 && 1 ≤ cfgSrcH c && cfgSrcH c ≤ 4096 && 1 ≤ cfgCropW c &&
        1 ≤ cfgCropH c && cfgCropX c + cfgCropW c ≤ cfgSrcW c && cfgCropY c + cfgCropH c ≤ cfgSrcH c && 1 ≤ cfgOutW c &&
        cfgOutW c ≤ 2048 && 1 ≤ cfgOutH c && cfgOutH c ≤ 2048 &&
        (cfgDt c == 0x1E ||
          (raw == 0 && cfgOutW c == cfgCropW c && cfgOutH c == cfgCropH c && cfgCropX c % 2 == 0 && cfgCropY c % 2 == 0) ||
          (raw == 1 && cfgCropX c % 2 == 0 && cfgCropY c % 2 == 0 && cfgCropW c % 2 == 0 && cfgCropH c % 2 == 0 && 2 ≤ cfgCropW c &&
            2 ≤ cfgCropH c))))

/-! ### Resize and normalise (R315, R316) -/

/-- Sample of a channel of the crop: line l, pixel i. The bytes of a YUV422 line are U, Y, V, Y of each pixel pair (PRESUMED, log 29). -/
def cropSample (c : Bytes) (src : List (List Nat)) (ch l i : Nat) : Nat :=
  let at_ (y x : Nat) : Nat := (src.getD y []).getD x 0 % 2 ^ dtBits (cfgDt c)
  let x := cfgCropX c + i
  let y := cfgCropY c + l
  if cfgDt c = 0x1E then
    match ch with
    | 0 => at_ y (2 * x + 1)
    | 1 => at_ y (x / 2 * 4)
    | _ => at_ y (x / 2 * 4 + 2)
  else if cfgChannels c = 4 then at_ (cfgCropY c + 2 * l + ch / 2) (cfgCropX c + 2 * i + ch % 2)
  else at_ y x

/-- One output pixel (R315). -/
def normPixel (c : Bytes) (src : List (List Nat)) (ch w h sx sy j k : Nat) : Int :=
  let pos (n step top : Nat) : Nat := min (n * step + step / 2 - 32768) (top * 65536)
  let u := pos j sx (w - 1)
  let v := pos k sy (h - 1)
  let i0 := u / 65536
  let i1 := min (i0 + 1) (w - 1)
  let a := u / 256 % 256
  let l0 := v / 65536
  let l1 := min (l0 + 1) (h - 1)
  let b := v / 256 % 256
  let p := cropSample c src ch
  let t := (256 - a) * (256 - b) * p l0 i0 + a * (256 - b) * p l0 i1 + (256 - a) * b * p l1 i0 + a * b * p l1 i1
  let r := rne (t : Int) 16
  let off : Int := (num c (0x18 + 2 * ch) 2 : Nat)
  let gain : Int := (num c (0x20 + 2 * ch) 2 : Nat)
  let q := rne ((r - off) * gain) (cfgShift c) + cfgZp c
  if cfgUnsigned c then sat q 0 255 else sat q (-128) 127

/-- The output rows of a frame, channel after channel. -/
def frameRows (c : Bytes) (src : List (List Nat)) : List Bytes :=
  let quad := if cfgChannels c = 4 then 2 else 1
  let w := cfgCropW c / quad
  let h := cfgCropH c / quad
  let sx := w * 65536 / cfgOutW c
  let sy := h * 65536 / cfgOutH c
  (List.range (cfgChannels c)).flatMap fun ch => (List.range (cfgOutH c)).map fun k =>
    (List.range (cfgOutW c)).map fun j => BitVec.ofInt 8 (normPixel c src ch w h sx sy j k)

/-- The frame digest (R316). -/
def frameDigest (stream : Nat) (c : Bytes) (rows : List Bytes) : Bytes :=
  digest32 (leBytes 1 stream ++ leBytes 1 (cfgChannels c) ++ leBytes 2 (cfgOutW c) ++ leBytes 2 (cfgOutH c) ++
    leBytes 1 (cfgUnsigned c).toNat ++ zeros 9 ++ rows.flatten)

/-- The bytes stored: each row padded to 64 bytes. -/
def frameBytes (rows : List Bytes) : Bytes := rows.flatMap fun r => padTo ((r.length + 63) / 64 * 64) r

/-! ### Capture sets (R317, R322) -/

/-- A set can become a batch: every member's frame is complete, or its deadline has expired (R318). -/
def CapSet.ready (x : CapSet) : Bool :=
  x.deadline || (cfgMembers x.cfg).all fun k => x.frames.any fun f => f.stream == k

/-- Buffers in use by sets that wait and by batches that are not released. -/
def State.buffersUsed (s : State) : List Nat :=
  s.walk.sets.map (·.buf) ++ (s.walk.batches.filter fun x => !x.released).filterMap (·.buf)

def State.freeBuffer (s : State) : Option Nat := (List.range 3).find? fun k => !s.buffersUsed.contains k

/-- A set is dropped, with record 0x21 naming its first frame (R321, R322). -/
def State.dropSet (first : Nat × Nat) (s : State) : State :=
  s.record { kind := 0x21, severity := 1, unit := .intake, detail := [(13, .num first.1), (14, .num first.2)] }

/-- A capture set begins at a frame start, unless it is dropped under 3000.05 or for want of a buffer. The dropped set keeps its
window, in which further frame starts begin nothing. -/
def State.beginSet (first : Nat × Nat) (cfg : List (Nat × Bytes)) (early : Bool) (s : State) : State :=
  let add (k : Nat) (t : State) : State := t.onWalk fun w =>
    let x : CapSet := { first := first, buf := k, cfg := cfg, taken := [], frames := [], windowOpen := true, deadline := false }
    { w with sets := x :: w.sets, window := some first, windowSet := some x }
  let miss (t : State) : State := (t.dropSet first).onWalk fun w => { w with window := some first, windowSet := none }
  if early ∧ cfgNum cfg 0x3000 5 0 ≠ 0 then miss s
  else
    match s.freeBuffer with
    | some k => add k s
    | none =>
      match s.walk.sets.getLast? with
      | some old =>
        if cfgNum cfg 0x3000 4 0 = 0 then
          -- frames of the dropped set that are still coming belong to none
          add old.buf ((s.onWalk fun w =>
            { w with sets := w.sets.dropLast, filling := w.filling.map fun f => if f.set = some old.first then { f with set := none } else f }).dropSet
              old.first)
        else miss s
      | none => miss s

def State.onSet (first : Nat × Nat) (f : CapSet → CapSet) (s : State) : State :=
  s.onWalk fun w => { w with sets := w.sets.map fun x => if x.first = first then f x else x }

/-- The set whose window is open: it may have opened its batch already. -/
def State.windowSet (s : State) : Option CapSet := s.walk.window.bind fun f => s.walk.windowSet.filter fun x => x.first == f

/-- A frame start of stream k: its frame is counted, and belongs to the set whose window is open when it is the stream's first in it. -/
def State.startFrame (cfg : List (Nat × Bytes)) (s : State) (k : Nat) : State :=
  let seq := tget0 0 s.walk.frameSeq k
  let set := s.windowSet
  let member := cfgEn (cfgStream cfg k)
  let inSet := match set with
    | some x => member && !x.taken.contains k
    | none => false
  let frame : Frame :=
    { stream := k, buf := (set.map (·.buf)).getD 0, seq := seq, digest := [], complete := false, lines := 0, bad := false
      set := if inSet then set.map (·.first) else none, cfg := cfgStream cfg k, samples := [] }
  let s1 := s.onWalk fun w =>
    { w with filling := w.filling ++ [frame]
             csiIgnored := if member && set.isSome && !inSet then w.csiIgnored + 1 else w.csiIgnored }
  match set with
  | some x =>
    if inSet then
      (s1.onSet x.first fun y => { y with taken := y.taken ++ [k] }).onWalk fun w =>
        { w with windowSet := w.windowSet.map fun y => { y with taken := y.taken ++ [k] } }
    else s1
  | none => s1

/-- Intake receives packets from boot on, but not in replay mode (08 R239). -/
def State.intakeOn (s : State) : Bool := s.dev.state != .boot && s.dev.state != .halted && !s.walk.replay

/-- A packet is discarded and counted (R312). -/
def State.discardPacket (s : State) : State := s.onWalk fun w => { w with csiDiscards := w.csiDiscards + 1 }

/-- A header error on a VC breaks the frames that are being received on it (R313). -/
def State.headerError (port vc : Nat) (s : State) : State :=
  (s.onWalk fun w =>
    { w with filling := w.filling.map fun f => if cfgPort f.cfg = port ∧ cfgVc f.cfg = vc then { f with bad := true } else f }).discardPacket

/-- A corrected header is counted (R312). -/
def State.correctedHeader (ecc : Nat) (s : State) : State :=
  if ecc = 1 then s.onWalk fun w => { w with csiCorrected := w.csiCorrected + 1 } else s

/-- The settings under which a frame that starts now is received: those of the set whose window is open, else of the next set. -/
def State.intakeNow (s : State) : List (Nat × Bytes) :=
  match s.windowSet with
  | some x => x.cfg
  | none => s.intakeNext

/-- A frame start on a port and VC: the streams there start a frame each, and the first may begin a capture set. -/
def State.frameStart (port vc : Nat) (early : Bool) (s : State) : State :=
  let cfg := s.intakeNow
  let streams := (cfgMembers cfg).filter fun k => cfgPort (cfgStream cfg k) == port && cfgVc (cfgStream cfg k) == vc
  match streams with
  | [] => s
  | k :: _ =>
    let s1 := s.onWalk fun w => { w with frameSeq := streams.foldl (fun t j => tmod0 0 j (fun n => (n + 1) % 2 ^ 32) t) w.frameSeq }
    let begins := s1.walk.window.isNone && cfgNum cfg 0x3000 6 0 == 0
    let s2 := if begins then s1.beginSet (k, tget0 0 s1.walk.frameSeq k) cfg early else s1
    streams.foldl (State.startFrame cfg) s2

/-- CSI2_FRAME_START: a frame start short packet. -/
def execCsi2FrameStart (port vc ecc : Nat) (early : Bool) (s : State) : Host.Outcome State Fault Refusal :=
  if port < 16 ∧ vc < 16 then
    .next (if !s.intakeOn then s
      else if ecc ≥ 2 then s.headerError port vc
      else if cfgLanes s.intakeNow port = 0 then s.discardPacket
      else (s.correctedHeader ecc).frameStart port vc early)
  else .fault .noSuchUnit

/-- A long packet reaches the frames of its stream that are being received. -/
def State.longPacket (port vc dt : Nat) (crcOk : Bool) (samples : List Nat) (s : State) : State :=
  let mine (f : Frame) : Bool := cfgPort f.cfg == port && cfgVc f.cfg == vc && cfgDt f.cfg == dt
  let width (c : Bytes) : Nat := if dt = 0x1E then 2 * cfgSrcW c else cfgSrcW c
  s.onWalk fun w =>
    { w with filling := w.filling.map fun f =>
        if mine f then
          if crcOk ∧ samples.length = width f.cfg then { f with lines := f.lines + 1, samples := f.samples ++ [samples] }
          else { f with bad := true }
        else f }

/-- CSI2_LONG_PACKET: a long packet; one outside Table 11-1 is discarded and counted. -/
def execCsi2LongPacket (port vc dt ecc : Nat) (crcOk : Bool) (samples : List Nat) (s : State) : Host.Outcome State Fault Refusal :=
  if port < 16 ∧ vc < 16 then
    .next (if !s.intakeOn then s
      else if ecc ≥ 2 then s.headerError port vc
      else if dtBits dt = 0 ∨ cfgLanes s.intakeNow port = 0 then (s.correctedHeader ecc).discardPacket
      else (s.correctedHeader ecc).longPacket port vc dt crcOk samples)
  else .fault .noSuchUnit

/-- A LOST stream's second consecutive complete frame makes it OK again (R320). -/
def State.goodFrame (k : Nat) (s : State) : State :=
  if s.walk.lost.contains k then
    if tget0 0 s.walk.goodRun k ≥ 1 then
      (s.onWalk fun w => { w with lost := w.lost.filter (· != k), goodRun := tput0 0 k 0 w.goodRun }).record
        { kind := 0x23, severity := 0, unit := .intake, detail := [(13, .num k)] }
    else s.onWalk fun w => { w with goodRun := tput0 0 k 1 w.goodRun }
  else s

/-- The streams of a set that are absent: no complete frame, or LOST (R319, R320). -/
def State.setAbsent (s : State) (x : CapSet) : List Nat :=
  (cfgMembers x.cfg).filter fun k => !(x.frames.any fun f => f.stream == k) || s.walk.lost.contains k

/-- The oldest set. -/
def State.oldestSet (s : State) : Option CapSet := s.walk.sets.getLast?

/-- In a group a member sends READY for the set of the next batch once it is complete or its deadline has expired (12 R373). -/
def State.tellReady (s : State) : State :=
  match s.oldestSet with
  | some x => if x.ready then s.groupMsg 0x20 255 [s.nextOrd % 2 ^ 32, maskOf 32 (s.setAbsent x), 0] [] else s
  | none => s

/-- READY when the oldest set turns ready. -/
def sayReady (before : State) (s : State) : State := if (before.oldestSet.map CapSet.ready).getD false then s else s.tellReady

/-- A complete frame of a set: it is normalised, written to its buffer and digested (R315, R316). -/
def State.storeFrame (f : Frame) (s : State) : State :=
  let rows := frameRows f.cfg f.samples
  let done : Frame := { f with complete := true, digest := frameDigest f.stream f.cfg rows, samples := [] }
  let s1 := s.storeLines (.frame f.stream f.buf) 0 (frameBytes rows) false
  match f.set with
  | some first => s1.onSet first fun x => { x with frames := x.frames ++ [done] }
  | none => s1

/-- A frame ends: complete or broken (R313). A complete frame that comes after its set's deadline, or loses to it, is late (R318). -/
def State.endFrame (wins : Bool) (s : State) (f : Frame) : State :=
  if f.bad ∨ f.lines ≠ cfgSrcH f.cfg then
    (s.onWalk fun w => { w with goodRun := tput0 0 f.stream 0 w.goodRun }).record
      { kind := 0x22, severity := 1, unit := .intake, detail := [(13, .num f.stream), (14, .num f.seq)] }
  else
    let s1 := s.goodFrame f.stream
    match f.set with
    | none => s1
    | some first =>
      match s1.walk.sets.find? fun x => x.first == first with
      | some x =>
        if x.deadline then s1.onWalk fun w => { w with csiLate := w.csiLate + 1 }
        -- the deadline was granted in its place (01 R31)
        else if ¬ wins then (s1.onSet first fun y => { y with deadline := true }).onWalk fun w => { w with csiLate := w.csiLate + 1 }
        else s1.storeFrame f
      -- its batch has opened
      | none => s1.onWalk fun w => { w with csiLate := w.csiLate + 1 }

/-- CSI2_FRAME_END: a frame end short packet ends the frames of its port and VC. `wins`: the frame wins against the deadline. -/
def execCsi2FrameEnd (port vc ecc : Nat) (wins : Bool) (s : State) : Host.Outcome State Fault Refusal :=
  if port < 16 ∧ vc < 16 then
    .next (if !s.intakeOn then s
      else if ecc ≥ 2 then s.headerError port vc
      else
        let mine (f : Frame) : Bool := cfgPort f.cfg == port && cfgVc f.cfg == vc
        let s1 := (s.correctedHeader ecc).onWalk fun w => { w with filling := w.filling.filter fun f => !mine f }
        sayReady s ((s.walk.filling.filter mine).foldl (State.endFrame wins) s1))
  else .fault .noSuchUnit

/-- CAPTURE_WINDOW_CLOSE: the window of the newest set closes; the next frame start begins a set. -/
def execCaptureWindowClose (s : State) : Host.Outcome State Fault Refusal :=
  .next (s.onWalk fun w =>
    { w with window := none, windowSet := none
             sets := w.sets.map fun x => if some x.first = w.window then { x with windowOpen := false } else x })

/-- BATCH_DEADLINE: the deadline of the oldest set that is still incomplete expires. No deadline applies in replay mode. -/
def execBatchDeadline (s : State) : Host.Outcome State Fault Refusal :=
  .next (if s.walk.replay then s
    else match (s.walk.sets.filter fun x => !x.ready).getLast? with
      | some x => sayReady s (s.onSet x.first fun y => { y with deadline := true })
      | none => s)

/-- STREAM_LOSS: a member stream without a frame start for 3000.08 becomes LOST (R320). -/
def execStreamLoss (stream : Nat) (s : State) : Host.Outcome State Fault Refusal :=
  if stream < 32 then
    .next (if (s.dev.state = .ready ∨ s.dev.state = .serving ∨ s.dev.state = .degraded) ∧ ¬ s.walk.replay ∧
        cfgEn (cfgStream s.walk.intakeCfg stream) = true ∧ ¬ s.walk.lost.contains stream = true then
      (s.onWalk fun w => { w with lost := w.lost ++ [stream], goodRun := tput0 0 stream 0 w.goodRun }).record
        { kind := 0x23, severity := 2, unit := .intake, detail := [(13, .num stream)] }
    else s)
  else .fault .noSuchUnit

/-- PERIODIC_BATCH: with periodic batch source the timer makes an opening due (R321). A period that ends while an opening is due is
lost (log 30). No schedule runs in replay mode. -/
def execPeriodicBatch (s : State) : Host.Outcome State Fault Refusal :=
  .next (if s.dev.batchOpening ∧ ¬ s.walk.replay ∧ cfgNum (s.intakeFor s.nextOrd) 0x3000 6 0 = 1 ∧ ¬ s.walk.periodDue then
      (s.onWalk fun w => { w with periodDue := true }).groupMsg 0x20 255 [s.nextOrd % 2 ^ 32, 0, 0] []
    else s)

/-! ### Changes of intake and policy (R281, R324) -/

/-- The two changes that carry settings. -/
inductive Kind where
  | policy | intake
  deriving DecidableEq, Repr

def State.change (s : State) : Kind → Change
  | .policy => s.walk.policy
  | .intake => s.walk.intake

def State.onChange (k : Kind) (f : Change → Change) (s : State) : State :=
  match k with
  | .policy => s.onWalk fun w => { w with policy := f w.policy }
  | .intake => s.onWalk fun w => { w with intake := f w.intake }

/-- Change kinds of the ARM message (log 31). -/
def Kind.code : Kind → Nat
  | .policy => 1 | .intake => 2

/-- The settings staged in the dictionary for a change. -/
def State.stagedFor (s : State) (k : Kind) : List (Nat × Bytes) :=
  s.dict.settings.filter fun e => match k with
    | .policy => policyKey e.1
    | .intake => intakeKey e.1

/-- The loaded programme, or one that is staged or armed on the other side, consumes a camera stream (R319, R324). -/
def State.cameraUsed (s : State) : Bool :=
  (s.capo.side :: (if (s.sideImage s.freeSide).isSome then [s.freeSide] else [])).any fun side =>
    (List.range 16).any fun r => !(s.runStreams side r).isEmpty

/-- The condition that an ARM fails, none when it is accepted. -/
def State.changeFault (k : Kind) (b : Nat) (s : State) : Option Nat :=
  if !s.bstarOk b then some 2
  else if k = .intake ∧ cfgNum (s.stagedFor k) 0x3000 6 0 = 1 ∧ s.cameraUsed then some 7
  else none

/-- A change is armed, or committed with its B* not yet opened. -/
def State.changeBusy (k : Kind) (s : State) : Bool :=
  (s.change k).state == 1 || ((s.change k).state == 2 && decide (((s.change k).bstar : Int) > s.openOrd))

/-- The change is armed, with the values staged now. -/
def State.armChange (k : Kind) (b : Nat) (s : State) : State :=
  s.onChange k fun _ => { state := 1, bstar := b, staged := s.stagedFor k }

/-- The target ordinal of a change: 5000.07, 3000.09. -/
def State.changeTarget (s : State) : Kind → Nat
  | .policy => s.setting 0x5000 7 0
  | .intake => s.setting 0x3000 9 0

/-- ARM of 5000.08 or 3000.0A. In a group the leader asks the members, and its answer waits for them (R376). -/
def State.changeArm (k : Kind) (s : State) : Reply :=
  let b := s.changeTarget k
  if s.notLeader then Reply.refused 4 s.group.leader s
  else if s.changeBusy k then Reply.refused 0xB (s.change k).state s
  else match s.changeFault k b with
    | some c => Reply.refused 5 c (s.onChange k fun x => { x with state := 4 })
    | none =>
      let s1 := s.armChange k b
      if s.inGroup then
        { s := s1.askMembers k.code b (some s.dict.answerNo), wait := true }
      else Reply.ok s1

/-- WITHDRAW of 5000.08 or 3000.0A. -/
def State.changeWithdraw (k : Kind) (s : State) : Reply :=
  if s.notLeader then Reply.refused 4 s.group.leader s
  else if (s.change k).state = 1 then Reply.ok ((s.onChange k fun x => { x with state := 3 }).disarmGroup k.code)
  else if s.changeBusy k then Reply.refused 3 0 s
  else Reply.refused 0xB (s.change k).state s

/-- The commit decision at the opening of batch B* - 2. -/
def State.changeDecide (k : Kind) (b decision : Nat) (s : State) : State :=
  let c := s.change k
  if c.state = 1 ∧ c.bstar ≤ b + 2 then
    let ok := !s.inGroup || decision == 1
    s.onChange k fun x => { x with state := if ok then 2 else 3 }
  else s

/-- A committed change takes effect at batch B*. -/
def State.changeEffect (b : Nat) (s : State) : State :=
  let p := s.walk.policy
  let s1 := if p.state = 2 ∧ p.bstar = b then
      s.onWalk fun w => { w with fraction := cfgNum p.staged 0x5000 1 2, release := cfgNum p.staged 0x5000 2 0 }
    else s
  let i := s1.walk.intake
  if i.state = 2 ∧ i.bstar = b then
    s1.onWalk fun w =>
      { w with intakeCfg := i.staged
               lost := w.lost.filter fun k => cfgEn (cfgStream i.staged k)
               goodRun := w.goodRun.filter fun e => cfgEn (cfgStream i.staged e.1) }
  else s1

/-- Some change takes effect at batch b: it carries the next mode epoch (07 R201, 10 R281, 11 R324, 12 R378). Several changes with the
same B* advance the epoch once (log 75, DESIGN CHOICE). -/
def State.epochStep (s : State) (b : Nat) : Bool :=
  (s.walk.policy.state == 2 && s.walk.policy.bstar == b) || (s.walk.intake.state == 2 && s.walk.intake.bstar == b) ||
    (s.capo.state == .committed && s.capo.bstar == b) || s.group.joinPending.any fun j => j.2 == b

/-! ### Imported tensors (R325 to R327) -/

/-- Record 0x26 of an import datagram that is rejected; key 13 names the stream that it names, when there is one. -/
def State.importRejected (i : Nat) (s : State) : State :=
  s.record { kind := 0x26, severity := 1, unit := .intake, detail := if i < 8 then [(13, .num (32 + i))] else [] }

/-- Whether the parts of a tensor, sorted by offset, cover the bytes below `n`. -/
def covers : List (Nat × Bytes) → Nat → Nat → Bool
  | [], reach, n => decide (n ≤ reach)
  | p :: l, reach, n => if p.1 ≤ reach then covers l (max reach (p.1 + p.2.length)) n else decide (n ≤ reach)

/-- The bytes of a tensor of `n` bytes from its parts; the first part that gave a byte stands. -/
def assemble (parts : List (Nat × Bytes)) (n : Nat) : Bytes :=
  mread (fun _ => 0#8) (parts.foldr (fun p m => mwrite (fun _ => 0#8) p.1 p.2 m) []) 0 n

/-- The free one of a stream's three buffers (R326): no batch that is still in progress uses it, and where there is a choice it is not the one of
the latest complete tensor. At most two batches are in progress, so one is always free. -/
def State.importBuffer (i : Nat) (s : State) : Nat :=
  let busy := (s.walk.batches.filter fun x => !(((s.walkers x.ordinal).all fun k => x.ended.contains k) && s.settled x.ordinal none)).flatMap fun x =>
    (x.imports.filter fun u => u.stream == i).map (·.buf)
  let now := (tget0 ({} : ImportStream) s.walk.imports i).buf
  (([(now + 1) % 3, (now + 2) % 3, now] : List Nat).find? fun b => !busy.contains b).getD ((now + 1) % 3)

/-- A complete tensor is converted into the free buffer of its stream (03 R101), and its digest is taken over its bytes as accepted. -/
def State.tensorComplete (i : Nat) (c : ImportCfg) (src tgt : Fmt) (raw : Bytes) (seq : Nat) (s : State) : State :=
  let w := src.width
  let conv := (List.range c.count).map fun k => floatImport src tgt c.mant c.shift c.zp (elemRaw w raw k)
  let codes := packRaw tgt.width (conv.map fun v => unsext tgt.width v.1)
  let nans := (conv.filter fun v => v.2.2).length
  let sats := (conv.filter fun v => v.2.1).length
  let buf := s.importBuffer i
  let s1 := (s.countImport 0 nans).countImport 1 sats
  (s1.onMem fun m => { m with imports := mwrite (fun _ => 0#8) ((i * 3 + buf) * 2 ^ 23) codes m.imports }).onWalk fun v =>
    { v with imports := tput0 {} i { seq := none, parts := [], doneSeq := some seq, tensor := codes, digest := digest32 raw, buf := buf
                                     firstUse := none } v.imports }

/-- An import datagram that passed R326 is gathered. -/
def State.gatherImport (i : Nat) (c : ImportCfg) (src tgt : Fmt) (seq at_ : Nat) (data : Bytes) (s : State) : State :=
  let x := tget0 ({} : ImportStream) s.walk.imports i
  let n := packedLen src c.count
  if (x.seq.any fun q => decide (seq < q)) then s
  else
    let parts := if x.seq = some seq then x.parts ++ [(at_, data)] else [(at_, data)]
    if covers (parts.mergeSort fun a b => decide (a.1 ≤ b.1)) 0 n then s.tensorComplete i c src tgt (assemble parts n) seq
    else s.onWalk fun v => { v with imports := tput0 {} i { x with seq := some seq, parts := parts } v.imports }

/-- The tag of an import datagram verifies (R325, R338): the key of 3060 + i.02, an empty plaintext, the header and data with the boot count
as the additional data, and the nonce that SHAKE256 gives. -/
def State.importTagOk (i len : Nat) (data : Bytes) (s : State) : Bool :=
  let boot := leBytes 4 s.dev.bootCount
  let nonce := (digest32 (73#8 :: leBytes 1 i ++ boot ++ slice data 8 8 ++ slice data 16 4)).take 12
  slice data (24 + len) 16 == gcmTagOf 16 (s.settingBytes (0x3060 + i) 2 (zeros 32)) nonce (data.take (24 + len) ++ boot) []

/-- An import datagram is checked (R325, R326). -/
def State.importData (addr : Bytes) (port : Nat) (data : Bytes) (s : State) : State :=
  let i := num data 4 1
  let c := s.importCfg i
  let len := num data 20 2
  let first := num data 16 4
  let seq := num data 8 8
  match outFmt c.srcfmt, outFmt c.target with
  | some src, some tgt =>
    let elems := len / (src.width / 8)
    if s.importTagOk i len data = true ∧ data.length = 24 + len + 16 ∧ num data 0 4 = 0x4B52494D ∧ i < 8 ∧ c.count ≠ 0 ∧ num data 5 1 = c.srcfmt ∧ num data 6 2 = 0 ∧
        num data 22 2 = 0 ∧ len ≤ 1024 ∧ padTo 16 addr = c.addr ∧ port = c.port ∧ elems * (src.width / 8) = len ∧ first + elems ≤ c.count ∧
        (∀ q ∈ (tget0 ({} : ImportStream) s.walk.imports i).doneSeq, q < seq) then
      s.gatherImport i c src tgt seq (first * (src.width / 8)) (slice data 24 len)
    else s.importRejected i
  | _, _ => s.importRejected i

/-- IMPORT_DATAGRAM: a datagram for an import stream arrives on a MAC. Import streams are not read in replay mode (08 R239). -/
def execImportDatagram (addr : Bytes) (port : Nat) (data : Bytes) (on : MacVia) (s : State) : Host.Outcome State Fault Refusal :=
  if on.mac < 2 then
    .next (if s.macDrops on.mac on.secured then s.countMacsec on.mac 2
      else if s.dev.state = .boot ∨ s.dev.state = .halted ∨ s.walk.replay then s else s.importData addr port data)
  else .fault .noSuchUnit

/-- Batch b uses the latest complete tensor of import stream i, unless it is absent or too old (R327). -/
def State.importUsable (s : State) (b i : Nat) : Bool :=
  let x := tget0 ({} : ImportStream) s.walk.imports i
  x.doneSeq.isSome && (match x.firstUse with
    | some f => decide (b ≤ f + (s.importCfg i).maxAge)
    | none => true)

/-- The tensors of batch b: every usable one is used; the runs that consume another die with cause 0x01 and record 0x27. -/
def State.useImports (b : Nat) (s : State) : State :=
  let side := s.devSide b
  let wanted := (List.range 8).filter fun i => (s.runsOf side).any fun r => (s.runImports side r).contains i
  wanted.foldl (fun t i =>
    if t.importUsable b i then
      let x := tget0 ({} : ImportStream) t.walk.imports i
      (t.onWalk fun w => { w with imports := tput0 {} i { x with firstUse := some (x.firstUse.getD b) } w.imports }).onBatch b fun y =>
        { y with imports := y.imports ++ [⟨i, x.doneSeq.getD 0, x.digest, x.buf⟩] }
    else
      ((t.runsOf side).foldl (fun u r => if (u.runImports side r).contains i then u.killRun b r 1 else u) t).record
        { kind := 0x27, severity := 1, detected := some b, unit := .intake, reactions := [2], detail := [(13, .num (32 + i))] }) s

/-! ### Opening a batch (R318, R319, R321, 01 Table 01-7) -/

/-- Streams that other members reported absent for a batch (12 R373). -/
def State.groupAbsent (s : State) (b : Nat) : List Nat :=
  (List.range 32).filter fun k => s.group.readyFor.any fun r => r.set == b % 2 ^ 32 && bit r.absent k

/-- The source of the next batch's frames is ready: the recorded inputs in replay, a capture set, or the period. -/
def State.sourceReady (s : State) : Bool :=
  if s.walk.replay then
    match s.walk.replayNext, s.oldestSet with
    | some d, some x => (cfgMembers x.cfg).all fun k => bit d.absent k || x.frames.any fun f => f.stream == k
    | _, _ => false
  else if cfgNum (s.intakeFor s.nextOrd) 0x3000 6 0 = 1 then s.walk.periodDue
  else (s.oldestSet.map CapSet.ready).getD false

/-- The capture set that the next batch takes, none with periodic source. -/
def State.sourceSet (s : State) : Option CapSet :=
  if s.walk.replay ∨ cfgNum (s.intakeFor s.nextOrd) 0x3000 6 0 ≠ 1 then s.oldestSet else none

/-- Histogram samples at an opening (15 R460, Table 15-13). -/
def State.openingSamples (temps : List Int) (s : State) : State :=
  let hot := temps.foldl max (-10000)
  let tbin := if hot < -640 then 0 else min (1 + ((hot + 640) / 80).toNat) 35
  let v := s.power.v
  let vbin := if v < 650 then 0 else min (1 + (v - 650) / 10) 21
  let sums := s.obs.batchSums
  let rate := if sums.getD 0 0 = 0 then 0 else min (sums.getD 1 0 / 2 * 200 / sums.getD 0 0) 15
  let s1 := (s.histogram 0 tbin).histogram 1 vbin
  let s2 := if s.dev.bOpen.isSome then
      ((s1.histogram 2 rate).histogram 3 (powerBin (sums.getD 4 0))).histogram 4 (powerBin (sums.getD 2 0))
    else s1
  s2.onObs fun o => { o with batchSums := List.replicate 8 0 }

/-- A new run of a batch. -/
def newRun (b r : Nat) : RunRec :=
  { ordinal := b, run := r, cause := 0, corrected := false, stale := false, decisions := [], ended := [], completes := [], settledBy := []
    status := none, block := [], sealBytes := [], final := false, retracts := 0, payload := [] }

/-- Runs that cannot be served in batch b: their core is RETIRED or its shared unit is (10 Table 10-7), their core's tab is being fetched
again (05 R156; the core does not walk the batch, log 74), or they depend on a member that is not there (12 R379). -/
def State.openDeaths (b : Nat) (s : State) : State :=
  let s1 := (s.walkers b).foldl (fun t c =>
    let t1 := if (t.core c).check.retired ∨ (t.cluster (c / 8)).sharedCheck.retired then t.killCoreRuns c b else t
    if (t1.core c).refetch then
      ((t1.killCoreRunsBy 6 c b).onBatch b fun x => { x with ended := insertNew c x.ended }).onCore c fun x => { x with done := some b }
    else t1) s
  s1.group.depends.foldl (fun t d => if t.group.members.contains d.2 then t else t.killRun b d.1 7) s1

/-- The armed watch can be taken in batch b: its core walks a tab that holds its step (16 R475). -/
def State.watchable (s : State) (b : Nat) : Bool :=
  match s.tab? s.obs.watch.core (s.devSide b) with
  | some t => decide (s.obs.watch.stepno < t.steps.length)
  | none => false

/-- A batch keeps this many of its predecessors in the record of the device. -/
def keptBatches : Nat := 8

/-- This device takes part in a run of batch b: the run is one of its programme's, or it holds a SCENE step on another member, and then this
device's ego-motion record enters it (08 R222, R224). -/
def State.takesPart (s : State) (b r : Nat) : Bool := (s.runsOf (s.devSide b)).contains r || (s.inGroup && s.hasScene b r)

/-- The opening of batch b with mode epoch `epoch`, on this device (Table 01-7 order 2). `temps`: the sensor readings. -/
def State.openBatch (b epoch : Nat) (temps : List Int) (s : State) : State :=
  let s := s.coverArrays b
  let set := s.sourceSet
  let other := s.groupAbsent b
  let cfg := match set with
    | some x => x.cfg
    | none => s.intakeFor b
  let absent := match set with
    | some x => (List.range 32).filter fun k =>
        ((cfgMembers cfg).contains k && (!(x.frames.any fun f => f.stream == k) || (!s.walk.replay && s.walk.lost.contains k))) || other.contains k
    | none => other
  let fresh := s.capo.state == .committed && s.capo.bstar == b && (s.capo.staged.map (·.progid)) != (s.capo.selected.map (·.progid))
  let s1 := (s.openingSamples temps).changeEffect b
  let batch : Batch :=
    { ordinal := b, epoch := epoch, frames := (set.map fun x => x.frames.filter fun f => !absent.contains f.stream).getD []
      absent := absent, buf := set.map (·.buf), inputCfg := cfg, imports := [], ego := none, motion := (0, 0, 0), egoMsgs := [], fresh := fresh
      warped := false, warping := false, updates := [], applied := false, fraction := s1.walk.fraction, policy := s1.walk.release
      ended := [], replayed := s.walk.replay, decisions := (s.walk.replayNext.map (·.records)).getD [], released := set.isNone
      exported := false, temps := temps }
  let runs := ((List.range 16).filter (s1.takesPart b)).map (newRun b)
  let s2 := s1.onWalk fun w =>
    { w with batches := (batch :: w.batches.filter fun x => x.ordinal != b).take keptBatches
             runs := (w.runs.filter fun r => r.ordinal != b && decide (b < r.ordinal + keptBatches)) ++ runs
             sets := match set with
               | some x => w.sets.filter fun y => y.first != x.first
               | none => w.sets
             periodDue := false, replayNext := none, replayLast := if s.walk.replay then some b else w.replayLast
             tuningCfg := [s.setting 0x8000 1 6, s.setting 0x8000 2 4096, s.setting 0x8000 3 4, s.setting 0x8000 4 1024] }
  let s3 := (s2.onDev fun d => { d with bOpen := some b, modeEpoch := epoch }).onPub fun p =>
    { p with cfg := s.dict.settings.filter fun e => (0x3100 ≤ e.1 / 256 && e.1 / 256 ≤ 0x32FF) }
  -- every core takes the epoch of a mode change that opens here; that of a switch it takes at the fence (01 R22, 07 R201)
  let s3 := if epoch = s.dev.modeEpoch ∨ (s.capo.state = .committed ∧ s.capo.bstar = b ∧ (s.notLeader && s.capo.refresh) = false) then s3
    else s3.activeCores.foldl (fun t c => t.onCore c fun x => { x with epochNext := x.epochNext ++ [(b, epoch)] }) s3
  let s4 := (s3.onPower fun p => { p with temps := temps }).onGroup fun g =>
    { g with readyFor := g.readyFor.filter fun r => r.set != b % 2 ^ 32
             fences := if s.capo.bstar = b then [] else g.fences
             armed := g.armed.filter fun a => decide (b + 2 < a.bstar) }
  let s5 := s4.activeSites.foldl (fun t n => t.tuningDue n (temps.getD (t.sensorAt n) 0)) s4
  let s6 := absent.foldl (fun t k =>
    let t1 := if (cfgMembers cfg).contains k then
        t.record { kind := 0x20, severity := 1, detected := some b, unit := .intake, reactions := [2], detail := [(13, .num k)] }
      else t
    ((List.range 16).filter (t1.takesPart b)).foldl (fun u r => if (u.runStreams (u.devSide b) r).contains k then u.killRun b r 1 else u) t1) s5
  let s7 := ((s6.useImports b).openDeaths b).serviceTokens 0 b false
  let s8 := if s7.walk.runs.any fun r => r.ordinal + 1 == b && r.status.isNone then s7 else s7.serviceTokens 3 b false
  let tr := s8.settingBytes 0x7100 2 [1#8, 1#8, 0#8, 7#8]
  let s9 := s8.onObs fun o =>
    { o with traceEnable := num tr 1 1, traceMode := num tr 2 1, traceSources := num tr 3 1
             watchState := if o.watchState = 1 ∧ o.watch.ordinal = b ∧ !s8.watchable b then 3 else o.watchState }
  (s9.egoAtOpen b).epochAtOpen b

/-- The decision on members that wait for admission at B* (12 R378): when they are not to be admitted, they are forgotten. -/
def State.joinDecide (b decision : Nat) (s : State) : State :=
  if decision = 1 then s else s.onGroup fun g => { g with joinPending := g.joinPending.filter fun j => j.2 != b + 2 }

/-- The decisions at the opening of batch b (07 R199, 10 R281, 11 R324, 12 R376). -/
def State.decideAll (b decision : Nat) (s : State) : State :=
  (((s.capoDecide b decision).changeDecide .policy b decision).changeDecide .intake b decision).joinDecide b decision

/-- A change that waits for its decision at the opening of batch b. -/
def State.changeDue (s : State) (b : Nat) : Bool :=
  (s.capo.state == .armed && s.capo.bstar == b + 2 && !s.capo.refresh) || (s.walk.policy.state == 1 && s.walk.policy.bstar == b + 2) ||
    (s.walk.intake.state == 1 && s.walk.intake.bstar == b + 2) || s.group.joinPending.any fun j => j.2 == b + 2

/-- A record of the group on a member: key 8 names the port that leads to it. -/
def State.memberRecord (kind severity member : Nat) (reactions : List Nat) (s : State) : State :=
  s.record
    { kind := kind, severity := severity, unit := .pair 3, unit2 := some (.exham (portToward s.group.arrange s.group.devno member))
      reactions := reactions }

/-- Batches that another member has opened beyond this device's latest, by the sets that their READY messages name (12 R379). -/
def State.openedBeyond (s : State) : Nat :=
  (s.group.readyFor.map fun r =>
    let n := (r.set + 2 ^ 32 - s.nextOrd % 2 ^ 32) % 2 ^ 32
    if n < 2 ^ 31 then n else 0).foldl max 0

/-- A new leader goes on after the latest ordinal that any member has opened; a batch that it has not opened itself is open on some members
alone, and its runs die there (12 R379). -/
def State.takeOver (s : State) : State :=
  let n := s.openedBeyond
  if n = 0 then s
  else
    -- a leader opens one batch at a time, so at most one was opened in part
    let o := s.nextOrd + n - 1
    (List.range 16).foldl (fun t r => t.groupMsg 0x23 255 [o, r, 7] []) (s.onDev fun d => { d with bOpen := some o })

/-- The lowest-numbered member leads (12 R372); record 0x3A when that changes the leader. -/
def State.electLeader (s : State) : State :=
  let l := s.group.members.foldl min (s.group.members.headD s.group.devno)
  if l = s.group.leader then s
  else
    let s1 := (s.onGroup fun g => { g with leader := l }).record { kind := 0x3A, severity := 1, unit := .pair 3 }
    if l = s.group.devno then s1.takeOver else s1

/-- Members that wait for admission at batch b are admitted (12 R378). -/
def State.admitMembers (b : Nat) (s : State) : State :=
  let l := (s.group.joinPending.filter fun j => j.2 == b).map (·.1)
  if l.isEmpty then s
  else
    let s1 := s.onGroup fun g =>
      { g with members := l.foldl (fun t m => insertNew m t) g.members, joinPending := g.joinPending.filter fun j => j.2 != b
               memberStates := l.foldl (fun t m => tput0 0 m 1 t) g.memberStates }
    (l.foldl (fun t m => t.memberRecord 0x39 0 m [0]) s1).electLeader

/-- The change of a kind is still armed on the leader for batch B*, and its own conditions of the decision hold (07 R199). -/
def State.stillArmed (s : State) (kind bstar : Nat) : Bool :=
  match kind with
  | 0 => s.capo.state == .armed && s.capo.bstar == bstar && !s.capo.refresh && s.capo.armDone && s.allSealed && !s.group.sealLost
  | 1 => s.walk.policy.state == 1 && s.walk.policy.bstar == bstar
  | 2 => s.walk.intake.state == 1 && s.walk.intake.bstar == bstar
  | _ => s.group.joinPending.any fun j => j.2 == bstar

/-- The decision that the leader's OPEN carries at the opening of batch b (12 R376): 1 commit, 2 withdraw, 0 none. It is one for every change
that was asked for this B*: they commit when each of them is still armed and every member has accepted it, and are withdrawn otherwise
(log 102). -/
def State.openDecision (s : State) (b : Nat) : Nat :=
  let due := s.group.armed.filter fun a => a.bstar == b + 2
  if due.isEmpty then 0 else if due.all fun a => s.allAccepted a.kind && s.stillArmed a.kind (b + 2) then 1 else 2

/-- Every other member has reported its set and its aftercare for batch b (R373). -/
def State.membersReady (s : State) (b : Nat) : Bool :=
  (s.group.members.filter (· != s.group.devno)).all fun m =>
    (s.group.readyFor.any fun r => r.member == m && r.set == b % 2 ^ 32 && !r.aftercare) &&
    (b == 0 || s.group.readyFor.any fun r => r.member == m && r.set == b % 2 ^ 32 && r.aftercare)

/-- Every member's FENCE is held where batch b is the first of a new side, and the leader's own cores have completed END of the batch before it
(R377). A refresh switch is this device's own (07 R214). -/
def State.fencesHeld (s : State) (b : Nat) : Bool :=
  !(s.capo.state == .committed && s.capo.bstar == b && !s.capo.refresh) || s.oldSideEnded && (s.group.members.filter (· != s.group.devno)).all s.group.fences.contains

/-- The next batch may open on this device: it opens batches, its source is ready, and order 2 of Table 01-7 allows it. -/
def State.mayOpen (s : State) (drainWins : Bool) : Bool :=
  !s.frozen && s.vddReady && (s.dev.state == .serving || s.dev.state == .degraded) && (s.dev.batchOpening || (s.dev.draining && !drainWins)) && s.sourceReady &&
    (match s.dev.bOpen with
     | some b => s.aftercare b
     | none => true)

/-- The ordinal that the next batch gets: the one after the latest, or the recorded one in replay (08 R240). -/
def State.ordinalDue (s : State) : Nat :=
  if s.walk.replay then (s.walk.replayNext.map (·.ordinal)).getD s.nextOrd else s.nextOrd

/-- BATCH_OPEN: control pair 1 opens the next batch. In a group the leader alone opens, and sends OPEN; the others open on its
receipt. `drainWins`: DRAIN wins where it contends with this opening (13 R406). -/
def execBatchOpen (temps : List Int) (drainWins : Bool) (s : State) : Host.Outcome State Fault Refusal :=
  .next (
    let b := s.ordinalDue
    if s.notLeader || !s.mayOpen drainWins then s
    else if s.inGroup && !(s.membersReady b && s.fencesHeld b) then s
    else
      let d := s.openDecision b
      let s1 := s.decideAll b d
      let epoch := if s1.epochStep b then s1.dev.modeEpoch + 1 else s1.dev.modeEpoch
      let s2 := (s1.admitMembers b).groupMsg 0x21 255 [b, epoch, d] []
      let s3 := if s.inGroup && d == 2 && s.changeDue b then s2.record { kind := 0x3B, severity := 1, unit := .pair 3 } else s2
      (s3.openBatch b epoch temps).tellReady)

/-- FRAME_BUFFER_RELEASE: the buffers of a batch are released after its last verdict and END on every core (R322). -/
def execFrameBufferRelease (ordinal : Nat) (s : State) : Host.Outcome State Fault Refusal :=
  .next (match s.batch? ordinal with
    | some x =>
      if ((s.walkers ordinal).all fun k => x.ended.contains k) && s.settled ordinal none then
        s.onBatch ordinal fun y => { y with released := true, buf := none }
      else s
    | none => s)

end Sys2Proof.Machine
end

