-- ==== Sys2Proof/Machine/Replay.lean ====
section
/-!
DEFINITION. Replay mode: entering and leaving it, batch descriptors, and recorded inputs (08_bit_identity_and_seals.md R239 to R242).
-/

namespace Sys2Proof.Machine

/-- 1000.02: 1 for grade A, 2 for grade B. -/
def State.gradeCode (s : State) : Nat := if s.dev.gradeB then 2 else 1

/-- The later of two ordinals, or sequence numbers, that may be absent. -/
def later : Option Nat → Option Nat → Option Nat
  | some a, some b => some (max a b)
  | none, b => b
  | a, none => a

/-- Enter replay mode. Its ordinals and sequence numbers are those of the recorded boot: every unit takes them from the first one on
(R242, log 32). -/
def State.enterReplay (boot : Nat) (s : State) : State :=
  let s1 := s.onWalk fun w =>
    { w with replay := true, replayBoot := boot, replayNext := none, replayIn := {}, replayLast := none, sets := [], filling := [], window := none, windowSet := none
             liveOpen := s.dev.bOpen }
  let s2 := (s1.onDev fun d => { d with bOpen := none }).onScene fun c => { c with egoSeq := none, held := [], liveSeq := c.egoSeq }
  let s3 := s2.activeCores.foldl (fun t c => t.onCore c fun x => { x with ordinals := [], done := none, lateFor := [] }) s2
  s3.activeClusters.foldl (fun t c => t.onCluster c fun x => { x with accepted := [] }) s3

/-- Leave replay mode. A descriptor that has not opened its batch is forgotten with its inputs, and live ordinals go on above those of both
(log 32). -/
def State.leaveReplay (s : State) : State :=
  if s.walk.replay then
    ((s.onWalk fun w => { w with replay := false, replayNext := none, replayIn := {}, replayLast := none, sets := [], liveOpen := none }).onDev fun d =>
      { d with bOpen := later d.bOpen s.walk.liveOpen }).onScene fun c => { c with egoSeq := later c.egoSeq c.liveSeq, held := [], liveSeq := none }
  else s

/-- A write of 2040.01 (R239). -/
def State.writeReplayMode (d : Bytes) (s : State) : Reply :=
  if d.length ≠ 16 then Reply.deny stLength s
  else if num d 0 1 > 1 ∨ num d 2 2 ≠ 0 then Reply.deny stRange s
  else if num d 0 1 = 0 then Reply.ok s.leaveReplay
  else if s.dev.state ≠ .ready then Reply.refused 1 s.dev.state.code s
  else
    match s.capo.selected with
    | some i =>
      if num d 1 1 = s.gradeCode ∧ num d 4 4 = i.progid ∧ num d 8 4 = i.imgseq then
        Reply.ok (s.leaveReplay.enterReplay (num d 12 4))
      else Reply.refused 7 0 s
    | none => Reply.refused 7 0 s

/-- A decision record from its 8 bytes (Table 08-2). -/
def parseDecision (b : Bytes) : Decision :=
  let n := num b 0 8
  { stepno := bits n 23 0, srckind := bits n 31 24, unit := bits n 47 32, outcome := bits n 63 48 }

/-- A write of 2040.02 (R240, R242): a descriptor in replay mode, with the recorded boot count and a rising ordinal. It waits until
its inputs have come; a second one meanwhile is refused as busy (log 32). -/
def State.writeReplayBatch (d : Bytes) (s : State) : Reply :=
  let n := num d 14 4
  if d.length < 18 ∨ d.length ≠ 18 + 8 * n then Reply.deny stLength s
  else if ¬ s.walk.replay then Reply.refused 1 s.dev.state.code s
  else if num d 0 4 ≠ s.walk.replayBoot then Reply.refused 7 0 s
  else if ∃ l ∈ s.walk.replayLast, num d 4 6 ≤ l then Reply.refused 7 0 s
  else if s.walk.replayNext.isSome then Reply.refused 2 0 s
  else
    match s.freeBuffer with
    | none => Reply.refused 2 0 s
    | some k =>
      let b := num d 4 6
      let recs := (List.range n).map fun i => parseDecision (slice d (18 + 8 * i) 8)
      Reply.ok (s.onWalk fun w =>
        { w with replayNext := some ⟨b, num d 10 4, recs⟩
                 sets := [{ first := (32, b), buf := k, cfg := s.intakeFor b, taken := [], frames := [], windowOpen := false, deadline := false }] })

/-- Samples of a line's bytes as received (CSI-2 packing; PRESUMED, log 29). -/
def unpackLine (dt : Nat) (b : Bytes) (n : Nat) : List Nat :=
  let at_ (i : Nat) : Nat := (b.getD i 0#8).toNat
  (List.range n).map fun i =>
    if dt = 0x2B then at_ (i / 4 * 5 + i % 4) * 4 + at_ (i / 4 * 5 + 4) / 4 ^ (i % 4) % 4
    else if dt = 0x2C then at_ (i / 2 * 3 + i % 2) * 16 + at_ (i / 2 * 3 + 2) / 16 ^ (i % 2) % 16
    else if dt = 0x2E then at_ (2 * i) * 256 + at_ (2 * i + 1)
    else at_ i

/-- Bytes of one line of a stream as received. -/
def lineBytes (c : Bytes) : Nat :=
  let w := cfgSrcW c
  if cfgDt c = 0x2B then (w + 3) / 4 * 5 else if cfgDt c = 0x2C then (w + 1) / 2 * 3 else 2 * w

/-- The stream configuration of a recorded frame that the open descriptor waits for, with the set that takes it. -/
def State.replayStream (stream : Nat) (s : State) : Except Reply (CapSet × Bytes) :=
  match s.walk.replayNext, s.oldestSet with
  | some d, some x =>
    let c := cfgStream x.cfg stream
    if stream ≥ 32 ∨ ¬ cfgEn c ∨ bit d.absent stream = true ∨ x.taken.contains stream = true then .error (Reply.deny stRange s) else .ok (x, c)
  | _, _ => .error (Reply.refused 1 s.dev.state.code s)

/-- Lines of a recorded frame leave the bytes that have come, each as soon as it is whole. -/
def takeRows (c : Bytes) (p : ReplayIn) : ReplayIn :=
  let n := lineBytes c
  let per := if cfgDt c = 0x1E then 2 * cfgSrcW c else cfgSrcW c
  let k := if n = 0 then 0 else p.rest.length / n
  { p with rows := p.rows ++ (List.range k).map fun l => unpackLine (cfgDt c) ((p.rest.drop (l * n)).take n) per
           rest := p.rest.drop (k * n) }

/-- A recorded frame that is whole passes through intake into the set of the descriptor. -/
def State.replayFrame (stream seq : Nat) (x : CapSet) (c : Bytes) (rows : List (List Nat)) (s : State) : State :=
  let f : Frame :=
    { stream := stream, buf := x.buf, seq := seq % 2 ^ 32, digest := [], complete := false, lines := cfgSrcH c, bad := false
      set := some x.first, cfg := c, samples := rows }
  (s.onSet x.first fun y => { y with taken := y.taken ++ [stream] }).storeFrame f

/-- The bytes of a recorded message or tensor that have come: kept until the last, of exactly `n`. -/
def State.replayWhole (p : ReplayIn) (n : Nat) (last : Bool) (whole : Bytes → State → State) (s : State) : Reply :=
  if n < p.rest.length ∨ (last ∧ p.rest.length ≠ n) then Reply.deny stLength s
  else if last then Reply.ok (whole p.rest s)
  else Reply.ok (s.onWalk fun w => { w with replayIn := p })

/-- What has come of one recorded input takes effect: lines of a frame pass into intake; a message or tensor is taken when it is whole, a
message with the tag that was checked when it was recorded. -/
def State.replayTake (p : ReplayIn) (last : Bool) (s : State) : Reply :=
  let stream := num p.head 1 1
  let seq := num p.head 4 4
  match num p.head 0 1 with
  | 1 =>
    match s.replayStream stream with
    | .error e => e
    | .ok (x, c) =>
      let q := takeRows c p
      if cfgSrcH c < q.rows.length ∨ (q.rows.length = cfgSrcH c ∧ q.rest ≠ []) ∨ (last ∧ q.rows.length ≠ cfgSrcH c) then
        Reply.deny stLength s
      else if last then Reply.ok (s.replayFrame stream seq x c q.rows)
      else Reply.ok (s.onWalk fun w => { w with replayIn := q })
  | 2 => s.replayWhole p 32 last fun b t => t.egoMessage b true false
  | 3 =>
    let c := s.importCfg stream
    match outFmt c.srcfmt, outFmt c.target with
    | some src, some tgt =>
      if stream ≥ 8 ∨ c.count = 0 then Reply.deny stRange s
      else s.replayWhole p (packedLen src c.count) last fun b t => t.tensorComplete stream c src tgt b seq
    | _, _ => Reply.deny stRange s
  | _ => Reply.deny stRange s

/-- One segment of 3050.01 (R240, 13 R396): kind, stream, two zero bytes and the sequence number as in an input entry of R226, then the raw
bytes (log 32). -/
def State.replaySegment (offset : Nat) (d : Bytes) (last : Bool) (s : State) : Reply :=
  if ¬ s.walk.replay then Reply.refused 1 s.dev.state.code s
  else
    let p : ReplayIn := if offset = 0 then {} else s.walk.replayIn
    let all := p.head ++ p.rest ++ d
    let q : ReplayIn := { p with head := all.take 8, rest := all.drop 8 }
    let t := s.onWalk fun w => { w with replayIn := {} }
    if q.head.length = 8 then t.replayTake q last
    else if last then Reply.deny stLength t
    else Reply.ok (s.onWalk fun w => { w with replayIn := q })

end Sys2Proof.Machine
end

