-- ==== Sys2Proof/Machine/Observe.lean ====
section
/-!
DEFINITION. Stops, dumps and observation: state commands, hangs, the dump, memory read requests, tensor watches, counter epochs and
acknowledgement (16_observation.md R468, R474, R475, R477 to R483; 13_malrov_dictionary.md R404 to R406; 10_fault_containment.md R306,
R310).
-/

namespace Sys2Proof.Machine

/-! ### Hard stop (R480) -/

/-- Every unit is frozen: a hard stop that supersedes a drain. `hang`: the core that hung. -/
def State.freeze (hang : Option Nat) (s : State) : State :=
  let s1 := s.onDev fun d =>
    { d with stopping := true, priorState := d.state, stopHang := hang, unfrozen := [], batchOpening := false
             lastOutcome := if d.draining then 2 else d.lastOutcome, draining := false, drainReset := false, drained := false }
  (s1.activeCores.foldl (fun t c => t.onCore c fun x =>
    if x.seq = .frozen ∨ x.seq = .halted then x else { x with before := x.seq, seq := .frozen }) s1).missWatch

/-- Codes of SEQSTATE (Table 16-6). -/
def SeqState.code : SeqState → Nat
  | .unloaded => 0 | .idle => 1 | .walk => 2 | .stalled => 3 | .draining => 4 | .stopped => 5 | .frozen => 2 | .halted => 2

/-- Codes of Table 02-10. -/
def SiteState.code : SiteState → Nat
  | .active => 0 | .standby => 1 | .copying => 2 | .substitute => 3 | .retiring => 4 | .retired => 5

/-- The dump's header (Table 16-5). -/
def State.dumpHeader (s : State) (cut : Bool) : Bytes :=
  let cores := s.activeCores.length
  let clusters := s.activeClusters.length
  let b := s.dev.bOpen.getD 0
  let hang := match s.dev.stopHang with
    | some c => coreCode s.group.devno c
    | none => 0x1FFF
  let sel := s.capo.selected
  leBytes 4 0x4B524450 ++ leBytes 4 (1 + cut.toNat * 2 ^ 16 + s.dev.stopHang.isSome.toNat * 2 ^ 17) ++ leBytes 4 s.dev.bootCount ++
    leBytes 4 (cores + clusters * 2 ^ 16) ++ leBytes 4 (b % 2 ^ 32) ++ leBytes 4 (b / 2 ^ 32 % 2 ^ 16) ++ leBytes 4 s.dev.modeEpoch ++
    leBytes 4 (hang + (if cut then s.dev.state.code else s.dev.priorState.code) * 2 ^ 13) ++
    leBytes 4 ((sel.map (·.progid)).getD 0) ++ leBytes 4 ((sel.map (·.imgseq)).getD 0) ++ leBytes 4 s.dev.unfrozen.length ++ zeros 20

/-- One word of OLDEST: the oldest incomplete step of a unit, and the steps that wait behind it (log 34). -/
def Core.oldestWord (c : Core) (unit : Nat) : Nat :=
  let l := (c.flight.filter fun f => f.unit == unit).map (·.stepno)
  match l with
  | [] => 0xFFFFFF
  | n :: t => t.foldl min n + min t.length 3 * 2 ^ 24

/-- A core's entry (Table 16-6). `idle`: the local units since its last issue or completion, a free value (log 2). -/
def State.dumpCore (s : State) (cut : Bool) (idle core : Nat) : Bytes :=
  let c := s.core core
  let seq := if cut then c.seq else c.before
  let b := (match c.cur with
    | some x => some x
    | none => c.done).getD 0
  let wait := match c.sync with
    | .wait _ sender chan _ _ _ _ :: _ => 1 + chan * 2 + sender % 2 ^ 13 * 2 ^ 5
    | _ => 0
  let dead := maskOf 16 ((c.dead.filter fun d => some d.1 == c.cur).map (·.2))
  let mask := ((s.tab? core c.side).map (·.runmask)).getD 0
  leBytes 4 (coreCode s.group.devno core + seq.code * 2 ^ 13 + (s.dev.unfrozen.contains (.core core)).toNat * 2 ^ 17 + c.side * 2 ^ 18) ++
    leBytes 4 (b % 2 ^ 32) ++ leBytes 4 (b / 2 ^ 32 % 2 ^ 16) ++ leBytes 4 c.next ++
    ([0, 1, 2, 3, 8, 9, 10, 11].flatMap fun u => leBytes 4 (c.oldestWord u)) ++
    leBytes 4 (maskOf 8 ((List.range 8).filter fun i => c.pred i)) ++ ((List.range 8).flatMap fun i => leBytes 2 (c.limit i)) ++
    ((List.range 4).flatMap fun i => leBytes 2 (c.tile i)) ++ leBytes 4 idle ++ leBytes 4 c.cal ++
    ((List.range 5).map fun i => BitVec.ofNat 8 (s.site (core * 5 + i)).state.code) ++
    ((List.range 4).map fun i => BitVec.ofNat 8 (c.subst.getD i 0)) ++ zeros 3 ++ leBytes 4 (dead + mask * 2 ^ 16) ++ leBytes 4 wait ++ zeros 152

/-- A cluster's entry (Table 16-7). -/
def State.dumpCluster (s : State) (cl : Nat) : Bytes :=
  let u := s.cluster cl
  let b := u.accepted.headD 0
  let word (k : Nat) : Nat :=
    let x := tget0 {} u.banks (k * 2 + b % 2)
    x.next % 2 ^ 13 + (b % 2) * 2 ^ 13 + (x.state == .exhausted).toNat * 2 ^ 14
  let step := match u.owner with
    | some k => (((s.core (cl * 8 + k)).flight.find? fun f => f.unit == 8).map (·.stepno)).getD 0
    | none => 0
  leBytes 4 (cl + (s.dev.unfrozen.contains (.cluster cl)).toNat * 2 ^ 8) ++ ((List.range 16).flatMap fun k => leBytes 4 (word k)) ++
    leBytes 4 (u.arrClass + step * 2 ^ 3) ++ leBytes 4 u.checkLines ++ zeros 52

/-- A dump (R481). -/
def State.dumpOf (s : State) (cut : Bool) : Bytes :=
  s.dumpHeader cut ++
    (s.activeCores.zipIdx.flatMap fun e => s.dumpCore cut (Config.freeNat (s.dev.freeCount + e.2) % 2 ^ 32) e.1) ++
    s.activeClusters.flatMap s.dumpCluster

/-- The dump is formed; its free values are used up. -/
def State.formDump (cut : Bool) (s : State) : State :=
  let d := s.dumpOf cut
  (s.onObs fun o => { o with dump := d }).onDev fun x => { x with freeCount := x.freeCount + s.activeCores.length }

/-- HANG: a core's hang timer expires, and it orders a hard stop, with record 0x1B. The timer runs while the core walks or holds an
ordinal that it has not started, and is held while a DRONE step is live on the core (R477). -/
def execHang (core : Nat) (s : State) : Host.Outcome State Fault Refusal :=
  if core < 256 then
    let c := s.core core
    let runs := c.seq == .walk || c.seq == .stalled || c.seq == .draining || !c.ordinals.isEmpty
    .next (if s.frozen ∨ ¬ s.coreActive core ∨ ¬ runs ∨ c.droneLive.isSome ∨
        ¬ (s.dev.state = .serving ∨ s.dev.state = .degraded ∨ s.dev.state = .ready) then s
      else ((s.freeze (some core)).record { kind := 0x1B, severity := 3, unit := .core core, reactions := [10] }).saySafe 6)
  else .fault .noSuchUnit

/-- FREEZE_TIMEOUT: a unit has not frozen within 1 ms. -/
def execFreezeTimeout (u : UnitId) (s : State) : Host.Outcome State Fault Refusal :=
  .next (if s.dev.stopping then
      s.onDev fun d => { d with unfrozen := if d.unfrozen.contains u then d.unfrozen else d.unfrozen ++ [u] }
    else s)

/-- DUMP_COMPLETE: the dump of a hard stop is formed and the device is HALTED. -/
def execDumpComplete (s : State) : Host.Outcome State Fault Refusal :=
  .next (if s.dev.stopping then
      let s1 := s.formDump false
      let s2 := s1.activeCores.foldl (fun t c => t.onCore c fun x => { x with seq := .halted }) s1
      (s2.onDev fun d =>
        { d with state := .halted, stopping := false, lastOutcome := if d.stopHang.isNone then 1 else d.lastOutcome }).lifeCount 2
    else s)

/-! ### State commands (13 Table 13-9) -/

/-- START: service begins or resumes. Stopped sequencers are IDLE again (05 Table 05-16). -/
def State.startCommand (s : State) : Reply :=
  if s.dev.draining then Reply.refused 2 0 s
  else if s.dev.stopping then Reply.refused 1 s.dev.state.code s
  else if (s.dev.state = .ready ∨ (s.dev.state = .degraded ∧ ¬ s.dev.batchOpening)) ∧ s.capo.selected.isSome ∧ ¬ s.dev.noImage ∧ s.group.formed ∧
      ¬ s.dev.debug then
    let s1 := (s.onDev fun d =>
      { d with state := if d.state = .ready then .serving else d.state, batchOpening := true, drained := false, lastOutcome := 1 }).raiseFloor.advanceRollback
    Reply.ok (s1.activeCores.foldl (fun t c => t.onCore c fun x => if x.seq = .stopped then { x with seq := .idle } else x) s1)
  else Reply.refused 1 s.dev.state.code s

/-- A drain stop begins (R479): no further batch opens, and each sequencer passes through DRAINING to STOPPED. `reset`: ordered by
firmware command 0x02. -/
def State.beginDrain (reset : Bool) (s : State) : State :=
  let s1 := s.onDev fun d => { d with batchOpening := false, draining := true, drainReset := reset }
  s1.activeCores.foldl (fun t c => t.onCore c fun x =>
    if x.seq = .walk ∨ x.seq = .stalled then { x with seq := .draining }
    else if x.seq = .idle ∧ x.ordinals.isEmpty then { x with seq := .stopped } else x) s1

/-- DRAIN. -/
def State.drainCommand (s : State) : Reply :=
  if ¬ s.dev.stopping ∧ (s.dev.state = .serving ∨ (s.dev.state = .degraded ∧ s.dev.batchOpening)) then
    if s.dev.draining then Reply.ok s else Reply.ok (s.beginDrain false)
  else Reply.refused 1 s.dev.state.code s

/-- HARD STOP. In a group the member tells the leader (R480). -/
def State.hardStopCommand (s : State) : Reply :=
  if ¬ s.dev.stopping ∧ (s.dev.state = .ready ∨ s.dev.state = .serving ∨ s.dev.state = .degraded ∨ s.dev.state = .safe) then
    Reply.ok ((s.freeze none).saySafe 5)
  else Reply.refused 1 s.dev.state.code s

/-- The condition of Table 10-13 for a recorded cause. -/
def State.causeCleared (s : State) (c : Nat) : Bool :=
  match c with
  | 1 | 4 | 5 => true
  | 7 => s.power.temps.zipIdx.all fun t => s.power.sensorFail.contains t.2 || decide (t.1 ≤ 112 * 16)
  | 8 => decide (s.power.railGood ≥ 10000)
  | _ => false

/-- EXIT SAFE (10 R310, 13 R406). DESIGN CHOICE (the spec does not say when a recorded cause is cleared, log 117): an accepted EXIT SAFE empties
the causes, so 2000.04 reads 0x00 again. -/
def State.exitSafeCommand (s : State) : Reply :=
  if s.dev.state ≠ .safe ∨ s.dev.stopping then Reply.refused 1 s.dev.state.code s
  else if s.dev.safeNLow then Reply.refused 8 0 s
  else if ¬ (s.dev.safeCauses.all s.causeCleared) then Reply.refused 0xA (safeCauseShown s.dev.safeCauses) s
  else Reply.ok ((s.onDev fun d => { d with safeCauses := [], lastOutcome := 1 }).becomeReady)

/-- ENTER SAFE. -/
def State.enterSafeCommand (s : State) : Reply :=
  if ¬ s.dev.stopping ∧ (s.dev.state = .ready ∨ s.dev.state = .serving ∨ s.dev.state = .degraded) then
    let s1 := s.enterSafe 5 0x19 (.pair 0)
    Reply.ok (if s.dev.draining then s1 else s1.onDev fun d => { d with lastOutcome := 1 })
  else Reply.refused 1 s.dev.state.code s

/-- A write of 2000.02. -/
def State.stateCommand (code : Nat) (s : State) : Reply :=
  match code with
  | 1 => s.startCommand
  | 2 => s.drainCommand
  | 3 => s.hardStopCommand
  | 4 => s.exitSafeCommand
  | 5 => s.enterSafeCommand
  | _ => Reply.deny stRange s

/-! ### Counter epochs (R468) -/

/-- A write of 7000.01. -/
def State.epochCommand (mask : Nat) (s : State) : Reply :=
  if mask = 0 ∨ mask ≥ 128 then Reply.deny stRange s
  else if ¬ (s.obs.epochCores.isEmpty ∧ s.obs.epochClusters.isEmpty ∧ ¬ s.obs.epochBase) then Reply.deny stBusy s
  else
    let s1 := s.onObs fun o =>
      { o with epochNo := (o.epochNo + 1) % 65536, epochMask := mask, epochUsed := true
               epochBatch := if s.dev.batchOpening then some s.nextOrd else none
               epochCores := if bit mask 0 ∨ bit mask 1 then s.activeCores else []
               epochClusters := if bit mask 2 then s.activeClusters else []
               epochBase := mask / 8 != 0 }
    if s.dev.batchOpening then Reply.ok s1
    else
      let s2 := s1.obs.epochCores.foldl (fun t c => t.switchCore c) s1
      let s3 := s2.obs.epochClusters.foldl (fun t c => t.switchCluster c) s2
      Reply.ok (if s3.obs.epochBase then s3.switchBase else s3)

/-! ### Tensor watch (R474) -/

/-- A write of 7100.04 with its fields. -/
def State.setWatch (core stepno bufidx ordinal first lines rsvd : Nat) (arm : Bool) (s : State) : Reply :=
  if rsvd ≠ 0 ∨ core ≥ 256 ∨ ordinal ≥ 2 ^ 48 ∨ stepno ≥ 2 ^ 24 ∨ bufidx ≥ 256 ∨ first ≥ 2 ^ 29 then Reply.deny stRange s
  else if ¬ arm then
    Reply.ok (s.onObs fun o =>
      { o with watch := ⟨core, stepno, bufidx, ordinal, first, lines⟩, watchState := if o.watchState = 1 then 0 else o.watchState })
  else if lines = 0 ∨ lines > 262144 ∨ (ordinal : Int) ≤ s.openOrd then Reply.deny stRange s
  else Reply.ok (s.onObs fun o => { o with watch := ⟨core, stepno, bufidx, ordinal, first, lines⟩, watchState := 1 })

/-- A write of 7100.04 as its 24 bytes (Table 16-4). -/
def State.writeWatch (d : Bytes) (s : State) : Reply :=
  if d.length ≠ 24 then Reply.deny stLength s
  else
    let n := num d 0 24
    s.setWatch (bits n 12 0) (bits n 55 32) (bits n 63 56) (bits n 111 64) (bits n 156 128) (bits n 178 160)
      (bits n 31 13 + bits n 127 113 + bits n 159 157 + bits n 191 179) (bit n 112)

/-! ### Cut dump and memory reads (R481, R482) -/

/-- A write of 7100.0C. -/
def State.dumpCommand (v : Nat) (s : State) : Reply :=
  if v ≠ 1 then Reply.deny stRange s
  else if s.dev.state = .ready ∧ s.dev.drained then Reply.ok (s.formDump true)
  else Reply.refused 1 s.dev.state.code s

/-- The area of a memory read request, with its lines. -/
def State.requestArea (s : State) (space unit : Nat) : Area × Nat :=
  match space with
  | 0 | 4 => (.sram (unit % 256), sramLines)
  | 1 | 5 => (.sb (unit % 256 / 8), sbLines)
  | 2 => (.dram, s.dramLines)
  | _ => (.bdsram, Config.windowLines)

/-- The unit that holds a requested memory is RETIRED or unpowered. -/
def State.requestGone (s : State) (space unit : Nat) : Bool :=
  let c := unit % 256
  match space with
  | 0 | 4 => !s.coreActive c || (s.core c).check.retired
  | 1 | 5 => !s.coreActive c || (s.cluster (c / 8)).sharedCheck.retired
  | _ => false

/-- A write of 7100.0A: SPACE, unit, first line, lines. -/
def State.memRequest (space unit line lines : Nat) (s : State) : Reply :=
  if ¬ (s.dev.state = .halted ∨ s.dev.state = .safe ∨ s.dev.state = .ready) then Reply.refused 1 s.dev.state.code s
  else if space > 5 ∨ (unit / 256 ≠ 0 ∧ unit / 256 ≠ s.group.devno) ∨ lines = 0 ∨ lines > 262144 ∨ line + lines > (s.requestArea space unit).2 then Reply.deny stRange s
  else if s.requestGone space unit then Reply.deny stUnavailable s
  else Reply.ok (s.onDict fun d => { d with memRead := ⟨space, unit, line, lines⟩ })

/-- 7100.0B: the requested lines; nothing before a request. -/
def State.memData (s : State) : Bytes :=
  let m := s.dict.memRead
  if m.lines = 0 then [] else s.dumpLines (s.requestArea m.space m.unit).1 m.line m.lines

/-! ### Acknowledgement (10 R306) -/

/-- A write of 5100.07: every record of this boot at or below the value is acknowledged. -/
def State.acknowledge (seq : Nat) (s : State) : Reply :=
  Reply.ok (s.onFaults fun f => { f with unacked := f.unacked.filter fun n => decide (seq < n) })

end Sys2Proof.Machine
end

