-- ==== Sys2Proof/Machine/Keep.lean ====
section
/-!
DEFINITION. The keep store (15_keep_store.md R438 to R464): the record log with its appends and compaction, tuning chains,
lifetime counters, the compatibility window, and what power loss leaves.
-/

namespace Sys2Proof.Machine

/-! ### The flash array (R438, R440, R441, R452) -/

/-- A flash byte that nothing has written: erased, or part of a counter sector's factory header (GEN 0; log 5). -/
def keepDefault (a : Nat) : Byte :=
  if a / 4096 < 7 ∧ a % 4096 < 16 then
    [89#8, 78#8, 85#8, 75#8, 0#8, 0#8, 0#8, 0#8, 0#8, 0#8, 0#8, 0#8, 208#8, 233#8, 226#8, 99#8].getD (a % 4096) 0xFF#8
  else 0xFF#8

/-- Programming changes bits from 1 to 0 only. -/
def flashProgram : Nat → Bytes → Mem → Mem
  | _, [], m => m
  | a, b :: bs, m => flashProgram (a + 1) bs (tput keepDefault a (tget keepDefault m a &&& b) m)

/-- A sector erase returns every bit to 1. -/
def flashErase (n : Nat) (m : Mem) : Mem :=
  let x := m.filter fun e => e.1 / 4096 != n
  if n < 7 then mwrite keepDefault (n * 4096) (List.replicate 16 0xFF#8) x else x

def Keep.program (sector offset : Nat) (b : Bytes) (k : Keep) : Keep := { k with flash := flashProgram (sector * 4096 + offset) b k.flash }
def Keep.erase (sector : Nat) (k : Keep) : Keep := { k with flash := flashErase sector k.flash }
def Keep.bytesAt (k : Keep) (sector offset n : Nat) : Bytes := mread keepDefault k.flash (sector * 4096 + offset) n

/-- A CRC-32C follows the bytes that it covers. -/
def withCrc (b : Bytes) : Bytes := b ++ leBytes 4 (crc32c b)

/-- A log sector's header (Table 15-2). Its MAGIC and ERASES are written when the sector has been erased, the rest when it is opened
(log 94). -/
def sectorErased (erases : Nat) : Bytes := leBytes 4 0x4B4C4F47 ++ leBytes 4 erases
def sectorHeader (secseq erases : Nat) : Bytes := withCrc (sectorErased erases ++ leBytes 8 secseq ++ zeros 12)

/-- A record's bytes (R441, Table 15-3). -/
def recordWire (type key seq : Nat) (payload : Bytes) : Bytes :=
  withCrc (leBytes 2 0xA55A ++ leBytes 2 type ++ leBytes 2 payload.length ++ zeros 2 ++ leBytes 4 key ++ leBytes 8 seq ++ payload ++
    zeros (4 * ((payload.length + 3) / 4) - payload.length))

/-- A counter sector's header (R452). -/
def counterHeader (gen : Nat) : Bytes := withCrc (leBytes 4 0x4B554E59 ++ leBytes 4 gen ++ zeros 4)

/-- A counter sector is erased, and takes a header with a new GEN (R453 steps 2 and 3). -/
def Keep.newCounterSector (n gen : Nat) (k : Keep) : Keep := (k.erase n).program n 0 (counterHeader gen)

/-- Bit i of a counter's unary word is programmed. -/
def Keep.programBit (n i : Nat) (k : Keep) : Keep := k.program n (16 + i / 8) [BitVec.ofNat 8 (255 - 2 ^ (i % 8))]

def Keep.onCounter (n : Nat) (f : LifeCtr → LifeCtr) (k : Keep) : Keep := { k with counters := tmod0 {} n f k.counters }

/-- GEN of a counter sector, none when its header is not valid. -/
def Keep.headerGenAt (k : Keep) (n : Nat) : Option Nat :=
  let b := k.bytesAt n 0 16
  if num b 0 4 = 0x4B554E59 ∧ num b 0xC 4 = crc32c (b.take 0xC) then some (num b 4 4) else none

/-- Bits of a counter's unary word from bit i upwards that read programmed. -/
def Keep.unaryFrom (k : Keep) (n : Nat) : Nat → Nat → Nat
  | 0, i => i
  | f + 1, i => if bit (num (k.bytesAt n (16 + i / 8) 1) 0 1) (i % 8) then i else k.unaryFrom n f (i + 1)

/-! ### Sectors (R440, R444) -/

/-- Bytes that a record occupies (R441). -/
def recordSize (len : Nat) : Nat := 24 + 4 * ((len + 3) / 4)

/-- Bytes of a sector after its header (R440). -/
def sectorRoom : Nat := 4096 - 32

/-- A sector that a table does not list: erased. -/
def sectorDefault : Sector := ⟨0, 0, 0, true, false⟩

def Keep.sector (k : Keep) (n : Nat) : Sector := tget0 sectorDefault k.sectors n

/-- Erased log sectors: FREESECTORS (Table 15-14). -/
def Keep.erased (k : Keep) : Nat := (4096 - k.nextFresh) + k.freed.length

/-- The highest SECSEQ of the log. -/
def Keep.topSeq (k : Keep) : Nat := (k.sectors.map fun e => e.2.secseq).foldl max 0

/-- Close the head sector: it receives no further record (R444). -/
def Keep.closeHead (k : Keep) : Keep :=
  match k.head with
  | some h => { k with head := none, sectors := tmod0 sectorDefault h (fun x => { x with closed := true }) k.sectors }
  | none => k

/-- Open the next erased sector, fresh ones ascending and then those that compaction freed, oldest first. -/
def Keep.openSector (k0 : Keep) : Option Keep :=
  let k := k0.closeHead
  let seq := k.topSeq + 1
  if k.nextFresh < 4096 then
    some { k.program k.nextFresh 0 (sectorHeader seq 0) with
      head := some k.nextFresh, nextFresh := k.nextFresh + 1, sectors := tput0 sectorDefault k.nextFresh ⟨seq, 0, 0, false, false⟩ k.sectors }
  else match k.freed with
    | [] => none
    | (n, erases) :: l =>
      some { k.program n 0 (sectorHeader seq erases) with
        head := some n, freed := l, sectors := tput0 sectorDefault n ⟨seq, erases, 0, false, false⟩ k.sectors }

/-- A sector with room for n bytes is at the head. -/
def Keep.withRoom (n : Nat) (k : Keep) : Option Keep :=
  match k.head with
  | some h => if (k.sector h).used + n ≤ sectorRoom then some k else k.openSector
  | none => k.openSector

/-! ### Records (R441, R442) -/

/-- A record goes to the head with the next SEQ. -/
def Keep.put (type key : Nat) (payload : Bytes) (k0 : Keep) : Option Keep :=
  let n := recordSize payload.length
  (k0.withRoom n).map fun k =>
    let h := k.head.getD 0
    let at_ := 32 + (k.sector h).used
    { k.program h at_ (recordWire type key (k.seq + 1) payload) with
      log := k.log ++ [⟨h, at_, type, key, k.seq + 1, payload⟩], seq := k.seq + 1, appendVol := k.appendVol + n
      sectors := tmod0 sectorDefault h (fun x => { x with used := x.used + n }) k.sectors }

/-- The newest valid record of a type and key (R442). -/
def Keep.newest (k : Keep) (type key : Nat) : Option LogRec := k.log.reverse.find? fun r => r.type == type && r.key == key

/-- The types marked "newest" in Table 15-4. -/
def newestTypes : List Nat := [0x01, 0x02, 0x20, 0x22, 0x31, 0x40, 0x41]

/-! ### Tuning chains (R446, R447) -/

/-- A tuning record as it is rebuilt: PASSNO, TREF and the pegs. -/
structure Tuned where
  passNo : Nat
  tref : Int
  pegs : Pegs
  deriving DecidableEq, Repr

/-- The pegs of a full record (09_tuning_passes.md Table 09-5). -/
def parseTuned (b : Bytes) : Tuned :=
  { passNo := num b 4 4, tref := sext 16 (num b 8 2)
    pegs :=
      { off := (List.range 4352).foldl (fun t i => tput0 32 i (elemRaw6 (b.drop 0x20) i) t) []
        gain := (List.range 16).foldl (fun t i => tput0 128 i (b.getD (0x10 + i) 0#8).toNat t) []
        drive := num b 0xC 4 % 256 } }
where
  /-- Peg i of 6-bit values packed from bit 0 upwards. -/
  elemRaw6 (p : Bytes) (i : Nat) : Nat := bits (num p (6 * i / 8) 2) (6 * i % 8 + 5) (6 * i % 8)

/-- The length of the entry that begins a byte string (Table 15-5). -/
def entryLen (b : Bytes) : Nat :=
  let g := num b 9 1
  12 + 4 * ((2 * g + 3) / 4) + 4 * num b 0xA 2

/-- The entries of a tuning set (R447). -/
def setEntries : Nat → Bytes → List Bytes
  | 0, _ => []
  | n + 1, b => b.take (entryLen b) :: setEntries n (b.drop (entryLen b))

def LogRec.entries (r : LogRec) : List Bytes := setEntries (num r.payload 0 4) (r.payload.drop 4)

/-- The record that an entry stands for, over the site's previous record (R447). -/
def applyEntry (t : Tuned) (b : Bytes) : Tuned :=
  let g := num b 9 1
  let n := num b 0xA 2
  let offAt := 12 + 4 * ((2 * g + 3) / 4)
  { passNo := t.passNo + 1, tref := sext 16 (num b 2 2)
    pegs :=
      { gain := (List.range g).foldl (fun x i => tput0 128 (num b (12 + 2 * i) 1) (num b (13 + 2 * i) 1) x) t.pegs.gain
        off := (List.range n).foldl (fun x i =>
          let w := num b (offAt + 4 * i) 4
          tput0 32 (bits w 12 0) (bits w 18 13) x) t.pegs.off
        drive := num b 8 1 } }

/-- CHECK of an entry agrees with the reconstruction. -/
def entryOk (site : Nat) (t : Tuned) (b : Bytes) : Bool := num b 4 4 == crc32c (recordBody site t.passNo t.tref t.pegs)

/-- The tuning record of a site that the log holds, and the entries whose CHECK did not match (R447). -/
def chainOf (site : Nat) (log : List LogRec) : Option Tuned × Nat :=
  log.foldl (fun acc r =>
    if r.type = 0x10 ∧ r.key = site then
      -- a full record whose CHECK is not correct is passed over (09 R260, R261)
      if num r.payload 0xCE0 4 = crc32c (r.payload.take 0xCE0) then (some (parseTuned r.payload), acc.2) else (acc.1, acc.2 + 1)
    else if r.type = 0x11 then
      (r.entries.filter fun e => num e 0 2 == site).foldl (fun a e =>
        match a.1 with
        | none => a
        | some t =>
          let u := applyEntry t e
          if entryOk site u e then (some u, a.2) else (a.1, a.2 + 1)) acc
    else acc) (none, 0)

/-- The records of a site's chain: its newest full record and the sets after it that name the site. -/
def chainRecs (site : Nat) (log : List LogRec) : List LogRec :=
  let full := ((log.filter fun r => r.type == 0x10 && r.key == site).map (·.seq)).foldl max 0
  log.filter fun r =>
    (r.type == 0x10 && r.key == site && r.seq == full) ||
      (r.type == 0x11 && r.seq > full && r.entries.any fun e => num e 0 2 == site)

/-- The sites that a record of type 0x10 or 0x11 names. -/
def LogRec.sites (r : LogRec) : List Nat := if r.type = 0x10 then [r.key] else r.entries.map fun e => num e 0 2

/-- A record of a site's chain is met: the site's current record is written in full and starts a new chain (R446). -/
def Keep.rewriteChain (site : Nat) (r : LogRec) (k : Keep) : Keep :=
  if (chainRecs site k.log).contains r then
    match (chainOf site k.log).1 with
    | some t => (k.put 0x10 site (recordBytes site t.passNo t.tref t.pegs)).getD k
    | none => k
  else k

/-! ### Compaction (R445) -/

/-- Whether an accumulating record is still to be copied: no copy of it lies after the start record. -/
def Keep.uncopied (k : Keep) (start : Nat) (r : LogRec) : Bool :=
  !k.log.any fun x => x.seq > start && x.type == r.type && x.key == r.key && x.payload == r.payload

/-- A fault record is among the 4,096 with the highest SEQ. -/
def Keep.recent (k : Keep) (r : LogRec) : Bool := decide ((k.log.filter fun x => x.type == 0x30 && x.seq > r.seq).length < 4096)

/-- Copy one record of the victim to the head, if it is still in force. -/
def Keep.copyRec (start : Nat) (r : LogRec) (k : Keep) : Keep :=
  if newestTypes.contains r.type then
    if k.newest r.type r.key = some r then (k.put r.type r.key r.payload).getD k else k
  else if r.type = 0x10 ∨ r.type = 0x11 then r.sites.foldl (fun t n => t.rewriteChain n r) k
  else if r.type = 0x21 then (if k.uncopied start r then (k.put r.type r.key r.payload).getD k else k)
  else if r.type = 0x30 then (if k.recent r && k.uncopied start r then (k.put r.type r.key r.payload).getD k else k)
  else k

/-- The oldest log sector that is in the log and not at its head. -/
def Keep.victim (k : Keep) : Option Nat :=
  let l := k.sectors.filter fun e => !e.2.retired && k.head != some e.1
  let low := (l.map fun e => e.2.secseq).foldl min (k.topSeq + 1)
  (l.find? fun e => e.2.secseq == low).map (·.1)

/-- Steps 1 to 3 of R445 for a victim. -/
def Keep.copyVictim (v : Nat) (k0 : Keep) : Keep :=
  let key := (k0.sector v).secseq % 2 ^ 32
  let k1 := (k0.put 0xF0 key []).getD k0
  let k2 := (k0.log.filter fun r => r.sector == v).foldl (fun k r => k.copyRec k1.seq r) k1
  { (k2.put 0xF1 key []).getD k2 with compacting := some (v, 1), eraseFails := 0 }

/-- The victim is erased and its header written: steps 4 and 5. -/
def Keep.eraseVictim (v : Nat) (k : Keep) : Keep :=
  { (k.erase v).program v 0 (sectorErased ((k.sector v).erases + 1)) with
    log := k.log.filter fun r => r.sector != v, sectors := k.sectors.filter fun e => e.1 != v
    freed := k.freed ++ [(v, (k.sector v).erases + 1)], compacting := none, eraseFails := 0, compactions := k.compactions + 1 }

/-- A sector whose erase fails verify twice is retired from the log (R446). -/
def Keep.retireSector (v : Nat) (k : Keep) : Keep :=
  { k with
    log := k.log.filter fun r => r.sector != v
    sectors := tmod0 sectorDefault v (fun x => { x with retired := true, closed := true }) k.sectors
    compacting := none, eraseFails := 0, retired := k.retired + 1 }

/-! ### The condition of R462 and the volume of R461 -/

/-- The erased sectors and the volume after a change of the log: records 0x62 and 0x64. -/
def State.afterLog (s : State) : State :=
  let few := decide (s.keep.erased ≤ 4)
  let s1 :=
    if few && !s.keep.limited then
      (s.onKeep fun k => { k with limited := true }).record { kind := 0x62, severity := 2, unit := .keep }
    else if !few && s.keep.limited then
      (s.onKeep fun k => { k with limited := false }).record { kind := 0x62, severity := 0, unit := .keep }
    else s
  if s1.keep.appendVol ≥ 800000000000 ∧ ¬ s1.keep.volWarned then
    (s1.onKeep fun k => { k with volWarned := true }).record { kind := 0x64, severity := 1, unit := .keep }
  else s1

/-! ### Appends (R443, R444) -/

/-- The append that is served next: the oldest of the highest class; class 1 alone while the store is limited (R462). -/
def Keep.nextAppend (k : Keep) : Option Append :=
  let l := if k.limited then k.pending.filter fun a => a.cls == 1 else k.pending
  let top := (l.map fun a => a.cls).foldl min 9
  l.find? fun a => a.cls == top

/-- Take one append off the list. -/
def dropAppend (a : Append) : List Append → List Append
  | [] => []
  | x :: l => if x = a then l else x :: dropAppend a l

/-- A side-selected record (Table 15-4). -/
def parseSide (b : Bytes) : SideRec := ⟨num b 0 1, num b 1 4, num b 5 4, slice b 9 32⟩

/-- A counter takes its new base record; `header` is the GEN of its sector header (R453). -/
def LifeCtr.rebase (payload : Bytes) (header : Option Nat) (c : LifeCtr) : LifeCtr :=
  { c with base := num payload 0 8, gen := num payload 8 4, headerGen := header, unary := 0 }

/-- What an appended record changes beside the log: the index of kept values, the side, the stored fault records, and a
counter whose base record it is (R453: the counter sector is erased and its header written with the new GEN). -/
def State.indexRec (a : Append) (s : State) : State :=
  if a.type = 1 ∨ a.type = 2 then s.onKeep fun k => { k with kept := k.kept.filter (fun e => e.1 != a.key) ++ [(a.key, a.payload)] }
  else if a.type = 0x22 then s.onKeep fun k => { k with sideRec := some (parseSide a.payload) }
  else if a.type = 0x30 then
    s.onFaults fun f => { f with stored := (f.stored ++ [a.payload]).drop ((f.stored.length + 1) - 4096) }
  else if a.type = 0x41 then
    s.onKeep fun k => (k.newCounterSector a.key (num a.payload 8 4)).onCounter a.key (LifeCtr.rebase a.payload (some (num a.payload 8 4)))
  else s

/-- Write one pending append; its answer may leave. -/
def State.serveAppend (a : Append) (s : State) : State :=
  match s.keep.put a.type a.key a.payload with
  | none => s
  | some k =>
    let s1 := ({ s with keep := { k with pending := dropAppend a k.pending } }).indexRec a
    let s2 := match a.answer with
      | some no => s1.release no
      | none => s1
    s2.afterLog

/-- KEEP_STORE_APPEND: the writer serves one append; `readbackOk` is false when a unit fails its read-back, and the record
is then appended in the next sector. Nothing is programmed while PFAIL_N is low (17 R493). -/
def execKeepStoreAppend (readbackOk : Bool) (s : State) : Host.Outcome State Fault Refusal :=
  .next (if s.dev.pfailLow then s else match s.keep.nextAppend with
    | none => s
    | some a => if readbackOk then s.serveAppend a else (s.onKeep Keep.closeHead).serveAppend a)

/-- The victim's erase verifies or fails. -/
def State.eraseStep (v : Nat) (eraseOk : Bool) (s : State) : State :=
  if eraseOk then (s.onKeep (Keep.eraseVictim v)).afterLog
  else if s.keep.eraseFails + 1 ≥ 2 then
    ((s.onKeep (Keep.retireSector v)).record { kind := 0x63, severity := 1, unit := .keep }).afterLog
  else s.onKeep fun k => { k with eraseFails := k.eraseFails + 1 }

/-- COMPACTION: the oldest sector is compacted while fewer than 64 erased sectors remain; a victim whose erase failed is
erased again. -/
def execCompaction (eraseOk : Bool) (s : State) : Host.Outcome State Fault Refusal :=
  .next (if s.dev.pfailLow then s else match s.keep.compacting with
    | some (v, _) => s.eraseStep v eraseOk
    | none =>
      if s.keep.erased < 64 then
        match s.keep.victim with
        | some v => (s.onKeep (Keep.copyVictim v)).eraseStep v eraseOk
        | none => s
      else s)

/-! ### Lifetime counters (R451 to R454) -/

/-- The value of a counter (R453). -/
def LifeCtr.value (c : LifeCtr) : Nat := if c.headerGen = some c.gen then c.base + c.unary else c.base

/-- A counter whose unary word is full appends its base record; increments wait meanwhile. -/
def State.foldCounter (n : Nat) (s : State) : State :=
  let c := tget0 {} s.keep.counters n
  if c.unary ≥ 32000 then s.append 1 0x41 n (leBytes 8 c.value ++ leBytes 4 (c.gen + 1)) else s

/-- A fold of the counter is under way. -/
def Keep.folding (k : Keep) (n : Nat) : Bool := k.pending.any fun a => a.type == 0x41 && a.key == n

/-- COUNTER_INCREMENT: one waiting increment programs the lowest unprogrammed bit; a bit that does not verify is not
counted, and the next increment programs it again. -/
def execCounterIncrement (n : Nat) (verifies : Bool) (s : State) : Host.Outcome State Fault Refusal :=
  if n < 7 then
    let c := tget0 {} s.keep.counters n
    .next (if s.dev.pfailLow ∨ c.pending = 0 ∨ s.keep.folding n ∨ verifies = false then s
      else (s.onKeep fun k =>
        (k.programBit n c.unary).onCounter n fun x => { x with unary := x.unary + 1, pending := x.pending - 1 }).foldCounter n)
  else .fault .noSuchUnit

/-- HISTOGRAM_SNAPSHOT (R460): 600 s have been spent in READY, SERVING or DEGRADED. -/
def execHistogramSnapshot (s : State) : Host.Outcome State Fault Refusal :=
  .next (match s.dev.state with
    | .ready | .serving | .degraded => s.snapshot
    | _ => s)

/-! ### The compatibility window (R455 to R459) -/

/-- The first protected byte address of a block-protect value (Table 15-11). -/
def protectFrom (bp : Nat) : Nat := match bp % 4 with
  | 0 => 65536
  | 1 => 0xC000
  | 2 => 0x8000
  | _ => 0

/-- A page is programmed as soon as the array is free: the intent row is written first (R458). -/
def State.queuePage (j : PageJob) (s : State) : State :=
  s.onKeep fun k =>
    if k.page.isNone && k.pageQueue.isEmpty && !s.dev.pfailLow then { k with page := some j }
    else { k with pageQueue := k.pageQueue ++ [j] }

/-- The next page begins while PFAIL_N is high. -/
def State.nextPage (s : State) : State :=
  if s.dev.pfailLow then s
  else s.onKeep fun k => match k.page, k.pageQueue with
    | none, j :: l => { k with page := some j, pageQueue := l }
    | _, _ => k

/-- Load a byte into a page buffer: the last load of a position stands. -/
def loadByte (l : List (Nat × Byte)) (p : Nat) (b : Byte) : List (Nat × Byte) := l.filter (fun e => e.1 != p) ++ [(p, b)]

/-- Load bytes from a position on, going round within the page (R455). -/
def loadPage (l : List (Nat × Byte)) (pos : Nat) : Bytes → List (Nat × Byte)
  | [] => l
  | b :: bs => loadPage (loadByte l (pos % 64) b) (pos + 1) bs

/-- WINDOW_PAGE_WRITE (6100.04): answered when programming is complete. -/
def windowPageWrite (addr count rsvd : Nat) (data : Bytes) (s : State) : Reply :=
  if data.length ≠ 64 then .deny stLength s
  else if addr > 65535 ∨ count < 1 ∨ count > 64 ∨ rsvd ≠ 0 ∨ (data.drop count).any (· != 0#8) then .deny stRange s
  else if addr / 64 * 64 ≥ protectFrom s.keep.protect then .deny stAccess s
  else if s.dev.pfailLow then .deny stUnavailable s
  else
    { s := s.queuePage ⟨addr / 64, loadPage [] (addr % 64) (data.take count), some s.dict.answerNo⟩, wait := true }

/-- Load one byte of a segment of 6100.01: position 63 of a page has it programmed (R456). -/
def State.windowByte (a : Nat) (b : Byte) (s : State) : State :=
  let l := loadByte s.keep.segPage (a % 64) b
  if a % 64 = 63 then (s.onKeep fun k => { k with segPage := [] }).queuePage ⟨a / 64, l, none⟩
  else s.onKeep fun k => { k with segPage := l }

def State.windowBytes (a : Nat) : Bytes → State → State
  | [], s => s
  | b :: bs, s => (s.windowByte a b).windowBytes (a + 1) bs

/-- WINDOW_SEGMENT_WRITE (6100.01): the segment loads its bytes, or is refused and loads nothing (R456, R457). -/
def windowSegmentWrite (offset : Nat) (data : Bytes) (last : Bool) (s : State) : Reply :=
  let stop := offset + data.length
  if stop > 65536 then .deny stLength s
  else if data ≠ [] ∧ (stop - 1) / 64 * 64 ≥ protectFrom s.keep.protect then .deny stAccess s
  else if s.dev.pfailLow then .deny stUnavailable s
  else
    let s0 := if offset = 0 then s.onKeep fun k => { k with segPage := [] } else s
    let s1 := s0.windowBytes offset data
    .ok (if last ∧ s1.keep.segPage ≠ [] then
        (s1.onKeep fun k => { k with segPage := [] }).queuePage ⟨(stop - 1) / 64, s1.keep.segPage, none⟩
      else s1)

/-- Bytes of a page at their positions. -/
def putPage (page : Nat) (l : List (Nat × Byte)) (m : Mem) : Mem :=
  l.foldl (fun t e => tput0 0xFF#8 (page * 64 + e.1) e.2 t) m

/-- WINDOW_PAGE_PROGRAMMED: the page holds its new bytes; its write counts (R459), and the answer leaves. -/
def execWindowPageProgrammed (s : State) : Host.Outcome State Fault Refusal :=
  .next (match s.keep.page with
    | none => s
    | some j =>
      let n := tget0 0 s.keep.writeCounts j.page
      let s1 := s.onKeep fun k =>
        { k with page := none, window := putPage j.page j.bytes k.window
                 writeCounts := tput0 0 j.page (min (n + 1) 0xFFFFFFFF) k.writeCounts
                 interrupted := if k.interrupted = j.page then 0xFFFF else k.interrupted }
      let s2 := if n + 1 = 1000000 then
          s1.record { kind := 0x67, severity := 1, unit := .keep }
        else s1
      let s3 := match j.answer with
        | some no => s2.release no
        | none => s2
      s3.nextPage)

/-- BLOCK_PROTECT_WRITE (6100.02): the copy not in force is written (R457). -/
def blockProtectWrite (value : Nat) (s : State) : Reply :=
  if value > 3 then .deny stRange s
  else if s.dev.pfailLow then .deny stUnavailable s
  else .ok (s.onKeep fun k => { k with protect := value, oldProtect := k.protect, protectBusy := true })

/-! ### Power loss and recovery (R449, R450, R454, R458) -/

/-- The append in progress when power went (R450), with the stage of a fold (R454). -/
def Keep.loseAppend (o : LossOutcome) (k : Keep) : Keep :=
  match k.nextAppend with
  | none => k
  | some a =>
    let torn : Keep :=
      { k.closeHead with recovery := k.recovery ++ [0x60] }
    if a.type = 0x41 then
      if o.foldStage = 0 then torn
      else match k.put a.type a.key a.payload with
        | none => torn
        | some x =>
          let gen := num a.payload 8 4
          let y := if o.foldStage = 1 then x.erase a.key else x.newCounterSector a.key gen
          y.onCounter a.key (LifeCtr.rebase a.payload (if o.foldStage = 1 then none else some gen))
    else if o.appendDone then (k.put a.type a.key a.payload).getD torn
    else torn

/-- A compaction that was under way is completed (Table 15-7); one whose victim had its header is over. -/
def Keep.loseCompaction (o : LossOutcome) (k : Keep) : Keep :=
  let done (v : Nat) (x : Keep) : Keep :=
    let y := { x.eraseVictim v with compactions := x.compactions }
    if o.victimErased then y else { y with recovery := y.recovery ++ [0x61] }
  match k.compacting with
  | some (v, _) => done v k
  | none =>
    if k.erased < 64 then
      match k.victim with
      | some v => done v (k.copyVictim v)
      | none => k
    else k

/-- The unary bit that was being programmed (Table 15-9). -/
def Keep.loseBit (o : LossOutcome) (k : Keep) : Keep :=
  match k.counters.find? fun e => e.2.pending > 0 && !k.folding e.1 with
  | none => k
  | some e =>
    if o.bitVerifies then (k.programBit e.1 e.2.unary).onCounter e.1 fun c => { c with unary := c.unary + 1 }
    else { k with recovery := k.recovery ++ [0x68] }

/-- The page that was being programmed (Table 15-12). -/
def Keep.losePage (o : LossOutcome) (k : Keep) : Keep :=
  match k.page with
  | none => k
  | some j =>
    if o.inIntent then k
    else
      let l := j.bytes.filterMap fun e => match o.pageBytes.getD e.1 0 with
        | 0 => none
        | 1 => some e
        | _ => some (e.1, 0xFF#8)
      { k with window := putPage j.page l k.window, interrupted := j.page, recovery := k.recovery ++ [0x66] }

/-- The histograms of the newest snapshot (R460): a power loss loses the counts since. -/
def parseHist (b : Bytes) : Tbl Nat :=
  let rows := (histBins.zipIdx.foldl (fun acc e => (acc.1 + 4 + 8 * e.1, acc.2 ++ [(e.2, acc.1 + 4, e.1)])) (0, [])).2
  rows.foldl (fun t r => (List.range r.2.2).foldl (fun u i => tput0 0 (r.1 * 512 + i) (num b (r.2.1 + 8 * i) 8) u) t) []

/-- A record that the index names is valid in the flash array (R442): it lies within its sector, and its bytes are those of its header, its
payload and their CRC. -/
def Keep.recValid (k : Keep) (r : LogRec) : Bool :=
  decide (r.offset + recordSize r.payload.length ≤ 4096) &&
    k.bytesAt r.sector r.offset (recordSize r.payload.length) == recordWire r.type r.key r.seq r.payload

/-- What the keep store holds once the device has lost its volatile state: the valid records of the flash array and their values, no append,
no page. -/
def Keep.cold (dev : Nat) (k0 : Keep) : Keep :=
  let k := { k0 with log := k0.log.filter k0.recValid }
  let lost := k.pending.filterMap fun a => if a.type = 0x21 then some a.payload else none
  { k with
    pending := [], compacting := none, eraseFails := 0, compactions := 0, limited := false, flags := 0, setBuf := [], page := none
    segPage := [], pageQueue := []
    kept := (k.log.filter fun r => r.type == 1 || r.type == 2).foldl (fun t r => t.filter (fun e => e.1 != r.key) ++ [(r.key, r.payload)]) []
    sideRec := (k.newest 0x22 0).map fun r => parseSide r.payload
    retirements := lost.foldl (fun l p => (l.reverse.eraseP fun u => unitFullPath dev u == p).reverse) k.retirements
    hist := (((k.newest 0x40 0).map fun r => parseHist r.payload).getD [])
    counters := (List.range 7).foldl (fun t n =>
      tmod0 {} n (fun c => { c with pending := 0, headerGen := k.headerGenAt n, unary := k.unaryFrom n 32640 0 }) t) k.counters }

/-- What power loss leaves in the keep store, by the outcomes of the interrupted work. -/
def Keep.lose (o : LossOutcome) (k : Keep) : Keep :=
  let k1 := (((k.loseBit o).loseAppend o).loseCompaction o).losePage o
  { k1 with protect := if k1.protectBusy && !o.copyDone then k1.oldProtect else k1.protect, protectBusy := false }

end Sys2Proof.Machine
end

