-- ==== Sys2Proof/Machine/Boot.lean ====
section
/-!
DEFINITION. Reset, boot and trust (14_boot_and_trust.md R409 to R437): firmware selection, keep-store recovery, SELFTEST, the loading of
the selected image, firmware update, keys, MACsec, test access; and the end of a drain stop and power loss.
-/

namespace Sys2Proof.Machine

/-! ### Losing the volatile state -/

/-- A plane after the volatile state is lost: what its cells hold, and its wear. -/
def Plane.cold (p : Plane) : Plane :=
  { shard := p.shard, wtfmt := p.wtfmt, writes := p.writes, retryLoops := p.retryLoops, failCount := p.failCount
    lastMargin := p.storedMargin, peakMargin := p.peakMargin, endurance := p.endurance, storedMargin := p.storedMargin }

/-- A plane with the wear of its newest record (15 R442, Table 07-8). -/
def Plane.withWear (b : Bytes) (p : Plane) : Plane :=
  { p with writes := num b 0 4, retryLoops := num b 4 4, failCount := num b 8 2, lastMargin := num b 10 2, peakMargin := num b 12 2
           endurance := num b 14 2, storedMargin := num b 10 2 }

/-- Every plane's wear from the log. -/
def Keep.restoreWear (k : Keep) (t : Tbl Plane) : Tbl Plane :=
  let keys := ((k.log.filter fun r => r.type == 0x20).map (·.key)).foldl (fun l n => insertNew n l) []
  keys.foldl (fun u n => match k.newest 0x20 n with
    | some r => tmod0 {} n (Plane.withWear r.payload) u
    | none => u) t

/-- PN high-water marks from the log (R435). -/
def Keep.marks (k : Keep) : Tbl Nat :=
  (k.log.filter fun r => r.type == 0x31).foldl (fun t r => tput0 0 r.key (num r.payload 0 4) t) []

/-- Every volatile field at its reset value; fuses, flash, keep store and cells keep what they hold, and so do the pins. RESET_N is
low: RESET_RELEASE follows (log 35). -/
def State.cold (s : State) : State :=
  let keep := s.keep.cold s.group.devno
  { State.reset with
    pending := s.pending, tx := s.tx, keep := keep
    dev :=
      { State.reset.dev with
        gradeB := s.dev.gradeB, clusterMask := s.dev.clusterMask, serial := s.dev.serial, stepping := s.dev.stepping
        ordering := s.dev.ordering, freeCount := s.dev.freeCount, safeNLow := s.dev.safeNLow, pfailLow := s.dev.pfailLow }
    flash := { s.flash with delivered := none, deliveryAt := 0, romBuf := [], activateNext := false }
    macsec := { State.reset.macsec with marks := keep.marks }
    planes := keep.restoreWear (s.planes.foldl (fun t e => tput0 {} e.1 e.2.cold t) [])
    mem := { State.reset.mem with planes := s.mem.planes }
    faults := { State.reset.faults with stored := s.faults.stored } }

/-- What a loss of power leaves of a directory copy or a fuse row that was being written: the copy fails its CHECK, the row its CRC (R416,
R422, R424). One whose write was complete stands (log 92). -/
def Flash.lose (o : LossOutcome) (f : Flash) : Flash :=
  { f with
    dirs := match f.dirBusy, o.copyDone with
      | some n, false => f.dirs.set n []
      | _, _ => f.dirs
    arb := if f.fuseBusy && !o.fuseDone then f.arb.dropLast ++ [none] else f.arb
    dirBusy := none, fuseBusy := false }

/-- POWER_LOSS: power goes, or RESET_N goes low, at an arbitrary moment. -/
def execPowerLoss (o : LossOutcome) (s : State) : Host.Outcome State Fault Refusal :=
  .next (((s.onFlash (Flash.lose o)).onKeep (Keep.lose o)).cold)

/-! ### Firmware selection (R418 to R421) -/

/-- The firmware that runs: its version, its SECVER and its measurement. -/
def State.runFirmware (path : Nat) (f : FwSlot) (s : State) : State :=
  s.onDev fun d =>
    { d with bootPath := path, fwver := fwVersion f, secver := fwSecver f, rollfwd := fwRollfwd f, measure := fwMeasure f }

/-- A slot that holds no image. -/
def noSlot : FwSlot := ⟨[], false, false, false⟩

/-- The three firmware areas. -/
def Flash.areas (f : Flash) : List FwSlot := f.slots ++ List.replicate (3 - f.slots.length) noSlot

/-- Areas that hold nothing yet hold what production wrote into them (log 1). -/
def Flash.factory (l : List FwSlot) (f : Flash) : Flash :=
  { f with slots := f.areas.zipIdx.map fun e => if e.1.bytes.isEmpty then l.getD e.2 noSlot else e.1 }

/-- The flash as Table 14-2 lays it out: the byte at an offset; a byte that nothing has written reads 0xFF. -/
def Flash.byteAt (f : Flash) (a : Nat) : Byte :=
  let image (slot off : Nat) : Byte :=
    let m := tget0 [] f.manifests slot
    if off < m.length then m.getD off 0xFF#8
    else
      let es := ((f.images.find? fun e => e.1 == slot).map fun e => e.2.entries).getD []
      match es.zipIdx.find? fun e => decide (e.1.offset ≤ off ∧ off < e.1.offset + e.1.length) with
      | some e => (tget0 [] f.objects (slot * 8192 + e.2)).getD (off - e.1.offset) 0xFF#8
      | none => 0xFF#8
  let fw (i off : Nat) : Byte := (f.areas.getD i noSlot).bytes.getD off 0xFF#8
  if a < 0x20000 then (f.dirs.getD (a / 0x10000) []).getD (a % 0x10000) 0xFF#8
  else if a < 0x100000 then 0xFF#8
  else if a < 0x500000 then fw 0 (a - 0x100000)
  else if a < 0x900000 then fw 1 (a - 0x500000)
  else if a < 0xB00000 then fw 2 (a - 0x900000)
  else if a < 0x1000000 then 0xFF#8
  else if a < 0x8800000 then image 0 (a - 0x1000000)
  else if a < 0x10000000 then image 1 (a - 0x8800000)
  else 0xFF#8

/-- The order of R419. -/
def State.selectFirmware (s : State) : State :=
  let old := s.flash
  let abandoned := old.trial && decide (old.attempts ≥ 3)
  let flash :=
    if abandoned then old.writeDirectory (1 - old.active) false 0
    else if old.trial then old.writeDirectory old.active true (old.attempts + 1)
    else old
  let a := flash.active
  let s1 := (s.onFlash fun _ => flash).onDev fun d => { d with abandoned := abandoned }
  let slot (i : Nat) : FwSlot := (flash.slots[i]?).getD noSlot
  let fails (l : List Nat) (x : State) : State := x.onDev fun d => { d with slotsFailed := maskOf 3 l }
  if flash.slotOk a then s1.runFirmware 0 (slot a)
  else if flash.slotOk (1 - a) then fails [a] (s1.runFirmware 1 (slot (1 - a)))
  else if flash.slotOk 2 then fails [0, 1] (s1.runFirmware 2 (slot 2))
  else fails [0, 1, 2] (s1.onDev fun d => { d with bootPath := 3 })

/-- RESET_RELEASE: the straps are sampled, and the boot ROM selects its firmware. A rail out of range, or a crystal that does not
oscillate, leaves the device in BOOT (17 R492, R495). The ROM checks its root keys against their fuse before it uses them (R423). -/
def execResetRelease (straps : Nat) (testEn railsOk crystalOk : Bool) (rootKeys : Bytes) (flashOk : Bool) (slots : List FwSlot) (s : State) :
    Host.Outcome State Fault Refusal :=
  .next (if ¬ s.dev.resetHeld then s
    else
      let s1 := s.onDev fun d =>
        { d with resetHeld := false, straps := straps % 16, testEn := testEn, bootStuck := !(railsOk && crystalOk) }
      if s1.dev.bootStuck then s1
      else if bit straps 0 ∨ digest32 rootKeys ≠ s1.flash.rootFuse ∨ ¬ flashOk then s1.onDev fun d => { d with bootPath := 3 }
      else (s1.onFlash (Flash.factory slots)).selectFirmware)

/-- A delivery that passes R418 goes to slot 0 as a trial, and the device resets (R421). -/
def State.romInstall (slot : FwSlot) (s : State) : State :=
  (s.onFlash fun f => ({ f with slots := f.areas.set 0 slot }).writeDirectory 0 true 0).cold

/-- ROM_RECOVERY_DELIVERY: a complete delivery in ROM recovery. -/
def execRomRecoveryDelivery (slot : FwSlot) (s : State) : Host.Outcome State Fault Refusal :=
  .next (if s.dev.state = .boot ∧ ¬ s.dev.resetHeld ∧ ¬ s.dev.bootStuck ∧ s.dev.bootPath = 3 ∧
      FwSlot.accepted s.flash.arbValue false slot = true then s.romInstall slot
  else s)

/-! ### Settings at boot -/

/-- Put a value into a table of settings. -/
def putSetting (key : Nat) (v : Bytes) (t : Tbl Bytes) : Tbl Bytes := tput0 [] key v t

/-- The kept values that are plain settings; key slots, image keys and MACsec keys go to their own tables (log 36). -/
def plainKept (key : Nat) : Bool := !(key / 256 == 0x9010 || key / 256 == 0x9040 || key == 0x905002)

/-- The settings that a boot puts in force (10 R306, 11 R324 and log 37, 09 R267, 11 R347, 12 R383, 13 R408, 16 R472). -/
def State.takeSettings (s : State) : State :=
  let all := s.dict.settings
  let tr := s.settingBytes 0x7100 2 [1#8, 1#8, 0#8, 7#8]
  ((((s.onDict fun d => { d with comm := all.filter fun e => 0x1100 ≤ e.1 / 256 && e.1 / 256 < 0x1200 }).onWalk fun w =>
    { w with fraction := s.setting 0x5000 1 2, release := s.setting 0x5000 2 0, intakeCfg := all.filter fun e => intakeKey e.1
             tuningCfg := [s.setting 0x8000 1 6, s.setting 0x8000 2 4096, s.setting 0x8000 3 4, s.setting 0x8000 4 1024] }).onPub fun p =>
    { p with cfg := all.filter fun e => 0x3100 ≤ e.1 / 256 && e.1 / 256 ≤ 0x32FF }).onObs fun o =>
    { o with traceSize := num tr 0 1, traceEnable := num tr 1 1, traceMode := num tr 2 1, traceSources := num tr 3 1 }).onGroup fun g =>
    { g with devno := s.setting 0xA000 1 0 }

/-! ### MACsec keys (R434, R435) -/

/-- The value of 9050.02: per MAC the transmit SCI and AN, then ten secure associations. -/
def State.macsecValue (s : State) : Bytes :=
  (List.range 2).flatMap fun m =>
    padTo 8 (tget0 [] s.macsec.txSci m) ++ leBytes 1 (tget0 0 s.macsec.txAn m) ++
      (List.range 10).flatMap fun i => match s.macsec.sas.find? fun e => e.1 == m * 16 + i with
        | some e => padTo 8 e.2.sci ++ padTo 32 e.2.sak ++ leBytes 4 e.2.pn ++ leBytes 1 e.2.installed.toNat
        | none => zeros 45

/-- Bytes of one MAC's entry. -/
def macsecEntry : Nat := 8 + 1 + 10 * 45

/-- Install one MAC's keys: the SAs that are named installed, the others removed. A new SA ends a stop of transmission. -/
def State.installSas (mac : Nat) (sci : Bytes) (an : Nat) (sas : List SaWrite) (s : State) : State :=
  let mine := (sas.zipIdx.filter fun e => e.1.installed && e.2 < 10).map fun e =>
    (mac * 16 + e.2, (⟨e.1.sci, e.1.sak, e.1.pn, true⟩ : Sa))
  s.onMacsec fun m =>
    { m with txSci := tput0 [] mac sci m.txSci, txAn := tput0 0 mac an m.txAn
             sas := (m.sas.filter fun e => e.1 / 16 < mac) ++ mine ++ m.sas.filter fun e => mac < e.1 / 16
             stopped := if mine.any fun e => e.1 == mac * 16 + an then m.stopped.filter (· != mac) else m.stopped
             nearWarned := m.nearWarned.filter (· != mac), stopTold := m.stopTold.filter (· != mac) }

/-- One secure association of a MAC's entry. -/
def parseSa (b : Bytes) (i : Nat) : SaWrite :=
  let o := 9 + 45 * i
  ⟨slice b o 8, slice b (o + 8) 32, num b (o + 40) 4, num b (o + 44) 1 == 1⟩

/-- One MAC's entry of 9050.02. -/
def State.installEntry (mac : Nat) (b : Bytes) (s : State) : State :=
  s.installSas mac (slice b 0 8) (num b 8 1 % 2) ((List.range 10).map (parseSa b))

/-- Transmit PNs resume at the high-water mark plus 2^20 (R435). -/
def State.resumePns (s : State) : State :=
  s.onMacsec fun m =>
    { m with sas := m.sas.map fun e =>
        if e.1 % 16 < 2 then (e.1, { e.2 with pn := min (tget0 0 m.marks e.1 + 2 ^ 20) 0xFFFFFFFF }) else e }

/-- The initial PN of each transmit SA becomes its high-water mark, so that no boot resumes below it (log 38). -/
def State.markPns (mac : Nat) (s : State) : State :=
  (s.macsec.sas.filter fun e => e.1 / 16 == mac && e.1 % 16 < 2).foldl (fun t e =>
    (t.onMacsec fun m => { m with marks := tput0 0 e.1 e.2.pn m.marks }).append 2 0x31 e.1 (leBytes 4 e.2.pn)) s

/-- MACSEC_KEY_WRITE: one MAC's keys. -/
def macsecKeyWrite (mac : Nat) (sci : Bytes) (an : Nat) (sas : List SaWrite) (s : State) : Reply :=
  if mac > 1 ∨ an > 1 then .deny stRange s
  else if sci.length ≠ 8 ∨ sas.length ≠ 10 ∨ (sas.any fun a => a.sci.length != 8 || a.sak.length != 32) = true then .deny stLength s
  else
    let s1 := (s.installSas mac sci an sas).markPns mac
    { s := s1.appendKept 0x9050 2 s1.macsecValue (some s.dict.answerNo), wait := true }

/-- A write of 9050.02 as its bytes. -/
def writeMacsecKeys (d : Bytes) (s : State) : Reply :=
  if d.length ≠ 2 * macsecEntry then .deny stLength s
  else if (List.range 2).any fun m => num d (m * macsecEntry + 8) 1 > 1 ||
      (List.range 10).any fun i => num d (m * macsecEntry + 9 + 45 * i + 44) 1 > 1 then .deny stRange s
  else
    let s1 := (((s.installEntry 0 (d.take macsecEntry)).installEntry 1 (d.drop macsecEntry)).markPns 0).markPns 1
    { s := s1.appendKept 0x9050 2 d (some s.dict.answerNo), wait := true }

/-- MACSEC_FRAME_RECEIVED: a frame of a protected MAC is validated or discarded. -/
def execMacsecFrameReceived (mac channel an pn : Nat) (tagPresent icvOk : Bool) (s : State) : Host.Outcome State Fault Refusal :=
  if mac < 2 then
    let key := mac * 16 + 2 + channel * 2 + an
    .next (if ¬ s.macsecOn mac then s
      else match s.macsec.sas.find? fun e => e.1 == key && channel < 4 && an < 2 with
        | some e =>
          if tagPresent ∧ icvOk ∧ e.2.pn ≤ pn + s.setting 0x9050 3 64 then
            (s.onMacsec fun m => { m with sas := m.sas.map fun x =>
              if x.1 = key then (key, { x.2 with pn := max x.2.pn (pn + 1) }) else x }).countMacsec mac 1
          else s.countMacsec mac 2
        | none => s.countMacsec mac 2)
  else .fault .noSuchUnit

/-! ### Keep-store recovery (15 R449) and the boot count -/

/-- A counter sector whose header does not match its base is erased and takes the base's GEN (15 Table 15-9). -/
def LifeCtr.recover (c : LifeCtr) : LifeCtr := if c.headerGen = some c.gen then c else { c with headerGen := some c.gen, unary := 0 }

/-- Stage 5 of recovery: such a sector is erased and takes its header, and the boot count's bit is programmed. -/
def Keep.recoverCounters (k : Keep) : Keep :=
  let k1 : Keep := (List.range 7).foldl (fun (t : Keep) n =>
    let c := tget0 {} t.counters n
    if c.headerGen = some c.gen then t else t.newCounterSector n c.gen) k
  let k2 : Keep := { k1 with counters := k1.counters.foldl (fun t e => tput0 ({} : LifeCtr) e.1 e.2.recover t) [] }
  (k2.programBit 0 (tget0 {} k2.counters 0).unary).onCounter 0 fun c => { c with unary := c.unary + 1 }

/-- Recovery: the flags of Table 15-14, and the counters with the boot count's increment. -/
def State.recoverKeep (s : State) : State :=
  let r := s.keep.recovery
  let rebuilt := s.keep.counters.any fun e => e.2.headerGen != some e.2.gen
  let s1 := s.onKeep fun k =>
    { k.recoverCounters with
      recovery := []
      flags := (r.contains 0x60).toNat + 2 * (r.contains 0x61).toNat + 4 * (r.contains 0x68).toNat + 8 * rebuilt.toNat }
  let s2 := s1.onDev fun d => { d with bootCount := (tget0 {} s1.keep.counters 0).value % 2 ^ 32 }
  (r.foldl (fun t k => t.record
    { kind := k, severity := if k = 0x66 then 1 else 0, unit := .keep }) s2).foldCounter 0

/-- The kept values as they were written: those of 9000 to 90FF are opened, and one whose tag does not verify is passed over. -/
def State.openKept (s : State) : Tbl Bytes :=
  s.keep.kept.filterMap fun e =>
    if 0x9000 ≤ e.1 / 256 ∧ e.1 / 256 < 0x9100 then (gcmOpen (Config.storeKey s.flash.uds) (leBytes 4 e.1) e.2).map fun v => (e.1, v) else some e

/-- The kept values are handed to firmware (Table 15-6 stage 6). -/
def State.takeKept (s : State) : State :=
  let kept := s.openKept
  let table (idx : Nat) : Tbl Bytes := (List.range 8).foldl (fun t k =>
    match kept.find? fun e => e.1 == idx * 256 + 1 + k with
    | some e => tput0 [] k e.2 t
    | none => t) []
  let s1 := ((s.onDict fun d =>
    { d with settings := (kept.filter fun e => plainKept e.1).foldl (fun t e => putSetting e.1 e.2 t) [] }).onFlash fun f =>
    { f with clientKeys := table 0x9010, imageKeys := table 0x9040 })
  let s2 := match kept.find? fun e => e.1 == 0x905002 with
    | some e => (s1.installEntry 0 (e.2.take macsecEntry)).installEntry 1 (e.2.drop macsecEntry)
    | none => s1
  s2.resumePns.takeSettings

/-- Each site with a tuning record loads its pegs (09 R260); an entry whose CHECK does not match has record 0x65. -/
def State.takePegs (s : State) : State :=
  let sites := ((s.keep.log.filter fun r => r.type == 0x10).map (·.key)).foldl (fun l n => insertNew n l) []
  (sites.foldl (fun t n =>
    let c := chainOf n t.keep.log
    let t1 := match c.1 with
      | some r => t.onSite n fun x =>
          { x with off := r.pegs.off, offT := r.pegs.off, gain := r.pegs.gain, gainT := r.pegs.gain, drive := r.pegs.drive
                   driveT := r.pegs.drive, tref := r.tref, passNo := r.passNo }
      | none => t
    (List.range c.2).foldl (fun u _ => u.record { kind := 0x65, severity := 1, unit := .site n }) t1) s).onKeep fun k =>
      { k with chained := sites }

/-- A retirement of the part's life is applied at boot (10 R295). A site goes to its substitute when the standby's selected plane
holds a shard, and is ordered out anew when it does not (log 39). The second retirement of a site that is RETIRING takes its logical engine away
(log 107). -/
def State.applyRetirement (u : UnitId) (s : State) : State :=
  let s1 := s.onCheck u fun c => { c with retired := true }
  match u with
  | .site n =>
    let core := n / 5
    let standby := core * 5 + 4
    if (s.site n).check.retired ∧ (s.site n).state = .retiring then s1.loseEngine n
    else if n % 5 = 4 then
      let pl := 2 * n + s.capo.side
      match (s.site n).state with
      | .substitute => s1.onSite n fun x => { x with state := .retiring }
      | .copying => (s1.dropWrite pl).onSite n fun x => { x.retire with copyStage := 0, copyFor := none }
      | _ => s1.onSite n Site.retire
    else if (s1.site standby).state = .standby then
      if (s1.plane (2 * standby + s.capo.side)).shard.isEmpty then s1.orderSubstitution n
      else ((s1.onSite n fun x => { x with state := .retired }).onSite standby fun x => { x with state := .substitute }).onCore core fun c =>
        { c with subst := c.subst.set (n % 5) 4 }
    else s1.onSite n fun x => { x with state := .retiring }
  | _ => s1

/-- The per-boot sampling seeds are drawn (10 R278); free values (log 2). A source that has not passed gives none (R433). -/
def State.drawSeeds (s : State) : State :=
  if s.dev.entropyBad then s
  else (s.activeCores.foldl (fun t c => t.onCore c fun x => { x with seed := Config.freeNat (s.dev.freeCount + c) % 2 ^ 64 }) s).onDev fun d =>
    { d with freeCount := d.freeCount + 256 }

/-! ### Ports at boot (12 R360, R364) -/

/-- A port has a role in an arrangement (Table 12-3). -/
def portRole (arr port : Nat) : Bool :=
  match bits arr 1 0 with
  | 0 => false
  | topo =>
    if port < 2 then decide (2 ≤ arrX arr)
    else if port < 4 then topo == 2 && decide (2 ≤ arrY arr)
    else bit arr 10 && decide (2 ≤ arrX arr)

/-- Training starts on every port with a role. The arrangement is that of the image to be selected. -/
def State.startPorts (arr : Nat) (s : State) : State :=
  (List.range 6).foldl (fun t p => if portRole arr p then t.onPort p fun x => { x with state := .training } else t)
    (s.onGroup fun g => { g with arrange := arr, formed := arrSize arr == 1 })

/-- A SELFTEST pass starts on every site that is not RETIRED (09 R250). -/
def State.startSelftest (s : State) : State :=
  (s.onDev fun d => { d with selftestRound := 0 }).nextRound 5

/-- Records of the boot (R419, R420, R433, 17 R501). -/
def State.bootRecords (entropyOk : Bool) (s : State) : State :=
  let s1 := (listOf 3 s.dev.slotsFailed).foldl (fun t _ =>
    t.record { kind := 0x40, severity := 2, unit := .pair 0 }) s
  let s2 := if s1.dev.abandoned then s1.record { kind := 0x41, severity := 1, unit := .pair 0 } else s1
  let s3 := if s2.dev.bootPath = 2 then s2.record { kind := 0x42, severity := 3, unit := .pair 0 } else s2
  let s4 := if s3.dev.testEn then s3.record { kind := 0x5C, severity := 3, unit := .pair 0 } else s3
  if entropyOk then s4
  else (s4.onDev fun d => { d with entropyBad := true }).record { kind := 0x47, severity := 3, unit := .sec, reactions := [9] }

/-! ### The device's keys and certificates (R425 to R427) -/

/-- Key seeds that the spec gives no value: 0 the Kryvan root, 1 the product CA (log 2). -/
def keySeed (k : Nat) : Bytes := (List.range 64).map fun i => Config.freeByte (2 ^ 40 + 64 * k + i)

/-- The device identity key, unwrapped in the security block. -/
def State.dikSeed (s : State) : Bytes := gcmXor (Config.storeKey s.flash.uds) (zeros 12) s.flash.dik

/-- The public keys of a seed, Ed25519 then ML-DSA-65, and the KEYID over both (R427). -/
def publicKeys (seed : Bytes) : Bytes := padTo 32 ((Config.ed25519Public (edSeed seed)).take 32) ++ padTo 1952 ((Config.mldsaPublic (mlSeed seed)).take 1952)
def seedKeyid (seed : Bytes) : Bytes := (digest32 (publicKeys seed)).take 8

/-- A certificate (Table 14-6) of the keys of `seed`, signed with those of `issuer`. -/
def certificate (role : Nat) (issuer seed subject : Bytes) (secver bootCount : Nat) (measure : Bytes) : Bytes :=
  let body := leBytes 4 0x4B524354 ++ leBytes 4 (1 + role * 65536) ++ seedKeyid seed ++ seedKeyid issuer ++ padTo 16 subject ++ leBytes 8 secver ++
    leBytes 4 bootCount ++ zeros 12 ++ padTo 32 measure ++ zeros 32 ++ publicKeys seed
  body ++ signBoth issuer body

/-- CERTS of the evidence: product CA, device identity, alias and ledger. -/
def State.certificates (s : State) : Bytes :=
  certificate 1 (keySeed 0) (keySeed 1) [] 0 0 [] ++ certificate 3 (keySeed 1) s.dikSeed s.dev.serial 0 0 [] ++
    certificate 4 s.dikSeed s.aliasSeed s.dev.serial s.dev.secver 0 s.dev.measure ++
    certificate 5 s.dikSeed s.ledgerSeed s.dev.serial s.dev.secver s.dev.bootCount s.dev.measure

/-- The alias and ledger certificates are issued once per boot; every further use of the DIK is refused until reset (R426). -/
def State.issueCerts (s : State) : State :=
  if s.dev.dikLocked then s else s.onDev fun d => { d with certs := s.certificates, dikLocked := true }

/-- The selected image as the boot knows it: its flash slot's, with the objects that verify there; an object that does not is outstanding, and is
fetched once a neighbour offers it (R411). `i`: the identity alone, where no slot holds it. -/
def State.bootEntries (i : Image) (s : State) : Image := match s.bootImage with
  | some f => { f.2 with entries := f.2.entries.zipIdx.map fun e => { e.1.fresh with verified := s.flashObjectOk f.1 f.2 e } }
  | none => i

/-- BOOT_COMPLETE: firmware runs and the keep store is recovered; the dictionary answers from here on. The state becomes SELFTEST; recovery
firmware, which writes no plane, and a high TEST_EN (17 R501) keep the device in BOOT. -/
def execBootComplete (entropyOk : Bool) (s : State) : Host.Outcome State Fault Refusal :=
  .next (if s.dev.state ≠ .boot ∨ s.dev.resetHeld ∨ s.dev.bootStuck ∨ s.dev.bootPath = 3 ∨ s.dev.recovered then s
    else
      let s1 := (s.onDev fun d => { d with recovered := true }).writesStand.recoverKeep.takeKept.issueCerts
      let s2 := (s1.onCapo fun c =>
        { c with side := (s1.keep.sideRec.map (·.side)).getD 0, selDigest := (s1.keep.sideRec.map (·.digest)).getD []
                 selected := s1.keep.sideRec.map fun r => s1.bootEntries ⟨r.progid, r.imgseq, r.digest, [], 1, 0, 0, 0, []⟩ }).bootRecords entropyOk
      let s3 := s2.capoRest
      if s3.dev.bootPath = 2 then s3.takePegs
      else
        let s4 := (s3.keep.retirements.foldl (fun t u => t.applyRetirement u) s3).takePegs
        if s4.dev.testEn then s4
        else
        let s5 := ((s4.drawSeeds.startPorts ((s4.bootImage.map fun f => f.2.arrange).getD 0)).onDev fun d => { d with state := .selftest }).raiseFloor
        s5.startSelftest)

/-! ### SELFTEST (R409 orders 6 to 8) -/

/-- The boot scan of a plane that is listed. -/
def scanOf (scans : List BootScan) (site side : Nat) : Option BootScan := scans.find? fun x => x.site == site && x.side == side

/-- The bitmap that a plane should hold gives its boot scan sum. -/
def State.scanGood (s : State) (scans : List BootScan) (site side : Nat) : Bool := match scanOf scans site side with
  | some x => x.digest == (if (s.plane (2 * site + side)).shard.isEmpty then dronePlaneDigest else (s.plane (2 * site + side)).shard)
  | none => true

/-- The flash slot of a switch that had been armed or committed and had not started B* (07 R205): it holds the image whose arm was kept, every
object of it verifies, and the free side's planes hold its shards by their boot scan (log 93). -/
def State.heldImage (s : State) (scans : List BootScan) : Option (Nat × Image) :=
  let side := s.freeSide
  s.flash.images.find? fun f => f.2.digest == s.flash.armed && f.2.digest != s.capo.selDigest &&
    f.2.entries.zipIdx.all fun e =>
      match s.flash.objects.find? fun o => o.1 == f.1 * 8192 + e.2 with
      | none => false
      | some o => s.flashObjectOk f.1 f.2 e && (e.1.kind != 1 ||
        match s.siteOf (e.1.unit % 256) e.1.leng with
        | some n => (s.plane (2 * n + side)).shard == shardDigest o.2 && s.scanGood scans n side
        | none => true)

/-- The side of such a switch returns to STAGED, from flash; its planes are sealed as they stand (R205). -/
def State.restage (slot : Nat) (img : Image) (s : State) : State :=
  let side := s.freeSide
  let s1 := (s.clearSide side).onCapo fun c =>
    { c with staged := some img.allVerified, stagedRaw := tget0 [] s.flash.manifests slot, state := .staging, mirror := false, corrupt := [], excluded := [], refresh := false }
  let s2 := (s1.loadObjects slot side img).checkStaged
  if s2.capo.state = .staging then s2.becomeIdle else s2

/-- What a boot scan leaves on a plane: its scan sum (empty for the drone plane pattern) and its margins. It has no ordinal. -/
def Plane.bootScanned (sum : Bytes) (m : Nat) (p : Plane) : Plane :=
  { p with scanSum := sum, lastMargin := m, peakMargin := max p.peakMargin m }

/-- A boot scan that is listed: its plane's sum, margin count and wear, and what they bring (R413; 07 R208, R211, R213). -/
def State.bootScan (x : BootScan) (s : State) : State :=
  let pl := 2 * x.site + x.side
  let p := s.plane pl
  let m := min x.margin 65535
  let s1 := (s.onPlane pl (Plane.bootScanned x.digest m)).appendWear pl p
  let s2 := if s.scanGood [x] x.site x.side then s1 else s1.scanMismatch x.site x.side 0
  s2.scanMargin x.site x.side m 0

/-- The boot plane scan of both planes of every active site (R409 order 6): a plane that is not listed gave the sum that it should give and no
margin. Each scan advances its site's counter (07 R207). -/
def State.bootScans (scans : List BootScan) (s : State) : State :=
  let due := scans.filter fun x => s.siteActive x.site && decide (x.side < 2)
  let s1 := s.activeSites.foldl (fun t n => t.countEngine n 7 2) s
  let quiet := s1.planes.filter fun e => s.siteActive (e.1 / 2) && (scanOf due (e.1 / 2) (e.1 % 2)).isNone
  let s2 := quiet.foldl (fun t e => (t.onPlane e.1 (Plane.bootScanned e.2.shard 0)).appendWear e.1 e.2) s1
  due.foldl (fun t x => t.bootScan x) s2

/-- No flash slot holds a verifiable image of the selected identity (R412). -/
def State.noImageHere (s : State) : State :=
  (s.onDev fun d => { d with noImage := true }).record { kind := 0x45, severity := 2, unit := .pair 0 }

/-- A unit's answer in the SELFTEST drones does not match a firmware digest: for one of the seeds the arithmetic gives other outputs than
the unit, with its deviations (10 R282, R283). -/
def selftestFails (u : UnitId) (faults : List (Nat × Int)) : Bool :=
  let wrong (cols : Nat) (f : Nat → List (List Int)) : Bool := (List.range 16).any fun j => !answerOk cols faults (f (selftestSeed j))
  match u with
  | .site _ => wrong 64 kEngFirmware
  | .core _ => wrong 16 kCoreAnswer
  | .array _ => wrong 64 kArrAnswer
  | _ => false

/-- The selected image is loaded at the end of SELFTEST: its manifest's signatures verify, and every object of it has come from its flash slot,
or in a group from a neighbour (R411, R412). -/
def State.loadSelected (imageOk : Bool) (scans : List BootScan) (s : State) : State :=
  match s.bootImage, imageOk with
  | some f, true =>
    if f.2.entries.zipIdx.all fun e => s.flashObjectOk f.1 f.2 e || (s.entryAt s.capo.side e.2).any fun x => x.2.verified then
      let t := s.loadImage f.1 f.2
      match t.heldImage scans with
      | some h => if t.dev.noImage then t else t.restage h.1 h.2
      | none => t
    else s.noImageHere
  | _, _ => s.noImageHere

/-- The K-ENG runs of one site in SELFTEST, one for each seed, on the drone plane pattern (10 R282, R283; log 82): event n of the site's bows is
that of bow n mod 576 of run n / 576. -/
def State.selftestEng (k : KernelFaults) (site : Nat) (s : State) : State :=
  let evs := (k.bows.filter fun e => e.1 == site).map (·.2)
  let margins := ((k.margins.filter fun e => e.1 == site).map (·.2)).sum
  (List.range 16).foldl (fun t j =>
    let mine := (evs.filter fun e => e.bow / 576 == j).map fun e => { e with bow := e.bow % 576 }
    let x := t.countKEng site 0 (selftestSeed j) (if j = 0 then margins else 0) true mine
    x.1.countSplits (site / 5) x.2) s

/-- The SELFTEST drones: every active site, core and array runs its kernel with each of the sixteen seeds, and counts what it ran. -/
def State.selftestDrones (k : KernelFaults) (s : State) : State :=
  let s1 := s.activeSites.foldl (fun t n => t.selftestEng k n) s
  (List.range 32).foldl (fun t cl =>
    if t.clusterActive cl then (t.countEvent cl 0x29 (8 * 16)).countEvent cl 0x2A 16 else t) s1

/-- SELFTEST_COMPLETE: every SELFTEST pass and the boot plane scan have ended. `imageOk`: the signatures of the slot's manifest verify;
`drones`: what goes wrong in the SELFTEST drones. -/
def execSelftestComplete (imageOk : Bool) (scans : List BootScan) (drones : KernelFaults) (s : State) :
    Host.Outcome State Fault Refusal :=
  .next (if s.dev.state ≠ .selftest ∨ s.dev.selftestRound < 5 ∨ s.noPassRuns = false then s
    else
      let s2 := ((s.loadSelected imageOk scans).bootScans scans).selftestDrones drones
      let s3 := (drones.units.filter fun e => s.unitActive e.1 && selftestFails e.1 e.2).foldl (fun t e =>
        t.chargeRecord { kind := 0x05, severity := 2, unit := e.1 } 0) s2
      let causes := s3.dev.safeCauses ++ (if s3.dev.safeNLow then [1] else []) ++ (if s3.dev.entropyBad then [6] else [])
      if causes.isEmpty then s3.becomeReady
      -- the record 0x1A of a lockstep mismatch was written when it happened
      else causes.foldl (fun t c => if c = 2 then t.intoSafe 2 (.pair (s.dev.pairHalted.headD 0)) none else t.enterSafe c 0x19 (.pair 0))
        (s3.onDev fun d => { d with state := .ready, safeCauses := [] }))

/-! ### Entropy and test access (R432, R433) -/

/-- ENTROPY_FAILURE: a continuous test fails in service. -/
def execEntropyFailure (s : State) : Host.Outcome State Fault Refusal :=
  .next (if s.dev.state = .halted ∨ s.dev.state = .boot ∨ s.dev.stopping then s
    else ((s.onDev fun d => { d with entropyBad := true }).enterSafe 6 0x19 (.pair 0)).record
      { kind := 0x47, severity := 3, unit := .sec, reactions := [9] })

/-- TEST_UNLOCK: a token that is signed with both algorithms, certified by the root and bound to the serial number. -/
def execTestUnlock (serial : Bytes) (edOk mlOk chainOk : Bool) (s : State) : Host.Outcome State Fault Refusal :=
  .next (if ¬ s.dev.resetHeld ∧ serial = s.dev.serial ∧ edOk ∧ mlOk ∧ chainOk ∧ ¬ s.dev.debug then
    -- in ROM recovery the keep store is not recovered, and no record is written (R421)
    let s1 := s.onDev fun d => { d with debug := true }
    if s.dev.bootPath = 3 then s1 else s1.record { kind := 0x4D, severity := 3, unit := .sec }
  else s)

/-! ### Firmware update in service (R431) -/

/-- The slot that a delivery goes to: the one not named by ACTIVE. -/
def Flash.spare (f : Flash) : Nat := 1 - f.active

/-- A slot as a delivery has written it so far. -/
def segSlot (old : Bytes) (offset : Nat) (data : Bytes) (slot : FwSlot) : FwSlot := { slot with bytes := old.take offset ++ data }

/-- FIRMWARE_DELIVERY (9030.01): each segment is written to flash as it is accepted; LAST has the slot checked. -/
def firmwareDelivery (offset : Nat) (data : Bytes) (last : Bool) (slot : FwSlot) (s : State) : Reply :=
  let n := s.flash.spare
  let old := if offset = 0 then [] else (s.flash.areas.getD n noSlot).bytes
  let put (x : FwSlot) (f : Flash) : Flash := { f with slots := f.areas.set n x }
  if offset + data.length > 4194304 then .deny stLength s
  else if last then
    let x := segSlot old offset data slot
    let ok := FwSlot.accepted s.flash.arbValue false x
    .ok ((s.onFlash fun f => { (put x f) with delivered := some ok, deliveryAt := 0 }).record
      { kind := if ok then 0x48 else 0x49, severity := if ok then 0 else 1, unit := .pair 0 })
  else
    .ok (s.onFlash fun f =>
      { (put (segSlot old offset data noSlot) f) with delivered := none, deliveryAt := offset + data.length })

/-- Write the directory copy that activates the new slot as a trial. -/
def State.activateFirmware (s : State) : State :=
  if s.flash.activateNext then s
  else (s.onFlash fun f => { (f.writeDirectory f.spare true 0) with activateNext := true }).lifeCount 4

/-- FIRMWARE_ACTIVATE. -/
def firmwareActivate (s : State) : Reply :=
  if s.flash.delivered = some true then .ok s.activateFirmware else .refused 0xB 0 s

/-- FIRMWARE_DRAIN_RESET: activate, drain, then reset at DRAIN_COMPLETE. -/
def firmwareDrainReset (s : State) : Reply :=
  if s.flash.delivered = some true then .ok (s.activateFirmware.beginDrain true) else .refused 0xB 0 s

/-- FIRMWARE_CANCEL: the previous firmware stays in force. -/
def firmwareCancel (s : State) : Reply :=
  if s.flash.delivered = some true then
    .ok (s.onFlash fun f =>
      { (if f.activateNext then f.writeDirectory f.spare false 0 else f) with delivered := none, activateNext := false })
  else .refused 0xB 0 s

/-- A write of 9030.02. -/
def firmwareCommand (code : Nat) (s : State) : Reply :=
  match code with
  | 1 => firmwareActivate s
  | 2 => firmwareDrainReset s
  | 3 => firmwareCancel s
  | _ => .deny stRange s

/-! ### Keys (R399, R429, R430) -/

/-- Sessions of a client key slot end, with their transfers (R399, R401). -/
def State.endSessions (p : Session → Bool) (s : State) : State :=
  let gone := (s.dict.sessions.filter p).map (·.sid)
  s.onDict fun d =>
    { d with sessions := d.sessions.filter fun x => !p x, transfers := d.transfers.filter fun t => !gone.contains t.sid }

/-- A record of 2,048 bytes whose last bytes are zero and whose byte 1,984 is at most `top`. -/
def keyRecordOk (top : Nat) (d : Bytes) : Bool := num d 1984 1 ≤ top && (d.drop 1985).all (· == 0#8)

/-- A client key slot takes a new record: its sessions end at once. -/
def State.putClientKey (slot : Nat) (d : Bytes) (answer : Option Nat) (s : State) : State :=
  ((s.onFlash fun f => { f with clientKeys := tput0 [] slot d f.clientKeys }).appendKept 0x9010 (1 + slot) d answer).endSessions fun x =>
    x.slot == slot

/-- CLIENT_KEY_SLOT_WRITE: `own` is the slot of the writing session. -/
def clientKeySlotWrite (own slot : Nat) (d : Bytes) (s : State) : Reply :=
  if slot = 0 then .refused 9 0 s
  else if slot > 7 then .deny stRange s
  else if d.length ≠ 2048 then .deny stLength s
  else if ¬ keyRecordOk 2 d then .deny stRange s
  else if slot = own ∧ num d 1984 1 = 0 then .refused 9 0 s
  else { s := s.putClientKey slot d (some s.dict.answerNo), wait := true }

/-- A slot's 2,048 bytes, zeros when it is empty. -/
def keySlot (t : Tbl Bytes) (slot : Nat) : Bytes := padTo 2048 (tget0 [] t slot)

/-- Images staged under a key that no active slot holds return to IDLE (R430), a mirror of the selected image too; an armed switch is
withdrawn first (log 40). -/
def State.revokeStaged (s : State) : State :=
  match s.capo.staged with
  | some i =>
    if (s.imageKey? i.keyid).isSome then s
    else match s.capo.state with
      | .staging | .staged => (s.unseal s.freeSide).becomeIdle
      | .armed => (((s.capoWithdrawn 2 .staged).disarmGroup 0).unseal s.freeSide).becomeIdle
      | _ => s
  | none => s

/-- An image key slot takes a new record; record 0x46. -/
def State.putImageKey (slot : Nat) (d : Bytes) (answer : Option Nat) (s : State) : State :=
  (((s.onFlash fun f => { f with imageKeys := tput0 [] slot d f.imageKeys }).appendKept 0x9040 (1 + slot) d answer).record
    { kind := 0x46, severity := 0, unit := .sec }).revokeStaged

/-- IMAGE_KEY_WRITE: slot 0 is written at provisioning only. -/
def imageKeyWrite (slot : Nat) (d : Bytes) (s : State) : Reply :=
  if slot = 0 then .refused 9 0 s
  else if slot > 7 then .deny stRange s
  else if d.length ≠ 2048 then .deny stLength s
  else if ¬ keyRecordOk 1 d then .deny stRange s
  else { s := s.putImageKey slot d (some s.dict.answerNo), wait := true }

/-- The slots whose bytes differ between a whole value and a table. -/
def changedSlots (t : Tbl Bytes) (d : Bytes) : List Nat := (List.range 8).filter fun k => slice d (2048 * k) 2048 != keySlot t k

/-- A write of 9010.01 as a whole: slot 0 and the session's own slot are guarded, the changed slots are written. -/
def writeClientKeys (own : Nat) (d : Bytes) (s : State) : Reply :=
  if d.length ≠ 16384 then .deny stLength s
  else
    let l := changedSlots s.flash.clientKeys d
    let rec_ (k : Nat) : Bytes := slice d (2048 * k) 2048
    if l.contains 0 then .refused 9 0 s
    else if l.any fun k => !keyRecordOk 2 (rec_ k) then .deny stRange s
    else if l.any fun k => k == own && num (rec_ k) 1984 1 == 0 then .refused 9 0 s
    else match l.reverse with
      | [] => .ok s
      | k :: t =>
        { s := (t.reverse.foldl (fun u j => u.putClientKey j (rec_ j) none) s).putClientKey k (rec_ k) (some s.dict.answerNo), wait := true }

/-- A write of 9040.01 as a whole. -/
def writeImageKeys (d : Bytes) (s : State) : Reply :=
  if d.length ≠ 16384 then .deny stLength s
  else
    let l := changedSlots s.flash.imageKeys d
    let rec_ (k : Nat) : Bytes := slice d (2048 * k) 2048
    if l.contains 0 then .refused 9 0 s
    else if l.any fun k => !keyRecordOk 1 (rec_ k) then .deny stRange s
    else match l.reverse with
      | [] => .ok s
      | k :: t =>
        { s := (t.reverse.foldl (fun u j => u.putImageKey j (rec_ j) none) s).putImageKey k (rec_ k) (some s.dict.answerNo), wait := true }

/-- PROVISIONING (9060.01): client key slot 0 with role ADMIN and image key slot 0; the provisioning fuse is blown. -/
def provision (d : Bytes) (s : State) : Reply :=
  if s.flash.provisioned then .deny stAccess s
  else if s.dev.state ≠ .ready then .refused 1 s.dev.state.code s
  else if d.length ≠ 4096 then .deny stLength s
  else if ¬ (keyRecordOk 2 (d.take 2048) ∧ num d 1984 1 = 2 ∧ keyRecordOk 1 (d.drop 2048)) then .deny stRange s
  else
    let s1 := (s.putClientKey 0 (d.take 2048) none).putImageKey 0 (d.drop 2048) (some s.dict.answerNo)
    { s := s1.onFlash fun f => { f with provisioned := true }, wait := true }

/-! ### Attestation evidence (R428) -/

/-- The evidence of the boot, with its nonces. -/
def State.evidenceBytes (s : State) (nonce1 nonce2 : Bytes) : Bytes :=
  let keys := digest32 (((List.range 8).flatMap (keySlot s.flash.imageKeys)) ++ (List.range 8).flatMap (keySlot s.flash.clientKeys))
  let sel := s.capo.selected
  let body := leBytes 4 0x4B524556 ++ leBytes 4 (1 + s.dev.bootPath % 4 * 2 ^ 16 + Bool.toNat s.dev.debug * 2 ^ 18) ++ leBytes 4 s.dev.bootCount ++
    leBytes 4 ((if s.dev.gradeB then 2 else 1) + s.dev.stepping * 256) ++ padTo 16 s.dev.serial ++ leBytes 8 s.dev.secver ++
    leBytes 8 s.flash.arbValue ++ padTo 32 s.dev.measure ++ padTo 32 nonce1 ++ padTo 32 nonce2 ++ padTo 32 s.capo.selDigest ++
    leBytes 4 ((sel.map (·.progid)).getD 0) ++ leBytes 4 ((sel.map (·.imgseq)).getD 0) ++ keys ++ zeros 40 ++ padTo 21940 s.dev.certs
  body ++ signBoth s.aliasSeed body

/-! ### The end of a drain stop (16 R479) -/

/-- Every batch that was opened has run to its end: walked, judged, published, and its scene updates applied. -/
def State.drainedOut (s : State) : Bool :=
  s.walk.tiles.isEmpty && s.activeCores.all (fun c => (s.core c).cur.isNone && (s.core c).ordinals.isEmpty) &&
    s.noPassRuns &&
    s.walk.batches.all (fun x => ((s.walkers x.ordinal).all fun c => x.ended.contains c) && x.applied) &&
    s.walk.runs.all fun r => (r.status.isSome && r.final) || !s.publishes r.run

/-- Serve the waiting appends, `n` at most. -/
def serveAll : Nat → State → State
  | 0, s => s
  | n + 1, s => match s.keep.nextAppend with
    | some a => serveAll n (s.serveAppend a)
    | none => s

/-- The device stands at the consistent cut: READY, or DEGRADED still; a partial ledger is due, a snapshot is taken. -/
def State.atCut (s : State) : State :=
  let s1 := s.activeCores.foldl (fun t c => t.onCore c fun x =>
    if x.seq = .idle ∨ x.seq = .draining then { x with seq := .stopped } else x) s
  let s2 := (s1.onPub fun p => { p with partialDue := true }).missWatch.snapshot
  let s3 := s2.onDev fun d =>
    { d with state := if d.state = .serving then .ready else d.state, draining := false, drained := true, lastOutcome := 1, drainReset := false }
  if s.dev.state = .serving then s3.lifeCount 5 else s3

/-- DRAIN_COMPLETE: the drain stop ends. One that firmware command 0x02 ordered closes its ledger, completes its appends and
resets. -/
def execDrainComplete (s : State) : Host.Outcome State Fault Refusal :=
  .next (if ¬ s.dev.draining ∨ s.frozen = true ∨ s.drainedOut = false then s
    else if s.dev.drainReset then
      let t := s.atCut
      -- the records of accepted passes leave with the appends (09 R260)
      let t := t.closeSet
      let u := match execLedgerPublish t with
        | .next x => x
        | _ => t
      (serveAll u.keep.pending.length u).cold
    else s.atCut)

end Sys2Proof.Machine
end

