-- ==== Sys2Proof/Machine/Members.lean ====
section
/-!
DEFINITION. Members that leave a group: deaths that come from outside, the drop of a member and what follows it, and members that
can no longer be reached (12_exham_group.md R366, R374, R379, R380, R382).
-/

namespace Sys2Proof.Machine

/-- A run dies here because another member says so, or because a member is gone: the news is not sent on. A HELD result that is not
final is retracted (10_fault_containment.md R291). -/
def State.killHere (b r cause : Nat) (s : State) : State :=
  match s.run? b r with
  | none => s
  | some x =>
    if x.status = some .held ∧ ¬ x.final ∧ s.publishes r then s.retract b r
    else if x.status.isSome ∧ x.final then s
    else ((s.onRun b r fun y => { y with cause := lowestCause y.cause cause }).closeBanks b r).voidStats b r

/-- Every member has answered for the change of a kind: the answer that waited for them is sent (R376). A leader without a programme commits
the switch then, as its members did when they accepted it (14 R412). -/
def State.settleArm (kind : Nat) (s : State) : State :=
  if s.allAccepted kind then
    let t := s.disarmGroup kind
    if kind = 0 ∧ t.noProgramme = true ∧ t.capo.state = .armed then t.commitAtArm else t
  else s

/-- A batch of which this device, as a publisher, still misses the member's COMPLETE. -/
def State.awaits (s : State) (m : Nat) (r : RunRec) : Bool :=
  s.publishes r.run && r.status.isNone && (s.partners r.run).contains m && !r.completes.contains m

/-- The earliest batch that a member has not completed, as the leader knows it. -/
def State.firstIncomplete (s : State) (m : Nat) : Nat :=
  let b := s.dev.bOpen.getD 0
  let now := if s.group.readyFor.any fun r => r.member == m && r.aftercare && r.set == (b + 1) % 2 ^ 32 then b + 1 else b
  ((s.walk.runs.filter (s.awaits m)).map (·.ordinal)).foldl min now

/-- A member leaves the group from a batch on (R379): every run that depends on it dies in that batch and in every later one that is
open; later batches find it gone at their opening. `st`: its state in A010.06. -/
def State.loseMember (m b st : Nat) (s : State) : State :=
  if s.group.members.contains m ∧ m ≠ s.group.devno then
    let s1 := s.onGroup fun g =>
      { g with members := g.members.filter (· != m), memberStates := tput0 0 m st g.memberStates
               readyFor := g.readyFor.filter fun r => r.member != m, fences := g.fences.filter (· != m)
               joinPending := g.joinPending.filter fun j => j.1 != m }
    let dead := s1.walk.runs.filter fun r => (s1.group.depends.contains (r.run, m)) && (decide (b ≤ r.ordinal) || s.awaits m r)
    let s2 := dead.foldl (fun t r => t.killHere r.ordinal r.run 7) s1
    (s2.group.armed.foldl (fun t a => t.settleArm a.kind) s2).electLeader
  else s

/-- The leader drops a member: record 0x38, and DROP to every member. -/
def State.dropMember (m b st cause : Nat) (s : State) : State :=
  if s.group.members.contains m ∧ m ≠ s.group.devno then
    ((s.groupMsg 0x2B 255 [m, b, cause] []).loseMember m b st).memberRecord 0x38 2 m [2]
  else s

/-- This device leads, or leads as soon as the members in `gone` are gone. -/
def State.leadsWithout (s : State) (gone : List Nat) : Bool :=
  s.group.leader == s.group.devno ||
    (gone.contains s.group.leader && (s.group.members.filter fun m => !gone.contains m).all fun m => decide (s.group.devno ≤ m))

/-- Members that no route reaches are dropped by the leader of the part that is left (R366, R379, R380). -/
def State.dropUnreachable (s : State) : State :=
  let gone := s.group.members.filter fun m => m != s.group.devno && (s.routePort m).isNone
  if s.leadsWithout gone then gone.foldl (fun t m => t.dropMember m (t.firstIncomplete m) 2 0) s else s

end Sys2Proof.Machine
end

