-- ==== Sys2Proof/Machine/Exham.lean ====
section
/-!
DEFINITION. The Exham ports: training, bring-up and keys, received flits, replay, starvation, and what a port's fall brings
(12_exham_group.md R354 to R366, Table 12-2).
-/

namespace Sys2Proof.Machine

/-! ### Neighbours and HELLO (R361, R364) -/

/-- The device that a port is cabled to. -/
def State.neighbour (s : State) (port : Nat) : Nat :=
  let a := s.group.arrange
  let x := max 1 (arrX a)
  let y := max 1 (arrY a)
  let cx := s.group.devno % x
  let cy := s.group.devno / x
  match port with
  | 0 | 4 => (cx + 1) % x + x * cy
  | 1 | 5 => (cx + x - 1) % x + x * cy
  | 2 => cx + x * ((cy + 1) % y)
  | _ => cx + x * ((cy + y - 1) % y)

/-- The port at the other end of the cable. -/
def partnerOf (port : Nat) : Nat := if port % 2 = 0 then port + 1 else port - 1

/-- The fields of this device's HELLO on a port. -/
def State.helloFields (s : State) (port : Nat) : List Nat :=
  [s.group.devno, port, s.group.arrange, (s.capo.selected.map (·.progid)).getD 0, (s.capo.selected.map (·.imgseq)).getD 0]

/-- Counters and records of a port (Table 12-6, Table 12-7). -/
def State.portRecord (port kind severity : Nat) (s : State) : State :=
  s.record { kind := kind, severity := severity, unit := .exham port }

/-- PORT_TRAINING_COMPLETE: ATTEST begins with this device's HELLO; `nonce` comes from the entropy source. -/
def execPortTrainingComplete (port : Nat) (nonce : Bytes) (s : State) : Host.Outcome State Fault Refusal :=
  if port < 6 then
    -- the nonce of HELLO draws on a source that has passed (14 R433)
    .next (if (s.port port).state ≠ .training ∨ s.dev.entropyBad then s
      else
        let dst := s.neighbour port
        (s.onPort port fun p =>
          { p with state := .attest, helloTx := msgBytes s.group.devno dst 1 (s.helloFields port) nonce, helloRx := [], evidenceOk := false
                   partner := none }).sendBringup port 1 dst (s.helloFields port) nonce)
  else .fault .noSuchUnit

/-- TRAINING_TIMEOUT: 200 ms without success. -/
def execTrainingTimeout (port : Nat) (s : State) : Host.Outcome State Fault Refusal :=
  if port < 6 then
    .next (if (s.port port).state ≠ .training then s
      else (s.onPort port fun p => { p with state := .absent }).portRecord port 0x30 1)
  else .fault .noSuchUnit

/-- ABSENT_RETRY: the retry interval has passed; a port that is ABSENT or DOWN trains again. -/
def execAbsentRetry (port : Nat) (s : State) : Host.Outcome State Fault Refusal :=
  if port < 6 then
    .next (if ¬ s.serdesOff ∧ ((s.port port).state = .absent ∨ (s.port port).state = .down) then s.onPort port fun p => { p with state := .training } else s)
  else .fault .noSuchUnit

/-! ### The fall of a port (R358, R366) -/

/-- A port leaves UP or bring-up; what it holds unacknowledged, and what waits on it, goes to the new routes as new flits. -/
def State.closePort (port : Nat) (st : PortState) (s : State) : State :=
  let p := s.port port
  let wasUp := p.state == .up
  let held := p.unacked.filter (fun h => h.kind != 0) ++ p.queue
  let s1 := s.onPort port fun x => { quarantines := x.quarantines, state := st }
  if wasUp then
    (held.foldl (fun t h => t.queueFlits h.dst [{ h with seq := 0, wire := [] }]) s1).portRecord port 0x3D 0
  else s1

/-- A port goes DOWN with a record; members that can no longer be reached are dropped (R379). -/
def State.portDown (port kind : Nat) (s : State) : State :=
  (((s.closePort port .down).portRecord port kind 1).countLink port 7 1).dropUnreachable

/-- A port enters QUARANTINED: its transmitters are off. -/
def State.quarantine (port kind : Nat) (s : State) : State :=
  (((s.closePort port .quarantined).onPort port fun p => { p with quarantines := min (p.quarantines + 1) 3 }).portRecord port kind 2).dropUnreachable

/-- LOCK_LOSS: a lane of an UP port has lost block lock for 64 blocks. -/
def execLockLoss (port : Nat) (s : State) : Host.Outcome State Fault Refusal :=
  if port < 6 then .next (if (s.port port).state = .up then s.portDown port 0x32 else s) else .fault .noSuchUnit

/-- BRINGUP_TIMEOUT: ATTEST or KEYX has not completed within 100 ms. -/
def execBringupTimeout (port : Nat) (s : State) : Host.Outcome State Fault Refusal :=
  if port < 6 then
    .next (if (s.port port).state = .attest ∨ (s.port port).state = .keyx then s.portDown port 0x32 else s)
  else .fault .noSuchUnit

/-- QUARANTINE_RELEASE (A000.04): a port with fewer than three quarantines in this boot is released. -/
def quarantineRelease (port : Nat) (s : State) : Reply :=
  if port > 5 then .deny stRange s
  else if (s.port port).state = .quarantined ∧ (s.port port).quarantines < 3 then
    .ok (s.onPort port fun p => { p with state := .down })
  else .refused 0xB (s.port port).quarantines s

/-! ### Bring-up (R361, R362) -/

/-- This device is the initiator on a port: it has the lower device number. -/
def State.initiates (s : State) (port : Nat) : Bool := match (s.port port).partner with
  | some d => decide (s.group.devno < d.1)
  | none => false

/-- The nonce of a HELLO's bytes. -/
def helloNonce (b : Bytes) : Bytes := slice b 22 32

/-- HELLO: the partner's number and port must keep the cabling rule; then the evidence goes out, bound to both nonces. -/
def execHello (port dev partnerPort arrange progid imgseq : Nat) (nonce : Bytes) (s : State) : Host.Outcome State Fault Refusal :=
  if port < 6 then
    .next (if (s.port port).state ≠ .attest ∨ (s.port port).helloRx ≠ [] then s
      else if dev = s.group.devno ∨ dev ≠ s.neighbour port ∨ partnerPort ≠ partnerOf port then s.quarantine port 0x34
      else
        let rx := msgBytes dev s.group.devno 1 [dev, partnerPort, arrange, progid, imgseq] nonce
        let s1 := s.onPort port fun p => { p with partner := some (dev, partnerPort), helloRx := rx }
        let mine := helloNonce (s1.port port).helloTx
        let n := if s1.initiates port then (mine, padTo 32 nonce) else (padTo 32 nonce, mine)
        s1.sendBringup port 2 dev [] (s1.evidenceBytes n.1 n.2))
  else .fault .noSuchUnit

/-- The two HELLOs of a port, the initiator's first (log 43). -/
def State.hellos (s : State) (port : Nat) : Bytes :=
  let p := s.port port
  if s.initiates port then p.helloTx ++ p.helloRx else p.helloRx ++ p.helloTx

/-- T of R362 over a message's content. -/
def State.transcript (s : State) (port : Nat) (content : Bytes) : Bytes := digest32 (s.hellos port ++ content)

/-- Send a key share or a rekey: its content with both signatures over T. -/
def State.sendShare (port type : Nat) (content : Bytes) (s : State) : State :=
  let dst := ((s.port port).partner.map (·.1)).getD (s.neighbour port)
  let body := content ++ signBoth s.aliasSeed (s.transcript port content)
  if type < 5 then s.sendBringup port type dst [] body
  -- a rekey goes over the link that it is for (R363)
  else (s.send (.message type dst [] body)).queueOn port (msgFlits s.group.devno dst dst type [] body [] [])

/-- Ephemeral private keys from a seed: X25519 and ML-KEM. -/
def ephX (seed : Bytes) : Bytes := seed.take 32
def ephM (seed : Bytes) : Bytes := seed.drop 32

/-- The content of the initiator's message. -/
def shareI (seed : Bytes) : Bytes := padTo 32 (Config.x25519Public (ephX seed)) ++ padTo 1184 (Config.mlkemKey (ephM seed))

/-- The content of the responder's message. -/
def shareR (seed ek : Bytes) : Bytes := padTo 32 (Config.x25519Public (ephX seed)) ++ padTo 1088 (Config.mlkemCiphertext ek (ephM seed))

/-- "EXHAM-K1". -/
def labelExham : Bytes := [69#8, 88#8, 72#8, 65#8, 77#8, 45#8, 75#8, 49#8]

/-- The 72 bytes of R362: (initiator's key and salt, responder's key and salt). T is that of the responder's message (log 43). -/
def exhamKeys (x m t : Bytes) : Bytes × Bytes :=
  let k := shake256 72 (labelExham ++ x ++ m ++ t)
  (slice k 0 32 ++ slice k 64 4, slice k 32 32 ++ slice k 68 4)

/-- EVIDENCE: accepted evidence takes the port to KEYX, where the initiator sends its key share. -/
def execEvidence (port : Nat) (edOk mlOk chainOk : Bool) (secver : Nat) (debug : Bool) (seed : Bytes) (s : State) :
    Host.Outcome State Fault Refusal :=
  if port < 6 then
    .next (if (s.port port).state ≠ .attest ∨ (s.port port).helloRx = [] then s
      else if ¬ (edOk ∧ mlOk ∧ chainOk ∧ s.flash.arbValue ≤ secver ∧ debug = false) then s.quarantine port 0x34
      else
        let s1 := s.onPort port fun p => { p with state := .keyx, evidenceOk := true, seed := seed }
        if s1.initiates port then s1.sendShare port 3 (shareI seed) else s1)
  else .fault .noSuchUnit

/-- A port enters UP: sequence numbers 0, all credits granted (R354, R357). -/
def State.portUpNow (port : Nat) (tx rx : Bytes) (s : State) : State :=
  (s.onPort port fun p =>
    { p with state := .up, txSeq := 0, rxSeq := 0, unacked := [], queue := [], nak := false, replays := 0, credits := [64, 64, 64, 64]
             owed := [0, 0, 0, 0], keyTx := tx, keyRx := rx, nextTx := [], nextRx := [], rekeying := false, starving := []
             fwd := [24, 24, 24, 24], fwdLeft := [0, 0, 0, 0], fwdHeld := [], seed := [] }).portRecord port 0x31 0

/-- KEYSHARE-I at the responder: a good share is answered, and the port is UP. -/
def execKeyshareI (port : Nat) (x25519 ek : Bytes) (edOk mlOk : Bool) (seed : Bytes) (s : State) : Host.Outcome State Fault Refusal :=
  if port < 6 then
    .next (if (s.port port).state ≠ .keyx ∨ s.initiates port = true then s
      else if ¬ (edOk ∧ mlOk) then s.quarantine port 0x34
      else
        let content := shareR seed ek
        let k := exhamKeys (Config.x25519Shared (ephX seed) x25519) (Config.mlkemShared ek (ephM seed)) (s.transcript port content)
        (s.sendShare port 4 content).portUpNow port k.2 k.1)
  else .fault .noSuchUnit

/-- KEYSHARE-R at the initiator: a good share completes the keys, and the port is UP. -/
def execKeyshareR (port : Nat) (x25519 ct : Bytes) (edOk mlOk kemOk : Bool) (s : State) : Host.Outcome State Fault Refusal :=
  if port < 6 then
    let p := s.port port
    .next (if p.state ≠ .keyx ∨ s.initiates port = false then s
      else if ¬ (edOk ∧ mlOk ∧ kemOk) then s.quarantine port 0x34
      else
        let t := s.transcript port (x25519 ++ ct)
        let k := exhamKeys (Config.x25519Shared (ephX p.seed) x25519) (Config.mlkemOpen (ephM p.seed) ct) t
        s.portUpNow port k.1 k.2)
  else .fault .noSuchUnit

/-! ### Rekey (R363) -/

/-- The sequence number is within 2^26 of the next key boundary. -/
def nearBoundary (seq : Nat) : Bool := decide (2 ^ 32 - 2 ^ 26 ≤ seq % 2 ^ 32)

/-- REKEY_START: this side's sending direction nears its boundary. -/
def execRekeyStart (port : Nat) (seed : Bytes) (s : State) : Host.Outcome State Fault Refusal :=
  if port < 6 then
    let p := s.port port
    .next (if p.state = .up ∧ nearBoundary p.txSeq = true ∧ ¬ p.rekeying ∧ p.nextTx = [] then
      (s.onPort port fun x => { x with rekeying := true, seed := seed }).sendShare port 5 (shareI seed)
    else s)
  else .fault .noSuchUnit

/-- REKEY-I: the partner rekeys; this side answers, and both directions have their next keys. A bad signature is discarded, and the
rekey then fails at its boundary. -/
def execRekeyI (port : Nat) (x25519 ek : Bytes) (edOk mlOk : Bool) (seed : Bytes) (s : State) : Host.Outcome State Fault Refusal :=
  if port < 6 then
    .next (if (s.port port).state = .up ∧ edOk ∧ mlOk then
      let content := shareR seed ek
      let k := exhamKeys (Config.x25519Shared (ephX seed) x25519) (Config.mlkemShared ek (ephM seed)) (s.transcript port content)
      let s1 := (s.sendShare port 6 content).onPort port fun x => { x with nextTx := k.2, nextRx := k.1 }
      s1.pumpFlits port
    else s)
  else .fault .noSuchUnit

/-- REKEY-R: the answer to this side's rekey. -/
def execRekeyR (port : Nat) (x25519 ct : Bytes) (edOk mlOk kemOk : Bool) (s : State) : Host.Outcome State Fault Refusal :=
  if port < 6 then
    let p := s.port port
    .next (if p.state = .up ∧ p.rekeying ∧ edOk ∧ mlOk ∧ kemOk then
      let t := s.transcript port (x25519 ++ ct)
      let k := exhamKeys (Config.x25519Shared (ephX p.seed) x25519) (Config.mlkemOpen (ephM p.seed) ct) t
      (s.onPort port fun x => { x with nextTx := k.1, nextRx := k.2, seed := [] }).pumpFlits port
    else s)
  else .fault .noSuchUnit

/-- REKEY_TIMEOUT: the new keys are not ready at the boundary plus 10 ms. -/
def execRekeyTimeout (port : Nat) (s : State) : Host.Outcome State Fault Refusal :=
  if port < 6 then
    let p := s.port port
    .next (if p.state = .up ∧ p.nextTx = [] ∧ atBoundary p.txSeq = true then s.portDown port 0x3C else s)
  else .fault .noSuchUnit

/-! ### Received flits (R356, R357) -/

/-- How many held flits an ACKSEQ acknowledges: those up to the sequence number with these low 10 bits. -/
def ackCount (l : List Held) (ack : Nat) : Nat :=
  match l.findIdx? fun h => h.seq % 1024 == ack % 1024 with
  | some i => i + 1
  | none => 0

/-- Resend every held flit from the oldest on (R358): a ninth replay of the oldest takes the port DOWN. -/
def State.replayAll (port : Nat) (s : State) : State :=
  let p := s.port port
  if p.unacked.isEmpty then s
  else if p.replays ≥ 8 then s.portDown port 0x32
  else
    let s1 := (s.onPort port fun x => { x with replays := x.replays + 1 }).countLink port 4 1
    p.unacked.foldl (fun t h => (t.send (.flit port h.wire)).countLink port 1 1) s1

/-- Flits of a message after its first, from the first flit's payload: MESSAGE flits for LEN bytes, then DATA flits for the lines of a
WRITE or the bytes of an OBJECT. -/
def flitsAfter (b : Bytes) : Nat :=
  let type := num b 0 2
  let data := if type = 0x10 then (num b 27 4 - num b 31 4 + 3) / 4 else if type = 0x32 then (num b 40 4 + 255) / 256 else 0
  (8 + num b 2 2 + 255) / 256 - 1 + data

/-- Forward a flit that is not for this device (R365): a message's first flit names its destination, the others follow it. The flits of a
message go on together, so that they stay consecutive (R371). -/
def State.forward (port : Nat) (f : Flit) (s : State) : State :=
  let p := s.port port
  let first := p.fwdLeft.getD f.cls 0 == 0
  let dst := if first then num f.payload 5 1 else p.fwd.getD f.cls 24
  let left := if first then flitsAfter f.payload else p.fwdLeft.getD f.cls 0 - 1
  let all := (p.fwdHeld.filter fun h => h.cls == f.cls) ++ [⟨0, f.kind, f.cls, f.poison, dst, f.payload, []⟩]
  let rest := p.fwdHeld.filter fun h => h.cls != f.cls
  let s1 := (s.onPort port fun x =>
    { x with fwd := x.fwd.set f.cls dst, fwdLeft := x.fwdLeft.set f.cls left, fwdHeld := rest ++ (if left = 0 then [] else all) }).countLink port 8 1
  if left ≠ 0 then s1
  else match s1.routeOn port dst with
    | some q => s1.queueOn q all
    | none => s1

/-- The message types of Table 12-4 that travel in MESSAGE flits; the others are reserved there. -/
def messageTypes : List Nat :=
  [0x05, 0x06, 0x10, 0x11, 0x12, 0x20, 0x21, 0x22, 0x23, 0x24, 0x25, 0x26, 0x27, 0x28, 0x29, 0x2A, 0x2B, 0x2C, 0x30, 0x31, 0x32]

/-- A flit for this device: DATA that no message announced and a message of a reserved type are violations (R375). -/
def State.takeFlit (port : Nat) (f : Flit) (s : State) : State :=
  let left := (s.port port).fwdLeft.getD f.cls 0
  if left = 0 ∧ (f.kind = 1 ∨ ¬ messageTypes.contains (num f.payload 0 2)) then s.quarantine port 0x36
  else s.onPort port fun x => { x with fwdLeft := x.fwdLeft.set f.cls (if left = 0 then flitsAfter f.payload else left - 1) }

/-- The accepted flit's ACKSEQ, NAK and credits act; then it leaves for the hub, or goes on to its destination (R357, R365). -/
def State.acceptFlit (port : Nat) (f : Flit) (s : State) : State :=
  let p := s.port port
  let n := ackCount p.unacked f.ackseq
  let c := p.credits.getD f.crclass 0 + f.credits
  if c > 64 ∨ f.kind = 3 ∨ f.kind > 3 then s.quarantine port 0x36
  else
    let buffered := f.kind == 1 || f.kind == 2
    let s1 := (s.onPort port fun x =>
      { x with
        rxSeq := x.rxSeq + 1, unacked := x.unacked.drop n, replays := if n > 0 then 0 else x.replays
        credits := x.credits.set f.crclass c, starving := if f.credits = 0 then x.starving else x.starving.filter (· != f.crclass), keyRx := if atBoundary x.rxSeq then x.nextRx else x.keyRx
        nextRx := if atBoundary x.rxSeq then [] else x.nextRx
        owed := if buffered then x.owed.set f.cls (x.owed.getD f.cls 0 + 1) else x.owed }).countLink port 2 1
    let s2 := if f.nak then s1.replayAll port else s1
    let s3 := if !buffered then s2 else if f.here then s2.takeFlit port f else s2.forward port f
    s3.pumpFlits port

/-- FLIT_RECEIVED: CRC32, then SEQLO, then TAG; only an accepted flit acts. -/
def execFlitReceived (port : Nat) (f : Flit) (s : State) : Host.Outcome State Fault Refusal :=
  if port < 6 then
    let p := s.port port
    .next (if p.state ≠ .up then s
      else if ¬ f.crcOk ∨ f.seqlo % 64 ≠ p.rxSeq % 64 then (s.onPort port fun x => { x with nak := true }).countLink port 3 1
      else if ¬ f.tagOk then (s.countLink port 6 1).quarantine port 0x35
      else s.acceptFlit port f)
  else .fault .noSuchUnit

/-- IDLE_FLIT: the port has had nothing else to send for 1 µs. -/
def execIdleFlit (port : Nat) (s : State) : Host.Outcome State Fault Refusal :=
  if port < 6 then
    .next (if (s.port port).maySend ∧ ((s.port port).nextFlit).isNone then s.emitFlit port 0 0 0 (s.neighbour port) [] else s)
  else .fault .noSuchUnit

/-- REPLAY_TIMEOUT: the oldest held flit has seen no progress for 4 µs. -/
def execReplayTimeout (port : Nat) (s : State) : Host.Outcome State Fault Refusal :=
  if port < 6 then .next (if (s.port port).state = .up then s.replayAll port else s) else .fault .noSuchUnit

/-! ### Starvation (R359) -/

/-- A sender starves for a class: flits of it wait and no credit of it is held. -/
def Port.starves (p : Port) (cls : Nat) : Bool :=
  p.state == .up && (p.queue.any fun h => h.cls == cls) && p.credits.getD cls 0 == 0

/-- STARVATION_EVENT: a starvation has lasted 100 µs; each counts once. -/
def execStarvationEvent (port cls : Nat) (s : State) : Host.Outcome State Fault Refusal :=
  if port < 6 then
    .next (if (s.port port).starves cls ∧ ¬ (s.port port).starving.contains cls then
      (s.onPort port fun p => { p with starving := insertNew cls p.starving }).countLink port 5 1
    else s)
  else .fault .noSuchUnit

/-- STARVE_LIMIT: a starvation has lasted longer than A000.06. -/
def execStarveLimit (port cls : Nat) (s : State) : Host.Outcome State Fault Refusal :=
  if port < 6 then .next (if (s.port port).starves cls then s.portDown port 0x33 else s) else .fault .noSuchUnit

end Sys2Proof.Machine
end

