-- ==== Sys2Proof/Machine/Group.lean ====
section
/-!
DEFINITION. The group: remote writes, reads and tokens in the order of their sequence numbers, READY and OPEN, completion, deaths and
STALE, group-wide changes, replicas, images between members, and formation (12_exham_group.md R368 to R382;
10_fault_containment.md R298, R299; 07_weight_courses.md R187, R188, R209, R210).
-/

namespace Sys2Proof.Machine

/-! ### Received transfers (R368, R369, R375) -/

/-- A message counts when it arrives on a port that is UP, on a device that is not frozen. -/
def State.hears (s : State) (src : From) : Bool := (s.port src.port).state == .up && !s.frozen

/-- A protocol violation (R375): the message is discarded, its port quarantined, with record 0x36. -/
def State.violation (src : From) (s : State) : State := s.quarantine src.port 0x36

/-- The memory that a window's space and unit name: 4 an activation SRAM, 5 a soundboard. -/
def windowArea (space unit : Nat) : Area := if space = 5 then .sb (unit % 256 / 8) else .sram (unit % 256)

/-- The window of the receive table in which lines of a run lie (R372): one of the space named, 4 or 5, or of either for space 6. -/
def State.windowFor (s : State) (run space unit line lines : Nat) : Option Window :=
  if unit / 256 ≠ s.group.devno then none
  else s.group.windows.find? fun w =>
    (w.space == 4 || w.space == 5) && (space == 6 || w.space == space) && w.run == run && w.unit % 256 == unit % 256 &&
      decide (w.first ≤ line) && decide (line + lines ≤ w.first + w.lines)

/-- A write lies in the receive table (R372). -/
def State.inWindow (s : State) (run space unit line lines : Nat) : Bool := (s.windowFor run space unit line lines).isSome

/-- The memory in which such lines lie. -/
def State.windowMem (s : State) (run space unit line lines : Nat) : Area :=
  match s.windowFor run space unit line lines with
  | some w => windowArea w.space unit
  | none => windowArea space unit

/-- The MOVE step of this device that waits for a WRITE in answer to its READ: its core, its step, and where its lines go. -/
def State.awaitedRead (s : State) (src : From) (ordinal run unit space line lines : Nat) : Option (Nat × Issue × Area) :=
  let core := unit % 256
  let c := s.core core
  if unit / 256 ≠ s.group.devno ∨ c.cur ≠ some ordinal then none
  else
    c.flight.findSome? fun f =>
      match s.stepAt core f.stepno with
      | some i =>
        let from_ := moveSrc c i.w
        let dest := moveDst c i.w
        let sp := if dest.space = 0 then 4 else if dest.space = 1 then 5 else dest.space
        if f.unit = 9 ∧ stepKind i.w = 3 ∧ from_.space = 6 ∧ from_.unit / 256 = src.dev ∧ stepRun i.w = run ∧ sp = space ∧ dest.line = line ∧
            lines ≤ sfld i.w 0x10 23 0 then
          (s.areaOf core ordinal i.t dest).map fun a => (core, i, a)
        else none
      | none => none

/-- A word of a line is lost on its way into a memory of this device, or cannot be read there (10 R270, R271): it has no copy and no
reading core here, so its line is poisoned, with record 0x08. -/
def State.lostAtHub (cl ordinal run line : Nat) (s : State) : State :=
  (s.countEvent cl 0x2E 1).record
    { kind := 0x08, severity := 1, detected := some ordinal, unit := .hub, run := some run, detail := [(6, .num line)] }

/-- Words that three replays over a crossing lost (10 R270, record 0x07): the unit that sent them is charged, and their line has no copy here,
so it is poisoned (R271). -/
def State.lostWords (cl ordinal run line n : Nat) (sender : UnitId) (s : State) : State :=
  let r : Rec := { kind := 0x07, severity := 1, detected := some ordinal, unit := sender, run := some run, detail := [(6, .num line)] }
  ((s.countEvent cl 0x2C (3 * n)).chargeRecord r ordinal).lostAtHub cl ordinal run line

/-- A line crosses from the hub into a memory: words may be lost on the way, and the containers of a reduction whose sign is bad are (10 R270).
The answer says whether the line is good. -/
def State.crossIn (cl ordinal run line lost : Nat) (reduce : Bool) (x : Bytes) (s : State) : State × Bool :=
  let n := lost + (if reduce then (signBadWords x).length / 2 else 0)
  if n ≠ 0 then (s.lostWords cl ordinal run line n .hub, false) else (s, true)

/-- How many words of line k of a WRITE's data were lost. -/
def wordsLost (f : WriteFaults) (k : Nat) : Nat := (f.lost.filter fun w => w / 16 == k).length

/-- One line of a WRITE is stored, or added exactly: a poisoned container poisons the sum (R277), and so does a destination word that is
bad. -/
def State.remoteLine (ordinal run : Nat) (a : Area) (line lost : Nat) (reduce poison : Bool) (x : Bytes) (s : State) : State :=
  let r := if poison then (s, true) else s.crossIn a.cluster ordinal run line lost reduce x
  let old := r.1.load a (line * 64) 64
  let gone := reduce && !r.1.poisoned a line && (!(r.1.badWords a line).isEmpty || !lineSignsOk old)
  let s1 := if gone then r.1.lostAtHub a.cluster ordinal run line else r.1
  let p := poison || !r.2 || gone || (reduce && s1.poisoned a line)
  (s1.storeLines a (line * 64) (if reduce then addContainers x old else x) p).countSb a 0x1A

/-- The lines of a WRITE from its resend offset on; those that were applied before are skipped. -/
def State.remoteLines (ordinal run : Nat) (a : Area) (first resend done : Nat) (reduce : Bool) (data : Bytes) (faults : WriteFaults) (s : State) :
    State :=
  (List.range (data.length / 64)).foldl (fun t k =>
    if resend + k < done then t
    else t.remoteLine ordinal run a (first + resend + k) (wordsLost faults k) reduce (faults.poison.contains k) (slice data (64 * k) 64)) s

/-- The lines that answer a READ reach the MOVE step that waits for them (R368). It reads them now: a poisoned one kills its run, and every
line after it carries poison (10 R273). It adds them where the step has REDUCE, and a duplicate grant's are captured (06 R172). -/
def State.answerLines (core : Nat) (i : Issue) (a : Area) (resend done : Nat) (data : Bytes) (faults : WriteFaults) (s : State) : State :=
  let dst := moveDst (s.core core) i.w
  let reduce := sfld i.w 4 19 19 == 1
  let go (m : Moving) (k : Nat) : Moving :=
    if resend + k < done then m
    else
      let x := slice data (64 * k) 64
      let r := m.s.crossIn (core / 8) i.b (stepRun i.w) (dst.line + resend + k) (wordsLost faults k) reduce x
      let p := faults.poison.contains k || !r.2
      let s1 := if p && !m.poison then r.1.poisonDeath core i.b (stepRun i.w) (stepNo i.w) else r.1
      State.writeLine core i dst a (resend + k) [] reduce x ⟨s1.useRoom core (stepNo i.w), m.poison || p⟩
  ((List.range (data.length / 64)).foldl go ⟨s, decide (0 < done) && s.poisoned a (dst.line + done - 1)⟩).s

/-- A message of a sender is complete: the next ESEQ is expected. -/
def State.eseqDone (dev : Nat) (s : State) : State := s.onPeer dev fun p => { p with next := (p.next + 1) % 2 ^ 32, lines := 0 }

/-- Apply a WRITE or TOKEN whose turn it is. -/
def State.applyMessage (i : Instr) (s : State) : State :=
  match i with
  | .remoteWrite src _ ordinal run flags unit space line lines resend data faults =>
    let waits := s.awaitedRead src ordinal run unit space line lines
    let a := match waits with
      | some w => w.2.2
      | none => s.windowMem run space unit line lines
    let done := (s.peer src.dev).lines
    let upto := resend + data.length / 64
    if done < resend then s
    else
      let s1 := match waits with
        | some w => s.answerLines w.1 w.2.1 a resend done data faults
        | none => s.remoteLines ordinal run a line resend done (flags % 2 == 1) data faults
      if upto < lines then s1.onPeer src.dev fun p => { p with lines := max done upto }
      else
        let s2 := s1.eseqDone src.dev
        match waits with
        | some w => (s2.completeStep w.1 w.2.1.b w.2.1.w false).moveNext w.1
        | none => s2
  | .remoteToken src _ t unit => (s.postRemote (unit % 256) t).eseqDone src.dev
  | _ => s

/-- The ESEQ and the sender of a message. -/
def messageSeq : Instr → Option (Nat × Nat)
  | .remoteWrite src eseq _ _ _ _ _ _ _ _ _ _ => some (src.dev, eseq)
  | .remoteToken src eseq _ _ => some (src.dev, eseq)
  | _ => none

/-- Apply the early messages of a sender whose turn has come. -/
def drainEarly : Nat → Nat → State → State
  | 0, _, s => s
  | n + 1, dev, s =>
    let p := s.peer dev
    match p.early.find? fun i => messageSeq i == some (dev, p.next) with
    | some i =>
      drainEarly n dev ((s.onPeer dev fun q => { q with early := q.early.filter fun j => messageSeq j != some (dev, p.next) }).applyMessage i)
    | none => s

/-- Take a WRITE or TOKEN by its ESEQ (R369): in turn it is applied; one that is complete is discarded; an early one is kept. -/
def State.takeMessage (dev eseq : Nat) (i : Instr) (s : State) : State :=
  let p := s.peer dev
  if eseq = p.next then drainEarly p.early.length dev (s.applyMessage i)
  else if (p.next + 2 ^ 32 - eseq) % 2 ^ 32 < 2 ^ 31 then s
  else s.onPeer dev fun q => { q with early := q.early.filter (fun j => messageSeq j != some (dev, eseq)) ++ [i] }

/-- The message of this number is complete already (R369). -/
def State.eseqComplete (s : State) (dev eseq : Nat) : Bool :=
  eseq != (s.peer dev).next && decide (((s.peer dev).next + 2 ^ 32 - eseq) % 2 ^ 32 < 2 ^ 31)

/-- REMOTE_WRITE: a WRITE message with its DATA flits. One that is resent after its number is complete is discarded, whether the step that
it answered still waits or not (R369). -/
def execRemoteWrite (src : From) (eseq ordinal run flags unit space line lines resend : Nat) (data : Bytes) (faults : WriteFaults) (s : State) :
    Host.Outcome State Fault Refusal :=
  if src.port < 6 then
    .next (if !s.hears src then s
      else if flags > 1 ∨ run > 15 ∨ lines < resend + data.length / 64 ∨ data.length % 64 ≠ 0 then s.violation src
      else if s.eseqComplete src.dev eseq then s
      else if ¬ (s.inWindow run space unit line lines ∨ (s.awaitedRead src ordinal run unit space line lines).isSome) then s.violation src
      else s.takeMessage src.dev eseq (.remoteWrite src eseq ordinal run flags unit space line lines resend data faults))
  else .fault .noSuchUnit

/-- The lines that another device reads leave their memory for the hub. Words of them may be stored badly, or be lost on the crossing, which
charges the unit that sends them (10 R270, 12 R353). No core of this device reads here, so a bad word has no repair and poisons its line
(10 R271). -/
def State.readWords (a : Area) (ordinal run line lines : Nat) (bad : List BadWord) (s : State) : State :=
  let sender : UnitId := match a with
    | .sb c => .shared c
    | .sram c => .core c
    | _ => .hub
  let s1 := (bad.filter fun w => !w.lost).foldl (fun t w => t.setParity a (line + w.word / 16) (w.word % 16)) s
  (List.range lines).foldl (fun t k =>
    let n := (bad.filter fun w => w.lost && w.word / 16 == k).length
    if t.poisoned a (line + k) then t
    else if n ≠ 0 then (t.lostWords a.cluster ordinal run (line + k) n sender).setPoison a (line + k) true
    else if (t.badWords a (line + k)).isEmpty then t
    else (t.lostAtHub a.cluster ordinal run (line + k)).setPoison a (line + k) true) s1

/-- REMOTE_READ: the owner answers with a WRITE of the lines (R368); a poisoned line travels with its poison. -/
def execRemoteRead (src : From) (eseq ordinal run unit space line : Nat) (span : ReadSpan) (replyUnit replySpace replyLine : Nat) (s : State) :
    Host.Outcome State Fault Refusal :=
  if src.port < 6 then
    let lines := span.count
    .next (if !s.hears src then s
      else if eseq ≥ 2 ^ 32 ∨ run > 15 ∨ ¬ s.inWindow run space unit line lines then s.violation src
      else
        let a := s.windowMem run space unit line lines
        let s := s.readWords a ordinal run line lines span.bad
        (s.sendMsg 0x10 src.dev [(s.peer src.dev).sent, ordinal, run, 0, replyUnit, replySpace, replyLine, lines, 0] []
          (s.load a (line * 64) (lines * 64)) ((List.range lines).filter fun k => s.poisoned a (line + k))).nextEseq src.dev)
  else .fault .noSuchUnit

/-- REMOTE_TOKEN: a token for a core of this device, from a member on which its run depends. -/
def execRemoteToken (src : From) (eseq : Nat) (t : Token) (unit : Nat) (s : State) : Host.Outcome State Fault Refusal :=
  if src.port < 6 then
    .next (if !s.hears src then s
      else if ¬ s.group.depends.contains (t.run, src.dev) ∨ t.chan > 15 ∨ unit / 256 ≠ s.group.devno then s.violation src
      else s.takeMessage src.dev eseq (.remoteToken src eseq t unit))
  else .fault .noSuchUnit

/-! ### Batches group-wide (R373, R374, R377) -/

/-- A message of the group from a member, on a port that is UP. -/
def State.fromMember (s : State) (src : From) : Bool := s.hears src && s.group.members.contains src.dev && src.dev != s.group.devno

/-- READY: a member's capture set, or its aftercare. -/
def execReady (src : From) (set absent : Nat) (aftercare : Bool) (s : State) : Host.Outcome State Fault Refusal :=
  if src.port < 6 then
    .next (if s.fromMember src then
      s.onGroup fun g =>
        { g with readyFor := (g.readyFor.filter fun r => !(r.member == src.dev && r.set == set && r.aftercare == aftercare)) ++
            [⟨src.dev, set, absent, aftercare⟩] }
    else s)
  else .fault .noSuchUnit

/-- A member that joins follows the lowest-numbered member from then on, which may be itself (R372); it has no batch to take over. -/
def State.followLowest (s : State) : State :=
  let l := s.group.members.foldl min (s.group.members.headD s.group.devno)
  if l = s.group.leader then s
  else (s.onGroup fun g => { g with leader := l }).record { kind := 0x3A, severity := 1, unit := .pair 3 }

/-- A member that was waiting for admission adopts the group's ordinal and epoch with the first OPEN that it gets (R378). -/
def State.joinGroup (s : State) : State :=
  if s.group.formed then s
  else (s.onGroup fun g => { g with formed := true, memberStates := tput0 0 g.devno 1 g.memberStates, joinPending := [] }).followLowest.autoStart

/-- OPEN: the leader opens a batch, and carries the decision on changes that are armed for two batches later. -/
def execOpenMsg (src : From) (ordinal epoch decision : Nat) (s : State) : Host.Outcome State Fault Refusal :=
  if src.port < 6 then
    .next (if decision > 2 ∧ s.hears src = true then s.violation src
      else if ¬ (s.fromMember src = true ∧ src.dev = s.group.leader ∧ s.notLeader = true ∧ s.nextOrd ≤ ordinal) then s
      else
        let s1 := s.joinGroup
        if ¬ (s1.dev.state = .serving ∨ s1.dev.state = .degraded) then s1
        else (((s1.decideAll ordinal decision).admitMembers ordinal).openBatch ordinal epoch s1.power.temps).tellReady)
  else .fault .noSuchUnit

/-- COMPLETE: what a member reports of a run to its publisher. -/
def execComplete (src : From) (ordinal run status : Nat) (corrected verdictsDone : Bool) (recs : List Decision) (s : State) :
    Host.Outcome State Fault Refusal :=
  if src.port < 6 then
    .next (if status > 2 ∧ s.hears src = true then s.violation src
      else if run > 15 ∧ s.hears src = true then s.violation src
      else if s.fromMember src then
        let s1 := s.onRun ordinal run fun r =>
          { r with completes := insertNew src.dev r.completes, corrected := r.corrected || corrected
                   settledBy := if verdictsDone then insertNew src.dev r.settledBy else r.settledBy
                   decisions := r.decisions ++ recs.filter fun d => !r.decisions.contains d
                   stale := r.stale || (status == 1 && r.status.isNone) }
        let s2 := if status = 2 then s1.killHere ordinal run 7 else s1
        s2.holdsFinal ordinal run
      else s)
  else .fault .noSuchUnit

/-- DEATH: a run is dead on another member. -/
def execDeath (src : From) (ordinal run cause : Nat) (s : State) : Host.Outcome State Fault Refusal :=
  if src.port < 6 then
    .next (if (cause = 0 ∨ 7 < cause ∨ 15 < run) ∧ s.hears src = true then s.violation src
      else if s.fromMember src then s.killHere ordinal run cause else s)
  else .fault .noSuchUnit

/-- STALE: another member made a run STALE; this device publishes it. -/
def execStale (src : From) (ordinal run cause : Nat) (s : State) : Host.Outcome State Fault Refusal :=
  if src.port < 6 then
    .next (if (cause > 7 ∨ run > 15) ∧ s.hears src = true then s.violation src
      else if s.fromMember src then
        s.onRun ordinal run fun r => { r with stale := r.stale || r.status.isNone }
      else s)
  else .fault .noSuchUnit

/-- FENCE: every core of a member has completed END of B* - 1. -/
def execFence (src : From) (ordinal : Nat) (s : State) : Host.Outcome State Fault Refusal :=
  if src.port < 6 then
    .next (if s.fromMember src = true ∧ ordinal = s.capo.bstar then
      s.onGroup fun g => { g with fences := insertNew src.dev g.fences }
    else s)
  else .fault .noSuchUnit

/-! ### Group-wide changes (R376 to R378) -/

/-- Whether this member accepts a change, and the change armed on it. Kinds (log 31): 0 the capo, 1 the policy, 2 the intake, 3 the
admission of a member. -/
def State.armHere (kind b : Nat) (s : State) : Bool × State :=
  match kind with
  -- a member whose manifest was rejected may hold a mirror of the selected image, and not the image that the leader means (R377)
  | 0 => if s.capo.rejected || (s.armFault b).isSome then (false, s) else (true, if s.noProgramme then s.commitAtArm else s.doArm b false)
  | 1 => if s.changeBusy .policy || (s.changeFault .policy b).isSome then (false, s) else (true, s.armChange .policy b)
  | 2 => if s.changeBusy .intake || (s.changeFault .intake b).isSome then (false, s) else (true, s.armChange .intake b)
  | _ => (true, s.onGroup fun g => { g with joinPending := g.joinPending.map fun j => if j.2 = ord48 then (j.1, b) else j })

/-- ARM: the leader asks for a change; the member checks its own conditions and answers with ARMACK. -/
def execArm (src : From) (kind bstar epoch : Nat) (s : State) : Host.Outcome State Fault Refusal :=
  if src.port < 6 then
    .next (if kind > 3 ∧ s.hears src = true then s.violation src
      else if s.fromMember src = true ∧ src.dev = s.group.leader then
        let r := s.armHere kind bstar
        r.2.groupMsg 0x27 src.dev [kind, bstar, epoch, if r.1 then 0 else 1] []
      else s)
  else .fault .noSuchUnit

/-- A member refused: the change is refused on the leader, with record 0x3B. -/
def State.refuseArm (a : GroupArm) (member : Nat) (s : State) : State :=
  let s1 : State := match a.answer with
    | some n => s.refuseAnswer n 5 6
    | none => s
  -- members that accepted it are told by the decision at B* - 2 (log 102)
  let s2 : State := s1.onGroup fun g =>
    { g with armed := g.armed.map fun (x : GroupArm) => (if x.kind = a.kind then { x with answer := none, acks := [] } else x) }
  let s3 : State := match a.kind with
    | 0 => if s2.capo.state = .armed ∧ s2.capo.bstar = a.bstar then s2.capoWithdrawn 4 .staged else s2
    | 1 => if s2.walk.policy.state = 1 then s2.onChange .policy fun x => { x with state := 4 } else s2
    | 2 => if s2.walk.intake.state = 1 then s2.onChange .intake fun x => { x with state := 4 } else s2
    | _ => s2.onGroup fun g => { g with joinPending := g.joinPending.filter fun j => j.2 != a.bstar }
  s3.memberRecord 0x3B 1 member [0]

/-- ARMACK: a member accepts (0) or refuses. -/
def execArmack (src : From) (kind bstar epoch result : Nat) (s : State) : Host.Outcome State Fault Refusal :=
  if src.port < 6 then
    .next (if (kind > 3 ∨ result > 1) ∧ s.hears src = true then s.violation src
      else match s.armOf kind with
      | some a =>
        if s.fromMember src = true ∧ s.group.leader = s.group.devno ∧ a.bstar = bstar ∧ a.epoch = epoch ∧ a.acks ≠ [] then
          if result = 0 then
            (s.onGroup fun g =>
              { g with armed := g.armed.map fun (x : GroupArm) => (if x.kind = kind then { x with acks := insertNew src.dev x.acks } else x) }).settleArm kind
          else s.refuseArm a src.dev
        else s
      | none => s)
  else .fault .noSuchUnit

/-- SEALLOST: a member has lost a seal of the new side; the leader will withdraw the switch at its decision. -/
def execSeallost (src : From) (site : Nat) (s : State) : Host.Outcome State Fault Refusal :=
  if src.port < 6 then
    .next (if site ≥ 1280 ∧ s.hears src = true then s.violation src
      else if s.fromMember src = true ∧ (s.armOf 0).isSome = true then s.onGroup fun g => { g with sealLost := true } else s)
  else .fault .noSuchUnit

/-- A member that was dropped or expelled joins only after its own reset: a device that has not been reset names an ordinal that it opened
(R378, log 105). -/
def State.mayJoin (s : State) (member ordinal : Nat) : Bool := ordinal == 0 || (tget0 0 s.group.memberStates member) < 2

/-- JOIN: a device asks for admission (R378). With A010.03 the leader arms it for B* = b_open + 16, unless another admission is
armed. The others note it, and take B* from the ARM. -/
def execJoinMsg (src : From) (member ordinal cause : Nat) (s : State) : Host.Outcome State Fault Refusal :=
  if src.port < 6 then
    .next (if (member ≠ src.dev ∨ member ≥ 24 ∨ ordinal > ord48 ∨ cause > 255) ∧ s.hears src = true then s.violation src
      else if s.hears src = true ∧ s.group.formed = true ∧ ¬ s.group.members.contains member = true ∧ s.mayJoin member ordinal = true ∧
          (s.group.joinPending.all fun j => j.1 != member) = true then
        if s.group.leader ≠ s.group.devno then s.onGroup fun g => { g with joinPending := g.joinPending ++ [(member, ord48)] }
        else if s.setting 0xA010 3 1 = 1 ∧ (s.armOf 3).all (fun a => a.acks.isEmpty) = true then
          let b := (s.openOrd + 16).toNat
          (s.onGroup fun g => { g with joinPending := g.joinPending ++ [(member, b)] }).askMembers 3 b none
        else s
      else s)
  else .fault .noSuchUnit

/-! ### Replicas (07 R209, R210; 10 R298, R299) -/

/-- Another device is a replica of this one: both manifests have the same non-zero REPLSET (07 R210, log 2). -/
def State.replicaOf (s : State) (dev : Nat) : Bool :=
  match s.capo.selected with
  | some i => i.replset != 0 && Config.replset i.progid dev == i.replset
  | none => false

/-- The digests of this device's replicas that are held for an epoch, its own among them. -/
def State.digestsFor (s : State) (epoch : Nat) : List (Nat × Bytes) :=
  ((s.group.digests.filter fun d => d.2.1 == epoch && s.replicaOf d.1).map fun d => (d.1, d.2.2)) ++
    (match s.capo.epochDigest with
     | some e => if e.1 = epoch then [(s.group.devno, e.2)] else []
     | none => [])

/-- Record 0x12 on a device. -/
def State.divergence (epoch : Nat) (reactions : List Nat) (d : Nat × Bytes) (s : State) : State :=
  s.record
    { kind := 0x12, severity := 2, unit := .pair 3
      unit2 := if d.1 = s.group.devno then none else some (.exham (portToward s.group.arrange s.group.devno d.1)), reactions := reactions
      detail := [(7, .num epoch), (8, .bytes d.2)] }

/-- A device is expelled: this device enters SAFE, the leader drops another one. -/
def State.expel (d : Nat) (s : State) : State :=
  if d = s.group.devno then s.enterSafe 3 0x19 (.pair 0)
  else if s.group.leader = s.group.devno then s.dropMember d (s.firstIncomplete d) 4 3
  else s

/-- Compare the digests of an epoch (R298). -/
def State.compareReplicas (epoch : Nat) (s : State) : State :=
  let l := s.digestsFor epoch
  match l with
  | [] => s
  | x :: _ =>
    if l.all fun d => d.2 == x.2 then s
    else
      match l.find? fun d => decide (l.length < 2 * (l.filter fun e => e.2 == d.2).length) with
      | some m => (l.filter fun d => d.2 != m.2).foldl (fun t d => (t.divergence epoch [12] d).expel d.1) s
      | none => l.foldl (fun t d => t.divergence epoch [0] d) s

/-- DIGEST: a replica's epoch digest. -/
def execDigest (src : From) (epoch : Nat) (value : Bytes) (s : State) : Host.Outcome State Fault Refusal :=
  if src.port < 6 then
    .next (if s.fromMember src then
      (s.onGroup fun g => { g with digests := (g.digests.filter fun d => d.1 != src.dev) ++ [(src.dev, epoch, padTo 32 value)] }).compareReplicas
        epoch
    else s)
  else .fault .noSuchUnit

/-- REPLICA_DIGEST_SEND: every 16 batches a device with a REPLSET sends its latest complete epoch digest. -/
def execReplicaDigestSend (s : State) : Host.Outcome State Fault Refusal :=
  .next (match s.capo.selected, s.capo.epochDigest with
    | some i, some e => if i.replset ≠ 0 ∧ s.dev.bOpen.isSome = true then s.groupMsg 0x29 255 [e.1] e.2 else s
    | _, _ => s)

/-! ### Members that leave (R379, R382) -/

/-- SAFE: a member leaves service; the leader, or the member that leads once it is gone, drops it. -/
def execSafe (src : From) (member ordinal cause : Nat) (s : State) : Host.Outcome State Fault Refusal :=
  if src.port < 6 then
    .next (if member ≠ src.dev ∧ s.hears src = true then s.violation src
      else if s.fromMember src = true ∧ s.leadsWithout [member] = true then s.dropMember member ordinal (if cause = 3 then 4 else 3) cause
      else s)
  else .fault .noSuchUnit

/-- DROP: the leader has dropped a member. Its cause is that of the SAFE message, 0 for a member that was late or unreachable. -/
def execDropMsg (src : From) (member ordinal cause : Nat) (s : State) : Host.Outcome State Fault Refusal :=
  if src.port < 6 then
    .next (if member ≥ 24 ∧ s.hears src = true then s.violation src
      else if s.fromMember src = true ∧ (src.dev = s.group.leader ∨ member = s.group.leader) then
        s.loseMember member ordinal (if cause = 0 then 2 else if cause = 3 then 4 else 3)
      else s)
  else .fault .noSuchUnit

/-- A member's READY or COMPLETE for the current batch has not arrived. -/
def State.memberLate (s : State) (m : Nat) : Bool :=
  (s.walk.runs.any (s.awaits m)) ||
    !((s.group.readyFor.any fun r => r.member == m && r.set == s.nextOrd % 2 ^ 32 && !r.aftercare) &&
      (s.group.readyFor.any fun r => r.member == m && r.set == s.nextOrd % 2 ^ 32 && r.aftercare))

/-- MEMBER_TIMEOUT: what a member owes is more than A010.01 late. -/
def execMemberTimeout (member : Nat) (s : State) : Host.Outcome State Fault Refusal :=
  .next (if s.frozen = false ∧ s.group.members.contains member = true ∧ member ≠ s.group.devno ∧ s.memberLate member = true ∧
      s.leadsWithout [member] = true then s.dropMember member (s.firstIncomplete member) 2 0
    else s)

/-! ### Images between members (R382; 07 R187, R188) -/

/-- OFFER: a member can supply objects; an entry for which nobody could be asked is asked for. -/
def execOffer (src : From) (progid imgseq : Nat) (digests : List Bytes) (s : State) : Host.Outcome State Fault Refusal :=
  if src.port < 6 then
    .next (if s.fromMember src then
      let s1 := s.onCapo fun c =>
        { c with neighbours := c.neighbours ++ (digests.map fun d => (src.dev, d)).filter fun x => !c.neighbours.contains x }
      [s.freeSide, s.capo.side].foldl (fun t side =>
        match s.sideImage side with
        | some i =>
          if i.progid = progid ∧ i.imgseq = imgseq then
            (List.range i.entries.length).foldl (fun u n =>
              match s.wanted side n with
              | some x => if x.2.asked.isNone then u.askAt side n else u
              | none => u) t
          else t
        | none => t) s1
    else s)
  else .fault .noSuchUnit

/-- REQUEST: a member asks for an object; one that is verified here is sent. -/
def execRequest (src : From) (digest : Bytes) (s : State) : Host.Outcome State Fault Refusal :=
  if src.port < 6 then
    .next (if s.fromMember src then
      match s.capo.objects.find? fun e => digest32 e.2 == digest with
      | some e => s.sendMsg 0x32 src.dev [] (padTo 32 digest ++ leBytes 4 e.2.length) e.2 []
      | none => s
    else s)
  else .fault .noSuchUnit

/-- OBJECT: a member supplies an object that was asked of it, for every entry of either side's image that names its digest. -/
def execObject (src : From) (digest : Bytes) (obj : Bytes) (late : Bool) (s : State) : Host.Outcome State Fault Refusal :=
  if src.port < 6 then
    .next (if s.fromMember src then
      [s.freeSide, s.capo.side].foldl (fun t side =>
        match s.sideImage side with
        | some i =>
          (List.range i.entries.length).foldl (fun u n =>
            match u.wanted side n with
            | some x => if x.2.digest = digest then u.objectArrives side n (src.dev + 1) obj late else u
            | none => u) t
        | none => t) s
    else s)
  else .fault .noSuchUnit

/-! ### Formation (R372) -/

/-- The spaces in which a tab names its own memories (Table 05-2), by the space of a window. -/
def windowSpace (space : Nat) : Nat := if space = 5 then 1 else 0

/-- A window is accepted when it lies wholly within one of this device's own buffers of the same run. -/
def State.windowOk (s : State) (w : Window) : Bool :=
  (w.space == 4 || w.space == 5) && (s.tabsOf s.capo.side).any fun e =>
    (if w.space = 5 then e.1 / 8 == w.unit % 256 / 8 else e.1 == w.unit % 256) && bit e.2.runmask w.run && e.2.bufs.any fun b =>
      b.space == windowSpace w.space && decide (b.base ≤ w.first) && decide (w.first + w.lines ≤ b.base + b.length)

/-- A window from its five numbers. -/
def windowOf (l : List Nat) : Window := ⟨l.getD 0 0, l.getD 1 0, l.getD 2 0, l.getD 3 0, l.getD 4 0⟩

/-- The member whose tabs name the window: the sixth number. -/
def windowMember (l : List Nat) : Nat := l.getD 5 0

/-- A run with a destination here has one publisher, and no run has two. -/
def State.publishersOk (s : State) (publishers : List (List Nat)) : Bool :=
  (List.range 16).all fun r =>
    let l := publishers.getD r []
    decide (l.length ≤ 1) && (!l.isEmpty || (destOf (slice (s.settingBytes 0x3100 1 []) (22 * r) 22)).isNone)

/-- A member holds the same programme as this device (R372). -/
def State.sameImage (s : State) (m : MemberId) : Bool :=
  match s.capo.selected with
  | some i => m.progid == i.progid && m.imgseq == i.imgseq
  | none => m.progid == 0 && m.imgseq == 0

/-- The member that record 0x3B names at formation (R372): one with another image, else the second publisher of a run that has two, else this
device for a run that nobody publishes, else the member whose window is refused. -/
def State.disagrees (s : State) (ids : List MemberId) (publishers windows : List (List Nat)) : Option Nat :=
  match ids.find? fun x => x.dev != s.group.devno && !s.sameImage x with
  | some m => some m.dev
  | none =>
    if s.publishersOk publishers then (windows.find? fun w => !s.windowOk (windowOf w)).map windowMember
    else some (((publishers.find? fun l => decide (1 < l.length)).map fun l => l.getD 1 s.group.devno).getD s.group.devno)

/-- The programme objects that this device has verified, offered to the others (R382). -/
def State.offerAll (s : State) : State :=
  match s.capo.selected with
  | some i =>
    let l := i.entries.zipIdx.filterMap fun e => if (s.object? s.capo.side e.2).isSome then some e.1.digest else none
    if l.isEmpty then s else s.groupMsg 0x30 255 [i.progid, i.imgseq, l.length] l.flatten
  | none => s

/-- The tables of the group: the accepted windows, the image identities and the run tables of the members, the publishers, and the members
that each run depends on (log 87). -/
def State.takeTables (ids : List MemberId) (rows : List RunRow) (publishers : List (List Nat)) (windows : List Window) (depends : List (Nat × Nat))
    (s : State) : State :=
  let own : Nat × Nat := ((s.capo.selected.map fun i => (i.progid, i.imgseq)).getD (0, 0))
  s.onGroup fun g =>
    { g with windows := windows, depends := depends.eraseDups
             publishers := (List.range 16).map fun r => (publishers.getD r []).headD 255
             ids := (g.ids.filter fun m => !ids.any fun n => n.dev == m.dev && n.progid == m.progid && n.imgseq == m.imgseq) ++ ids
             tables := (g.tables.filter fun t => t.progid != own.1 || t.imgseq != own.2) ++ [⟨own.1, own.2, rows⟩] }

/-- GROUP_FORMATION: the formation time has ended, or every member is UP. `joining`: the other members' group has formed already, and
this device asks to join it (R378). -/
def execGroupFormation (joining : Bool) (ids : List MemberId) (rows : List RunRow) (publishers windows : List (List Nat))
    (depends : List (Nat × Nat)) (s : State) :
    Host.Outcome State Fault Refusal :=
  .next (
    let n := arrSize s.group.arrange
    if n ≤ 1 ∨ s.frozen = true ∨ s.dev.state = .boot then s
    else
      let here := (List.range n).filter fun m => m == s.group.devno || ids.any fun x => x.dev == m
      let ws := windows.map windowOf
      match s.disagrees ids publishers windows with
      | some m => if s.group.formed then s else s.memberRecord 0x3B 1 m [0]
      | none =>
      -- a formed group takes the tables of what its members tell it later, and a part of it forms none anew before a reset (R380)
      if s.group.formed then (if s.inGroup then s.takeTables ids rows publishers ws depends else s)
      else
        let others := here.filter (· != s.group.devno)
        let leader := if joining then others.headD s.group.devno else here.headD s.group.devno
        let s1 := (s.takeTables ids rows publishers ws depends).onGroup fun g =>
          { g with members := here, leader := leader, formed := !joining
                   memberStates := here.foldl (fun t m => if joining ∧ m = g.devno then t else tput0 0 m 1 t) g.memberStates }
        if joining then s1.sendMsg 0x2C 255 [s.group.devno, s.dev.bOpen.getD 0, 0] [] [] []
        else
          let absent := (List.range n).filter fun m => !here.contains m
          let s2 := if leader = s.group.devno then absent.foldl (fun t m => t.memberRecord 0x37 2 m [0]) s1 else s1
          s2.offerAll.autoStart)

end Sys2Proof.Machine
end

