-- ==== Sys2Proof/WellFormed.lean ====
section
/-!
DEFINITION. Which commands can occur: the operands of a command name units that the spec says exist and stay inside the
widths that the spec gives their fields. A meaning is total all the same: a command that names a unit which does not exist
faults (`Fault.noSuchUnit`), and a request that the spec refuses is answered.
-/

namespace Sys2Proof

/-- A request comes from one of the four endpoints, and its header fields have the widths of Table 13-2. -/
def reqWf (r : Req) : Bool :=
  r.ep < 4 && r.op < 256 && r.tid < 256 && r.sid < 256 && r.seq < 2 ^ 32 && r.via.canId < 2 ^ 30 && r.via.frame < 3 && r.via.dport < 2 ^ 16 &&
    r.via.sport < 2 ^ 16

/-- An index and a subindex of the dictionary (13_malrov_dictionary.md R384). -/
def objWf (idx sub : Nat) : Bool := idx < 65536 && sub < 256

/-- Cores, sites, sides and clusters of a device (00_scope.md R1, 02_count_exact_crossbar.md R73). -/
def coreWf (c : Nat) : Bool := c < 256
/-- A bad word of activation SRAM, of the soundboard, of a scale-table bank or of the grid; of the source or the destination of a MOVE step. -/
def badWf (w : BadWord) : Bool :=
  w.space == 0 && decide (w.word < 2 ^ 18) || w.space == 1 && decide (w.word < 2 ^ 21) || w.space == 2 && decide (w.word < 1024) ||
    w.space == 3 && decide (w.word < 2 ^ 24) || w.space == 4 && decide (w.word < 2)
def moveBadWf (w : BadWord) : Bool := w.space < 2 && decide (w.word < 2 ^ 28) || w.space == 4 && decide (w.word < 2)
def siteWf (n : Nat) : Bool := n < 1280
def clusterWf (c : Nat) : Bool := c < 32
def sideWf (d : Nat) : Bool := d < 2
def ordWf (b : Nat) : Bool := b < 281474976710656
def runWf (r : Nat) : Bool := r < 16
def portWf (p : Nat) : Bool := p < 6
def macWf (m : Nat) : Bool := m < 2
def streamWf (t : Nat) : Bool := t < 32

/-- A member of a group, and the port its messages come by (12_exham_group.md R364). -/
def fromWf (f : From) : Bool := f.dev < 24 && f.port < 6

/-- A unit that exists. -/
def unitWf : UnitId → Bool
  | .site n => siteWf n
  | .core n => coreWf n
  | .array c | .shared c | .cluster c => clusterWf c
  | .die d => d < 4
  | .pair n => n < 4
  | .mac n | .can n | .ddr n => n < 2
  | .exham n => portWf n
  | _ => true

/-- A timing domain that Table 01-4 lists. -/
def domainWf : Domain → Bool
  | .core n => coreWf n
  | .shared c | .array c => clusterWf c
  | .link d r => d < 4 && r < 2
  | .dieMonitor d | .diePower d => d < 4
  | .pair n => n < 4
  | .intake n => n < 16
  | .mac n => macWf n
  | .exham n => portWf n
  | .ddr n => n < 8
  | .security | .monitors | .scene | .hub | .can | .xspi => true

/-- A converter event names a converter (02_count_exact_crossbar.md R33, R41). -/
def convWf (e : ConvEvent) : Bool := e.fret < 16 && e.col < 544 && e.half < 2

/-- A binary search takes as many steps as the peg has bits, with 64 samples each (09_tuning_passes.md R252). -/
def stepsWf (w : Nat) (l : List Nat) : Bool := l.length == w && l.all (· ≤ 64)
def searchWf (w : Nat) (x : Search) : Bool :=
  stepsWf w x.common0 && stepsWf w x.common1 && x.own.all fun e => e.1 < 4352 && stepsWf w e.2.1 && stepsWf w e.2.2
def sweepWf (x : Sweep) : Bool := searchWf 8 x.drive && searchWf 8 x.gain && searchWf 6 x.off

/-- The outcomes of a tuning pass stay inside Table 09-4. -/
def passWf (r : PassResult) : Bool :=
  (r.readback.all fun e => e.1 < 16 && 532 ≤ e.2.1 && e.2.1 < 544 && e.2.2 ≤ 40) && sweepWf r.sweep1 && sweepWf r.sweep2 &&
    r.levels.all fun e => e.conv < 4352 && e.level ≤ 40 && e.sample < 8 && e.count ≤ 40

/-- A token's fields (05_tablature.md R147). -/
def tokenWf (t : Token) : Bool := ordWf t.ordinal && t.chan < 16 && runWf t.run

/-- A flit's fields (Table 12-1). -/
def flitWf (f : Flit) : Bool := f.kind < 8 && f.cls < 4 && f.crclass < 4 && f.credits < 128 && f.payload.length ≤ 256

/-- A command whose operands the spec admits. -/
def Instr.wf : Instr → Bool
  | .read r i u | .describe r i u | .abort r i u => reqWf r && objWf i u
  | .write r i u d => reqWf r && objWf i u && d.length ≤ 1024
  | .segRead r i u o => reqWf r && objWf i u && o < 2 ^ 32
  | .segWrite r i u o d _ => reqWf r && objWf i u && o < 2 ^ 32 && d.length ≤ 1024
  | .badPduDiscard e _ _ _ _ | .lockExpiry e => e < 4
  | .transferTimeout e _ i u => e < 4 && objWf i u
  | .sessionHello r _ _ _ _ | .sessionProve r _ _ _ _ _ | .sessionClose r _ => reqWf r
  | .start r | .drain r | .hardStop r | .exitSafe r | .enterSafe r | .acknowledge r _ | .cutDump r _ => reqWf r
  | .hang c => coreWf c
  | .freezeTimeout u | .unitBackToOk u => unitWf u
  | .memoryReadRequest r _ _ _ _ => reqWf r
  | .tensorWatchArm r _ _ _ _ _ _ _ | .tensorWatchDisarm r _ _ _ _ _ _ _ => reqWf r
  | .counterEpochCommand r _ => reqWf r
  | .capoArm r | .capoWithdraw r | .capoDiscard r => reqWf r
  | .manifestDelivery r _ d _ _ _ | .imageDataDelivery r _ d _ => reqWf r && d.length ≤ 1024
  | .programLoopStart n d r c => siteWf n && sideWf d && r < 1024 && c ≤ 544
  | .programLoopComplete n d r c => siteWf n && sideWf d && r < 1024 && c ≤ 544
  | .sealReadbackDone n d g => siteWf n && sideWf d && g.length = 32
  | .planeScanDone n d g _ => siteWf n && sideWf d && g.length = 32
  | .tuningPassComplete n r => siteWf n && passWf r
  | .csi2FrameStart p v e _ | .csi2FrameEnd p v e _ => p < 16 && v < 16 && e < 3
  | .csi2LongPacket p v d e _ _ => p < 16 && v < 16 && d < 64 && e < 3
  | .streamLoss t => streamWf t
  | .frameBufferRelease b => ordWf b
  | .intakeArm r | .intakeWithdraw r | .policyArm r | .policyWithdraw r => reqWf r
  | .ordinalReceived c b _ _ => coreWf c && ordWf b
  | .clusterOrdinalAccept c b => clusterWf c && ordWf b
  | .coreBatchStart c | .signalStep c | .waitStep c | .waitTimeout ⟨c, _⟩ | .probeStep c | .droneTuningWindow c | .droneScanSlot c
  | .markLayerStart c | .markRunEnd c | .endStep c => coreWf c
  | .bow n f r => siteWf n && f.all convWf && r.all convWf
  | .bowStep c l | .digTile c _ l | .digSoftmax c l | .bridgeStep c ⟨l, _⟩ | .shapeStep c l | .sceneGather c l | .sceneScatter c l =>
    coreWf c && l.all badWf
  | .moveStep c l => coreWf c && l.all moveBadWf
  | .markCheckpoint c _ => coreWf c
  | .takeStep c _ n => coreWf c && n.all (· < 4096)
  | .tokenArrival c t => coreWf c && tokenWf t
  | .runDeathNotice c b r _ => coreWf c && ordWf b && runWf r
  | .droneKernelSlot c ⟨l, m, k⟩ => coreWf c && l.all (fun e => unitWf e.1) && m.all (fun e => siteWf e.1) && k.all (fun e => siteWf e.1)
  | .tabBlockFetch c b _ => coreWf c && b < 65536
  | .arrayGrant cl c => clusterWf cl && c < 8
  | .arrayDrone cl _ _ => clusterWf cl
  | .publishRun b r _ | .retractionRepeat b r => ordWf b && runWf r
  | .linkDown m | .linkUp m | .importDatagram _ _ _ ⟨m, _⟩ => macWf m
  | .replayModeEnter r _ | .replayModeLeave r _ | .replayBatchDescriptor r _ | .replayInputData r _ => reqWf r
  | .firmwareDelivery r _ d _ _ => reqWf r && d.length ≤ 1024
  | .firmwareActivate r | .firmwareDrainReset r | .firmwareCancel r | .provisioning r _ => reqWf r
  | .clientKeySlotWrite r k _ | .imageKeyWrite r k _ => reqWf r && k < 8
  | .macsecKeyWrite r m _ a _ => reqWf r && macWf m && a < 2
  | .macsecFrameReceived m c a p _ _ => macWf m && c < 4 && a < 4 && p < 2 ^ 32
  | .quarantineRelease r p => reqWf r && portWf p
  | .portTrainingComplete p _ | .trainingTimeout p | .absentRetry p | .bringupTimeout p => portWf p
  | .hello p d _ _ _ _ _ => portWf p && d < 24
  | .evidence p _ _ _ _ _ _ | .keyshareI p _ _ _ _ _ | .keyshareR p _ _ _ _ _ | .rekeyStart p _
  | .rekeyI p _ _ _ _ _ | .rekeyR p _ _ _ _ _ | .rekeyTimeout p => portWf p
  | .flitReceived p f => portWf p && flitWf f
  | .idleFlit p | .replayTimeout p | .lockLoss p => portWf p
  | .starvationEvent p c | .starveLimit p c => portWf p && c < 4
  | .remoteWrite f _ b r _ _ _ _ _ _ _ _ | .remoteRead f _ b r _ _ _ _ _ _ _ => fromWf f && ordWf b && runWf r
  | .remoteToken f _ t _ => fromWf f && tokenWf t
  | .ready f _ _ _ | .arm f _ _ _ | .armack f _ _ _ _ | .seallost f _ | .digest f _ _ | .offer f _ _ _ | .request f _
  | .object f _ _ _ => fromWf f
  | .openMsg f b _ _ | .fence f b => fromWf f && ordWf b
  | .complete f b r _ _ _ _ | .death f b r _ | .stale f b r _ => fromWf f && ordWf b && runWf r
  | .safe f m b _ | .dropMsg f m b _ | .joinMsg f m b _ => fromWf f && m < 24 && ordWf b
  | .memberTimeout m => m < 24
  | .counterIncrement n _ => n < 7
  | .windowPageWrite r a _ _ _ => reqWf r && a < 65536
  | .windowSegmentWrite r _ _ _ => reqWf r
  | .blockProtectWrite r v => reqWf r && v < 256
  | .coolantInletReport r _ => reqWf r
  | .lockstepMismatch p => p < 4
  | .calibrationToken l _ _ => l.all fun e => domainWf e.1
  | _ => true

end Sys2Proof
end

