-- ==== Sys2Proof/Machine/Electrical.lean ====
section
/-!
DEFINITION. Supplies, clocks, temperature and pins: the adaptive VDD_CE, sensors and throttling, rail faults, calibration, the
coolant report, PFAIL_N, SAFE_N and lockstep mismatches, and the rolling scan of the DRAM copies (17_electrical_package.md R484 to
R499; 01_engine_to_package.md R21, R29; 10_fault_containment.md R308; 04_digital_arrays.md R122).
-/

namespace Sys2Proof.Machine

/-- A record of the package monitors; key 16 names the rail or the sensor. -/
def State.monRecord (kind severity : Nat) (reactions : List Nat) (entry : Option Nat) (s : State) : State :=
  s.record
    { kind := kind, severity := severity, unit := .mon, reactions := reactions
      detail := match entry with
        | some n => [(16, .num n)]
        | none => [] }

/-- The device works: it is out of reset. -/
def State.awake (s : State) : Bool := !s.dev.resetHeld

/-! ### Adaptive VDD_CE (R486 to R490) -/

/-- The floor of the setpoint in a device state, mV. -/
def vddFloor : DevState → Nat
  | .selftest | .serving | .degraded => 720
  | _ => 650

/-- plim of R496, in W. -/
def State.powerLimit (s : State) : Nat :=
  min (s.setting 0xB010 2 110) (((2000 - s.power.inlet.getD 1040) * 100) / 832).toNat

/-- The setpoint after one adjustment. -/
def State.nextSetpoint (s : State) (v tb p10 : Nat) : Nat :=
  let target := s.setting 0xB010 1 1024
  let floor := vddFloor s.dev.state
  let plim := s.powerLimit
  if s.power.throttle ∨ p10 > plim ∨ tb + 48 < target then max (v - 5) floor
  else if tb > target + 16 ∧ p10 + 2 < plim then min (v + 5) 850
  else v

/-- AVS_ADJUST: the adjustment of every 1 ms. `tb`: the slowest bow time in 1/64 ns; `current` and `volts`: what the regulator reads;
`power10`: the package power over 10 ms. -/
def execAvsAdjust (answered : Bool) (tb current volts power10 : Nat) (s : State) : Host.Outcome State Fault Refusal :=
  .next (if !s.awake ∨ s.fixedVdd = true ∨ s.dev.state = .boot then s
    else if ¬ answered then
      let n := min (s.power.noAnswer + 1) 3
      let s1 := s.onPower fun p => { p with noAnswer := n }
      if n = 3 ∧ ¬ s.power.avsStopped then (s1.onPower fun p => { p with avsStopped := true }).monRecord 0x5A 2 [0] (some 0) else s1
    else
      -- adjustment resumes from the value read, and never below the floor of the state (R486, R489; 00 R6)
      let v := if s.power.avsStopped then max volts (vddFloor s.dev.state) else s.power.v
      let tooMuch := decide (s.powerLimit < power10) && decide (v ≤ vddFloor s.dev.state)
      let due := tooMuch && s.power.powerMs == 0
      let s1 := s.onPower fun p =>
        { p with v := s.nextSetpoint v tb power10, current := current, avsRead := volts, noAnswer := 0, avsStopped := false
                 powerMs := if due then 59999 else p.powerMs - 1 }
      if due then s1.monRecord 0x55 1 [0] none else s1)

/-! ### Temperature (R487, R497, R498) -/

/-- The readings of sensors that are not marked failed. -/
def goodReadings (failed : List Nat) (readings : List Int) : List (Int × Nat) := readings.zipIdx.filter fun r => !failed.contains r.2

/-- The hottest of them. -/
def hottest (l : List (Int × Nat)) : Int × Nat := l.foldl (fun a b => if a.1 < b.1 then b else a) (l.headD (-32768, 0))

/-- A compute-die sensor reads more than 10 degrees away from its pair sensor and from the die average. -/
def deviates (readings : List Int) (k : Nat) : Bool :=
  let r := readings.getD k 0
  let pair := readings.getD (k / 2 * 2 + (1 - k % 2)) 0
  let sum := ((readings.drop (k / 16 * 16)).take 16).foldl (· + ·) 0
  decide (k < 64) && decide (160 < (r - pair).natAbs) && decide (2560 < (16 * r - sum).natAbs)

/-- The throttle state (R487). -/
def State.setThrottle (l : List (Int × Nat)) (s : State) : State :=
  let h := hottest l
  if ¬ s.power.throttle ∧ 1888 ≤ h.1 then (s.onPower fun p => { p with throttle := true }).monRecord 0x50 1 [0] (some h.2)
  else if s.power.throttle ∧ h.1 ≤ 1792 then (s.onPower fun p => { p with throttle := false }).monRecord 0x50 0 [0] (some h.2)
  else s

/-- Record 0x54 once for each excursion above 125 degrees. -/
def State.hotRecord (l : List (Int × Nat)) (s : State) : State :=
  let h := hottest l
  if 2000 < h.1 then
    if s.power.hotWarned then s else (s.onPower fun p => { p with hotWarned := true }).monRecord 0x54 2 [0] (some h.2)
  else s.onPower fun p => { p with hotWarned := false }

/-- TEMPERATURE_SAMPLE: the 72 sensors. `deviant`: sensors that have deviated for 1 s; `hot130`: a sensor has read 130 degrees or more
for 1 ms. -/
def execTemperatureSample (readings : List Int) (deviant : List Nat) (hot130 : Bool) (s : State) : Host.Outcome State Fault Refusal :=
  .next (if !s.awake ∨ readings.length ≠ 72 then s
    else
      let s1 := s.onPower fun p => { p with temps := readings }
      let new := deviant.filter fun k => deviates readings k && !s.power.sensorFail.contains k
      let s2 := new.foldl (fun t k => (t.onPower fun p => { p with sensorFail := insertNew k p.sensorFail }).monRecord 0x52 1 [0] (some k)) s1
      let l := goodReadings s2.power.sensorFail readings
      let s3 := (s2.setThrottle l).hotRecord l
      if hot130 ∧ 2080 ≤ (hottest l).1 ∧ ¬ s3.dev.safeCauses.contains 7 ∧ s3.dev.state ≠ .halted then
        (s3.enterSafe 7 0x19 (.pair 0)).monRecord 0x56 3 [9] (some (hottest l).2)
      else s3)

/-- THERMAL_TRIP: the comparator drives THERM_N low until reset; the base die enters SAFE. -/
def execThermalTrip (s : State) : Host.Outcome State Fault Refusal :=
  .next (if !s.awake ∨ s.dev.thermNLow then s
    else ((s.onDev fun d => { d with thermNLow := true }).enterSafe 6 0x19 (.pair 0)).monRecord 0x57 3 [9] none)

/-! ### Links that lose their supply or their reference (R495, R499) -/

/-- The Exham ports and both MACs go DOWN. -/
def State.serdesDown (s : State) : State :=
  let s1 := (List.range 6).foldl (fun t p => match (t.port p).state with
    | .training | .attest | .keyx | .up => t.portDown p 0x32
    | _ => t) s
  (List.range 2).foldl (fun t m =>
    if t.pub.macDown.contains m then t
    else (t.onPub fun p => { p with macDown := p.macDown ++ [m] }).record { kind := 0x28, severity := 2, unit := .mac m }) s1

/-- They come back, unless something else still holds them down. -/
def State.serdesUp (s : State) : State :=
  if s.serdesOff then s
  else
    let s1 := (List.range 6).foldl (fun t p => if (t.port p).state = .down then t.onPort p fun x => { x with state := .training } else t) s
    s1.pub.macDown.foldl (fun t m =>
      (t.onPub fun p => { p with macDown := p.macDown.filter (· != m) }).record { kind := 0x28, severity := 0, unit := .mac m }) s1

/-- REFERENCE_CLOCK_LOSS: the 156.25 MHz reference is lost. -/
def execReferenceClockLoss (s : State) : Host.Outcome State Fault Refusal :=
  .next (if !s.awake ∨ s.power.refLost then s
    else ((s.onPower fun p => { p with refLost := true }).serdesDown).monRecord 0x59 2 [0] none)

/-- REFERENCE_CLOCK_RETURN: it returns, and the ports retrain. -/
def execReferenceClockReturn (s : State) : Host.Outcome State Fault Refusal :=
  .next (if s.power.refLost then ((s.onPower fun p => { p with refLost := false }).serdesUp).monRecord 0x59 0 [0] none else s)

/-! ### Rails (R484, R485, R492, R499) -/

/-- The rails in the order of B000.02, each as setpoint and static tolerance in mV (Table 17-1); that of VDD_CE is v. -/
def railRanges (v : Nat) : List (Nat × Nat) :=
  [(v, 10), (800, 16), (1000, 10), (2200, 44), (900, 18), (900, 18), (1200, 24), (1050, 21), (500, 10), (1800, 54)]

/-- Fault levels, below and above, in mV (Table 17-5); VPP_W is out of range from 2.35 V on. -/
def railLevels : List (Nat × Nat) :=
  [(620, 880), (752, 848), (940, 1060), (2050, 2349), (810, 990), (846, 954), (1128, 1272), (987, 1113), (470, 530), (1620, 1980)]

/-- The rails beyond a level: entries 0 to 9, 10 VPP_W above 2.45 V, 11 VDD_BD below 0.81 V. -/
def railsBeyond (mv : List Nat) : List Nat :=
  ((railLevels.zip mv).zipIdx.filter fun e => decide (e.1.2 < e.1.1.1) || decide (e.1.1.2 < e.1.2)).map (·.2) ++
    (if 2450 < mv.getD 3 0 then [10] else []) ++ (if mv.getD 4 0 < 810 then [11] else [])

/-- Every rail is within its range. -/
def railsInRange (v : Nat) (mv : List Nat) : Bool :=
  ((railRanges v).zip mv).all fun e => decide (e.1.1 ≤ e.2 + e.1.2) && decide (e.2 ≤ e.1.1 + e.1.2)

/-- VPP_W is lost or returns (R485): loops that run are void, and those that wait are admitted again. -/
def State.vppChange (lost : Bool) (s : State) : State :=
  if s.capo.vppBad = lost then s
  else if lost then
    ((s.onCapo fun c => { c with vppBad := true }).onPlanes fun t =>
      t.map fun e => if e.2.running ≠ 0 then (e.1, { e.2 with voided := true }) else e).monRecord 0x53 1 [0] (some 3)
  else
    let s1 := (s.onCapo fun c => { c with vppBad := false }).monRecord 0x53 0 [0] (some 3)
    admitLoops s1.capo.vppQueue.length s1

/-- SAFE follows a new fault of this rail in READY, SERVING or DEGRADED. -/
def railSafe (r : Nat) : Bool := r != 3 && r != 5 && r != 6 && r != 11

/-- The reaction to a rail whose fault is new. -/
def State.railReact (s : State) (r : Nat) : State :=
  let entry := if r = 10 then 3 else r
  if s.dev.state = .boot ∨ s.dev.state = .selftest then
    if r = 3 then s
    else (s.onDev fun d => { d with state := .boot, bootStuck := true }).monRecord 0x51 1 [0] (some entry)
  else if railSafe r then
    let into := s.dev.state == .ready || s.dev.state == .serving || s.dev.state == .degraded
    (s.enterSafe 8 0x19 (.pair 0)).monRecord 0x51 (if into then 3 else 1) (if into then [9] else [0]) (some entry)
  else if r = 3 then s.monRecord 0x51 1 [0] (some 3)
  else s.serdesDown.monRecord 0x51 1 [0] (some entry)

/-- RAIL_SAMPLE: the ten rails, in mV. A level that is passed in two consecutive samples is a fault; VDD_BD below 0.81 V holds the device
in reset. -/
def execRailSample (millivolts : List Nat) (s : State) : Host.Outcome State Fault Refusal :=
  .next (if !s.awake ∨ millivolts.length ≠ 10 then s
    else
      let bad := railsBeyond millivolts
      let fault := bad.filter fun r => s.power.railBad.contains r || s.power.railFault.contains r
      if fault.contains 11 then s.cold
      else
        let new := fault.filter fun r => !s.power.railFault.contains r
        let s1 := s.onPower fun p =>
          { p with rails := millivolts, railBad := bad, railFault := fault
                   railGood := if railsInRange p.v millivolts then min (p.railGood + 1) 10000 else 0 }
        let s2 := new.foldl State.railReact s1
        let s3 := s2.vppChange (fault.contains 3)
        if (s.power.railFault.contains 5 || s.power.railFault.contains 6) && !(fault.contains 5 || fault.contains 6) then s3.serdesUp else s3)

/-! ### Clocks (01 R29; 17 R495) -/

/-- The domains in the order of Table 01-4, numbered from 0 to 377. -/
def domainNumber : Domain → Nat
  | .core n => n
  | .shared c => 256 + c
  | .array c => 288 + c
  | .link d r => 320 + 2 * d + r
  | .dieMonitor d => 328 + d
  | .diePower d => 332 + d
  | .pair n => 336 + n
  | .intake n => 340 + n
  | .security => 356
  | .monitors => 357
  | .scene => 358
  | .hub => 359
  | .mac n => 360 + n
  | .exham n => 362 + n
  | .ddr n => 368 + n
  | .can => 376
  | .xspi => 377

/-- The one source of a domain's clock (Table 01-4). -/
def domainSource : Domain → ClockSource
  | .mac _ | .exham _ => .referencePll
  | .ddr _ | .can | .xspi => .crystalPll
  | _ => .oscillator

/-- The domain is powered: those of an inactive cluster are not (R20, R26). -/
def State.domainActive (s : State) : Domain → Bool
  | .core n => s.coreActive n
  | .shared c | .array c => s.clusterActive c
  | d => domainWf d

/-- The domain counts at a token: it is powered, and its clock runs (a PLL of the 156.25 MHz reference stops with it, R495, log 89). -/
def State.domainCounts (s : State) (d : Domain) : Bool := s.domainActive d && !(domainSource d == .referencePll && s.power.refLost)

/-- A domain takes its count of clock cycles since the last token; a core's stands beside its registers too. -/
def State.calibrate (d : Domain) (n : Nat) (s : State) : State :=
  let s1 := s.onPower fun p => { p with cals := tput0 0 (domainNumber d) (n % 2 ^ 24) p.cals }
  match d with
  | .core c => s1.onCore c fun x => { x with cal := n % 2 ^ 24 }
  | _ => s1

/-- CALIBRATION_TOKEN: every active domain takes its count of cycles since the last token. `deviates`: the crystal is off by more than
1,000 ppm; `running`: it still runs. -/
def execCalibrationToken (counts : List (Domain × Nat)) (deviates running : Bool) (s : State) : Host.Outcome State Fault Refusal :=
  .next (if !s.awake then s
    else
      let n := if deviates then min (s.power.crystalBad + 1) 10 else 0
      let failed := !running || n == 10
      let was := s.power.crystalBad == 10
      -- on a failed crystal the timers keep their last calibration
      let s1 := if failed then s
        else (counts.filter fun c => s.domainCounts c.1).foldl (fun t c => t.calibrate c.1 c.2) s
      let s2 := s1.onPower fun p => { p with crystalBad := if failed then 10 else n }
      if failed ∧ ¬ was then (s2.enterSafe 6 0x19 (.pair 0)).monRecord 0x58 3 [9] none else s2)

/-! ### Coolant (R496) -/

/-- A write of B020.01. -/
def coolantWrite (value : Int) (s : State) : Reply :=
  if value < -640 ∨ 1360 < value then .deny stRange s else .ok (s.onPower fun p => { p with inlet := some value })

/-- COOLANT_REPORT_EXPIRY: no report for 10 s; the inlet is taken as 65 degrees. -/
def execCoolantReportExpiry (s : State) : Host.Outcome State Fault Refusal := .next (s.onPower fun p => { p with inlet := none })

/-! ### Pins and control pairs (R493; 01 R21; 10 R308, R309) -/

/-- PFAIL_LOW: PFAIL_N has been low for 2 µs. -/
def execPfailLow (s : State) : Host.Outcome State Fault Refusal := .next (s.onDev fun d => { d with pfailLow := true })

/-- PFAIL_HIGH: it returns high, and what waited goes on. -/
def execPfailHigh (s : State) : Host.Outcome State Fault Refusal :=
  .next (if ¬ s.dev.pfailLow then s
    else
      let s1 := s.onDev fun d => { d with pfailLow := false }
      if !s.awake then s1
      else
        let s2 := (s1.monRecord 0x5B 0 [0] none).nextPage
        admitLoops s2.capo.vppQueue.length s2)

/-- SAFE_N_LOW: SAFE_N has been low for at least 2 µs. `held`: it still is. -/
def execSafeNLow (held : Bool) (s : State) : Host.Outcome State Fault Refusal :=
  let s1 := s.onDev fun d => { d with safeNLow := held }
  .next (if !s.awake then s1
    else if s.dev.state = .safe then (if s.dev.safeNLow then s1 else s1.enterSafe 1 0x19 (.pair 0))
    else s1.enterSafe 1 0x19 (.pair 0))

/-- LOCKSTEP_MISMATCH: the outputs of a control pair disagree. -/
def execLockstepMismatch (pair : Nat) (s : State) : Host.Outcome State Fault Refusal :=
  if pair < 4 then
    .next (if !s.awake ∨ s.dev.pairHalted.contains pair then s
      else
        let s1 := (s.onDev fun d => { d with pairHalted := d.pairHalted ++ [pair] }).enterSafe 2 0x1A (.pair pair)
        if s.dev.state = .ready ∨ s.dev.state = .serving ∨ s.dev.state = .degraded then s1
        else s1.record { kind := 0x1A, severity := 3, unit := .pair pair, reactions := [9] })
  else .fault .noSuchUnit

/-! ### The rolling scan of the DRAM copies (04 R122) -/

/-- DRAM_COPY_SCAN: the digests of both copies of a segment or tab image have been recomputed. `segment`: side * 8192 + entry number. A
copy that failed is rewritten from the one that is confirmed. -/
def execDramCopyScan (segment : Nat) (ok0 ok1 : Bool) (s : State) : Host.Outcome State Fault Refusal :=
  let side := segment / 8192
  let n := segment % 8192
  .next (match s.entryAt side n with
    | some x =>
      if s.frozen = true ∨ 1 < side ∨ ¬ (x.2.kind = 2 ∨ x.2.kind = 3) ∨ ¬ x.2.verified then s
      else
        let tab := x.2.unit % 256 * 2 + side
        if ok0 ∨ ok1 then
          -- a failed copy is rewritten from the confirmed one
          if x.2.kind = 2 then s.rewriteCopy segment x.2.target x.2.length (if ok0 then 1 else 0)
          else s.onMem fun m => { m with tabBad := m.tabBad.filter fun e => !(e.1 == tab && e.2 != 0) }
        else
          let s1 := s.onMem fun m =>
            if x.2.kind = 2 then { m with slowBad := (m.slowBad.filter fun e => e.1 != segment) ++ [(segment, 0), (segment, 1)] }
            else { m with tabBad := (m.tabBad.filter fun e => !(e.1 == tab && e.2 != 0)) ++ [(tab, 1), (tab, 2)] }
          if side = s.capo.side ∨ s.capo.state = .committed ∨ s.capo.state = .releasing then s1.fetchAgain side n
          else if s.capo.state.stages then (s1.onEntry n fun e => e.fresh).askFor n
          else s1
    | none => s)

end Sys2Proof.Machine
end

