-- ==== Sys2Proof/Machine/Objects.lean ====
section
/-!
DEFINITION. The object table: type, access and length of every object, the ranges and defaults of the settings, and what a read of
each object returns (13_malrov_dictionary.md R385 to R387, R407, R408, and the object tables of the other chapters).
-/

namespace Sys2Proof.Machine

/-- What the dictionary says of an object. `acc`: 0 RO, 1 RW, 2 WO. `len`: none for a domain. `entry`: bytes of an array's entry, 0 when
the value is captured whole. `kept`: held in the keep store or another non-volatile memory. -/
structure Obj where
  key : Nat
  type : Nat
  acc : Nat
  len : Option Nat
  entry : Nat := 0
  kept : Bool := false
  deriving DecidableEq, Repr

/-! ### Settings (R385, R387) -/

/-- A setting that is a number: its type, whether it is kept, default and range. -/
structure NumSet where
  key : Nat
  type : Nat
  kept : Bool
  dflt : Nat
  lo : Nat
  hi : Nat
  deriving DecidableEq, Repr

/-- Bytes of a number of a type (Table 13-1). -/
def typeLen (t : Nat) : Nat := if t = 1 ∨ t = 6 then 1 else if t = 2 ∨ t = 7 then 2 else if t = 3 ∨ t = 8 then 4 else if t = 4 then 6 else 8

def settings1 : List NumSet :=
  [⟨0x110001, 1, true, 3, 0, 3⟩, ⟨0x110002, 1, true, 2, 1, 8⟩, ⟨0x110003, 3, true, 0x700, 0, 0x3FFFFFFF⟩,
   ⟨0x110004, 3, true, 0x740, 0, 0x3FFFFFFF⟩, ⟨0x110005, 2, true, 49232, 0, 65535⟩, ⟨0x110008, 2, true, 0xFFFF, 0, 0xFFFF⟩,
   ⟨0x110009, 2, true, 60, 10, 3600⟩, ⟨0x200003, 1, true, 1, 0, 1⟩, ⟨0x220001, 4, false, 0, 0, ord48⟩,
   ⟨0x220006, 2, false, 0, 0, 65535⟩, ⟨0x221005, 3, true, 0, 0, 0xFFFFFFFF⟩, ⟨0x223001, 2, true, 64, 1, 65535⟩,
   ⟨0x223002, 2, true, 1024, 1, 65535⟩, ⟨0x223004, 1, true, 1, 0, 1⟩]

def settings2 : List NumSet :=
  [⟨0x300002, 3, true, 4000, 100, 100000⟩, ⟨0x300003, 3, true, 17000, 1000, 1000000⟩, ⟨0x300004, 1, true, 0, 0, 1⟩,
   ⟨0x300005, 3, true, 0, 0, 0xFFFFFFFF⟩, ⟨0x300006, 1, true, 0, 0, 1⟩, ⟨0x300007, 3, true, 16667, 1000, 1000000⟩,
   ⟨0x300008, 2, true, 100, 10, 10000⟩, ⟨0x300009, 4, true, 0, 0, ord48⟩, ⟨0x310002, 2, true, 1024, 1024, 7936⟩,
   ⟨0x320001, 1, true, 2, 0, 2⟩, ⟨0x320002, 3, true, 0x340, 0, 0xFFFFFFFF⟩, ⟨0x320003, 2, true, 49231, 0, 65535⟩,
   ⟨0x320004, 3, true, 4000, 100, 65535⟩, ⟨0x320005, 1, true, 1, 0, 1⟩, ⟨0x320007, 2, true, 0, 0, 1024⟩,
   ⟨0x320008, 1, true, 0, 0, 1⟩, ⟨0x320009, 1, true, 4, 1, 4⟩]

def settings3 : List NumSet :=
  [⟨0x500001, 1, true, 2, 0, 4⟩, ⟨0x500002, 1, true, 0, 0, 1⟩, ⟨0x500003, 2, true, 64, 1, 65535⟩, ⟨0x500004, 1, true, 0, 0, 1⟩,
   ⟨0x500007, 4, false, 0, 0, ord48⟩, ⟨0x510003, 2, false, 0, 0, 65535⟩, ⟨0x511001, 1, true, 1, 0, 1⟩,
   ⟨0x511003, 2, true, 49230, 0, 65535⟩, ⟨0x511004, 1, true, 0, 0, 3⟩, ⟨0x511005, 1, true, 2, 0, 2⟩,
   ⟨0x710001, 2, true, 50, 5, 10000⟩, ⟨0x710003, 1, true, 3, 1, 5⟩, ⟨0x800001, 1, true, 6, 2, 20⟩,
   ⟨0x800002, 3, true, 4096, 1, 0xFFFFFFFF⟩, ⟨0x800003, 2, true, 4, 1, 65535⟩, ⟨0x800004, 2, true, 1024, 64, 65535⟩]

def settings4 : List NumSet :=
  [⟨0x905003, 3, true, 64, 0, 65536⟩, ⟨0xA00001, 1, true, 0, 0, 23⟩, ⟨0xA00005, 2, true, 1000, 100, 60000⟩,
   ⟨0xA00006, 2, true, 10000, 1000, 40000⟩, ⟨0xA01001, 2, true, 20, 5, 40⟩, ⟨0xA01002, 2, true, 1000, 200, 10000⟩,
   ⟨0xA01003, 1, true, 1, 0, 1⟩, ⟨0xB01001, 2, true, 1024, 1024, 1536⟩, ⟨0xB01002, 1, true, 110, 40, 110⟩]

/-- The settings that are numbers. -/
def numSettings : List NumSet := settings1 ++ settings2 ++ settings3 ++ settings4

/-- A setting that is a byte string: a record, an array or a key. -/
structure ByteSet where
  key : Nat
  type : Nat
  acc : Nat
  kept : Bool
  entry : Nat
  dflt : Bytes
  deriving DecidableEq, Repr

/-- The default of a destination record: zeros, and VLAN 0xFFFF (11_cameras_results_scene.md R334). -/
def destDefault : Bytes := zeros 18 ++ [0xFF#8, 0xFF#8] ++ zeros 2

/-- Bytes of an import stream's configuration record (R325; log 16). -/
def importCfgLen : Nat := 34

/-- The settings that are byte strings, with 16 bytes for each active cluster in 7010.01. -/
def byteSettings (clusters : Nat) : List ByteSet :=
  [⟨0x110006, 0xA, 1, true, 0, zeros 9⟩, ⟨0x110007, 0xA, 1, true, 0, zeros 33⟩, ⟨0x303001, 0xB, 1, true, 1, zeros 16⟩,
   ⟨0x310001, 0xB, 1, true, 22, (List.replicate 16 destDefault).flatten⟩, ⟨0x310003, 0xA, 1, true, 0, destDefault⟩,
   ⟨0x320006, 9, 2, true, 0, zeros 32⟩, ⟨0x32000A, 0xA, 1, true, 0, destDefault⟩, ⟨0x511002, 0xA, 1, true, 0, zeros 16⟩,
   ⟨0x701001, 0xB, 1, false, 1, zeros (16 * clusters)⟩, ⟨0x710002, 0xA, 1, true, 0, [1#8, 1#8, 0#8, 7#8]⟩,
   ⟨0x905001, 0xB, 1, true, 1, zeros 2⟩] ++
  ((List.range 32).map fun k => ⟨(0x3010 + k) * 256 + 1, 0xA, 1, true, 0, zeros 64⟩) ++
  (List.range 8).flatMap fun k =>
    [⟨(0x3060 + k) * 256 + 1, 0xA, 1, true, 0, zeros importCfgLen⟩, ⟨(0x3060 + k) * 256 + 2, 9, 2, true, 0, zeros 32⟩]

/-- The setting of a key that is a number. -/
def numSetting? (key : Nat) : Option NumSet := numSettings.find? fun e => e.key == key

/-- The setting of a key that is a byte string. -/
def State.byteSetting? (s : State) (key : Nat) : Option ByteSet := (byteSettings s.activeClusters.length).find? fun e => e.key == key

/-- A destination record that may be written (Table 11-8): without an address its other fields are ignored, and so is the priority of
an untagged one. -/
def destOk (b : Bytes) : Bool :=
  (slice b 0 16).all (· == 0#8) ||
    ((num b 0x12 2 == 0xFFFF || (num b 0x12 2 < 4096 && num b 0x14 1 ≤ 7)) && num b 0x15 1 ≤ 2)

/-- An import stream's record that may be written: all zeros, or a floating source, an integer target, a count, and M, SHIFT and ZP inside
the ranges of a bridge descriptor (R325; 03_integer_pipeline.md R103; log 16). -/
def importCfgOk (b : Bytes) : Bool :=
  b.all (· == 0#8) ||
  (let c := parseImportCfg b
   match outFmt c.target with
   | some f =>
     8 ≤ c.srcfmt && c.srcfmt ≤ 11 && c.target ≤ 5 && 1 ≤ c.count && c.count ≤ 1048576 && 1 ≤ c.mant && c.mant < 2 ^ 24 &&
       decide (-8 ≤ c.shift) && decide (c.shift ≤ 71) && decide (fmtLo f ≤ c.zp) && decide (c.zp ≤ fmtHi f)
   | none => false)

/-- The codes and fields of a byte string that is written. -/
def bytesOk (key : Nat) (b : Bytes) : Bool :=
  let at_ (i : Nat) : Nat := (b.getD i 0#8).toNat
  match key with
  | 0x110006 => at_ 4 ≤ 32
  | 0x110007 => at_ 16 ≤ 128
  | 0x303001 => b.all fun x => x == 0#8 || x == 1#8 || x == 2#8 || x == 4#8
  | 0x310001 => (List.range 16).all fun k => destOk (slice b (22 * k) 22)
  | 0x310003 | 0x32000A => destOk b
  | 0x701001 => b.all fun x => x.toNat ≤ 0x50
  | 0x710002 => 1 ≤ at_ 0 && at_ 0 ≤ 4 && at_ 1 ≤ 1 && at_ 2 ≤ 1 && at_ 3 ≤ 7
  | 0x905001 => b.all fun x => x.toNat ≤ 1
  | _ =>
    if 0x3010 ≤ key / 256 ∧ key / 256 ≤ 0x302F then streamCfgOk b
    else if 0x3060 ≤ key / 256 ∧ key / 256 ≤ 0x3067 ∧ key % 256 = 1 then importCfgOk b
    else true

/-- The longest planned time of a step of the loaded programme, in quarters of a nanosecond (16_observation.md R478). -/
def State.longestStep (s : State) : Nat :=
  ((s.tabsOf s.capo.side).flatMap fun e => e.2.steps.map fun w => s.plannedTime e.1 e.2 w).foldl max 0

/-- The encodings and conditions of a number beside its range (Table 13-11, R478, R206, R334, R345; 17 R486). -/
def State.numOk (s : State) (key v : Nat) : Bool :=
  match key with
  | 0x110002 => [1, 2, 4, 5, 8].contains v
  | 0x110003 | 0x110004 => bit v 29 || v < 2048
  | 0x110008 => v < 4096 || v == 0xFFFF
  | 0x220006 => v == 0 || 4 ≤ v
  | 0x221005 => s.setting 0x2210 5 0 ≤ v
  | 0x310002 => v == 1024 || v == 7936
  | 0x320009 => [1, 2, 4].contains v
  | 0x710001 => s.longestStep ≤ v * 1000000 && (!s.inGroup || s.setting 0xA010 1 20 + 10 ≤ v)
  | 0xA01001 => !s.inGroup || v + 10 ≤ s.setting 0x7100 1 50
  | 0xB01001 => v % 16 == 0
  | _ => true

/-! ### Objects that are not settings -/

def objsIdentity : List Obj :=
  [⟨0x100001, 3, 0, some 4, 0, false⟩, ⟨0x100002, 1, 0, some 1, 0, false⟩, ⟨0x100003, 1, 0, some 1, 0, false⟩,
   ⟨0x100004, 9, 0, some 16, 0, false⟩, ⟨0x100005, 3, 0, some 4, 0, false⟩, ⟨0x100006, 5, 0, some 8, 0, false⟩,
   ⟨0x100007, 3, 0, some 4, 0, true⟩, ⟨0x100008, 9, 0, some 16, 0, false⟩, ⟨0x100009, 2, 0, some 2, 0, false⟩,
   ⟨0x101001, 3, 0, some 4, 0, false⟩, ⟨0x11000A, 0xB, 0, some 96, 8, false⟩, ⟨0x11001A, 0xB, 0, some 96, 8, false⟩]

def objsState : List Obj :=
  [⟨0x200001, 1, 0, some 1, 0, false⟩, ⟨0x200002, 1, 2, some 1, 0, false⟩, ⟨0x200004, 1, 0, some 1, 0, false⟩,
   ⟨0x200005, 1, 0, some 1, 0, false⟩, ⟨0x200006, 4, 0, some 6, 0, false⟩, ⟨0x200007, 3, 0, some 4, 0, false⟩,
   ⟨0x200008, 1, 0, some 1, 0, false⟩, ⟨0x204001, 0xA, 2, some 16, 0, false⟩, ⟨0x204002, 0xC, 2, none, 0, false⟩,
   ⟨0x210001, 0xB, 0, some 96, 6, false⟩, ⟨0x210002, 0xA, 0, some 8, 0, false⟩, ⟨0x210003, 0xA, 0, some 8, 0, false⟩]

def objsCapo (sites : Nat) : List Obj :=
  [⟨0x220002, 1, 2, some 1, 0, false⟩, ⟨0x220003, 1, 0, some 1, 0, false⟩, ⟨0x220004, 1, 0, some 1, 0, true⟩,
   ⟨0x220005, 1, 0, some 1, 0, false⟩, ⟨0x221001, 0xC, 2, none, 0, false⟩, ⟨0x221002, 0xC, 2, none, 0, false⟩,
   ⟨0x221003, 0xA, 0, some 40, 0, false⟩, ⟨0x221004, 0xA, 0, some 40, 0, true⟩, ⟨0x221006, 3, 0, some 4, 0, false⟩,
   ⟨0x222002, 3, 0, some 4, 0, false⟩, ⟨0x223003, 0xB, 0, some (32 * sites), 16, true⟩]

def objsIntake : List Obj :=
  [⟨0x30000A, 1, 2, some 1, 0, false⟩, ⟨0x30000B, 1, 0, some 1, 0, false⟩, ⟨0x304001, 0xB, 0, some 32, 1, false⟩,
   ⟨0x305001, 0xC, 2, none, 0, false⟩, ⟨0x312001, 0xB, 0, some 2560, 40, false⟩, ⟨0x314001, 0xC, 0, none, 0, false⟩,
   ⟨0x314002, 0xC, 0, none, 0, false⟩]

/-- An array of 64-bit counters and its companion at subindex + 0x10 (16_observation.md R465). -/
def counterObjs (key entries : Nat) : List Obj := [⟨key, 0xB, 0, some (8 * entries), 8, false⟩, ⟨key + 0x10, 0xB, 0, some (8 * entries), 8, false⟩]

def objsHealth (sites cores clusters : Nat) : List Obj :=
  ((List.range 8).flatMap fun k => counterObjs (0x440001 + k) sites ++ counterObjs (0x450001 + k) cores) ++
  [⟨0x441001, 0xB, 0, some sites, 1, false⟩, ⟨0x442001, 0xB, 0, some sites, 1, false⟩, ⟨0x442002, 0xB, 0, some (8 * sites), 8, false⟩,
   ⟨0x443001, 0xB, 0, some (4 * cores), 1, false⟩, ⟨0x452001, 0xB, 0, some cores, 1, false⟩,
   ⟨0x460001, 0xB, 0, some clusters, 1, false⟩, ⟨0x460002, 0xB, 0, some clusters, 1, false⟩]

def objsFaults : List Obj :=
  [⟨0x500005, 1, 0, some 1, 0, false⟩, ⟨0x500006, 1, 0, some 1, 0, false⟩, ⟨0x500008, 1, 2, some 1, 0, false⟩,
   ⟨0x500009, 1, 0, some 1, 0, false⟩, ⟨0x510001, 3, 0, some 4, 0, false⟩, ⟨0x510002, 0xC, 0, none, 0, false⟩,
   ⟨0x510004, 0xC, 0, none, 0, true⟩, ⟨0x510005, 2, 0, some 2, 0, true⟩, ⟨0x510006, 3, 0, some 4, 0, false⟩,
   ⟨0x510007, 3, 2, some 4, 0, false⟩]

def objsKeep : List Obj :=
  [⟨0x600001, 0xA, 0, some 32, 0, false⟩, ⟨0x600002, 0xC, 0, none, 0, true⟩, ⟨0x610001, 0xC, 1, none, 0, true⟩,
   ⟨0x610002, 1, 1, some 1, 0, true⟩, ⟨0x610003, 2, 0, some 2, 0, true⟩, ⟨0x610004, 0xA, 2, some 68, 0, false⟩,
   ⟨0x610005, 0xB, 0, some 4096, 4, true⟩]

def objsObserve (traceLen cores clusters sites : Nat) : List Obj :=
  [⟨0x700001, 2, 2, some 2, 0, false⟩, ⟨0x700002, 0xA, 0, some 11, 0, false⟩, ⟨0x701002, 0xB, 0, some (16 * clusters), 1, false⟩] ++
  counterObjs 0x702001 (16 * clusters) ++ [⟨0x703001, 0xB, 0, some 32768, 32, false⟩] ++ counterObjs 0x703101 1 ++
  counterObjs 0x703102 1 ++
  [⟨0x710004, 0xA, 1, some 24, 0, false⟩, ⟨0x710005, 0xC, 0, none, 0, false⟩,
   ⟨0x710006, 0xB, 0, some (2048 * (cores + 4)), 32, false⟩, ⟨0x710007, 0xC, 0, none, 0, false⟩, ⟨0x710008, 1, 0, some 1, 0, false⟩,
   ⟨0x710009, 0xA, 0, some 25, 0, false⟩, ⟨0x71000A, 0xA, 1, some 11, 0, false⟩, ⟨0x71000B, 0xC, 0, none, 0, false⟩,
   ⟨0x71000C, 1, 2, some 1, 0, false⟩, ⟨0x71000D, 0xB, 0, some traceLen, 32, false⟩,
   ⟨0x801001, 0xB, 0, some sites, 1, false⟩, ⟨0x801002, 0xB, 0, some 4096, 16, false⟩]

def objsSecurity : List Obj :=
  [⟨0x900001, 0xC, 0, none, 0, false⟩, ⟨0x900002, 5, 0, some 8, 0, true⟩, ⟨0x900003, 0xA, 0, some 4, 0, false⟩,
   ⟨0x901001, 0xB, 1, some 16384, 2048, true⟩, ⟨0x902001, 0xC, 2, none, 0, false⟩, ⟨0x902002, 0xC, 0, none, 0, false⟩,
   ⟨0x902003, 0xC, 2, none, 0, false⟩, ⟨0x902004, 1, 2, some 1, 0, false⟩, ⟨0x902005, 0xB, 0, some 4, 1, false⟩,
   ⟨0x903001, 0xC, 2, none, 0, true⟩, ⟨0x903002, 1, 2, some 1, 0, false⟩, ⟨0x903003, 0xB, 0, some 26, 13, true⟩,
   ⟨0x904001, 0xB, 1, some 16384, 2048, true⟩, ⟨0x905002, 0xB, 2, some (2 * macsecEntry), macsecEntry, true⟩] ++
  counterObjs 0x905004 6 ++ [⟨0x906001, 0xC, 2, none, 0, true⟩]

def objsGroup : List Obj :=
  [⟨0xA00002, 3, 0, some 4, 0, false⟩, ⟨0xA00003, 0xB, 0, some 6, 1, false⟩, ⟨0xA00004, 1, 2, some 1, 0, false⟩,
   ⟨0xA01004, 3, 0, some 4, 0, false⟩, ⟨0xA01005, 1, 0, some 1, 0, false⟩, ⟨0xA01006, 0xB, 0, some 24, 1, false⟩] ++
  (List.range 8).flatMap fun k => counterObjs (0xA02001 + k) 6

def objsPower : List Obj :=
  [⟨0xB00001, 0xB, 0, some 144, 2, false⟩, ⟨0xB00002, 0xB, 0, some 20, 2, false⟩, ⟨0xB00003, 2, 0, some 2, 0, false⟩,
   ⟨0xB00004, 0xB, 0, some 72, 1, false⟩, ⟨0xB00005, 1, 0, some 1, 0, false⟩, ⟨0xB00006, 2, 0, some 2, 0, false⟩,
   ⟨0xB01003, 1, 0, some 1, 0, false⟩, ⟨0xB02001, 7, 1, some 2, 0, false⟩, ⟨0xB02002, 1, 0, some 1, 0, false⟩]

/-- Every object of the device but the subindices 0x00. -/
def State.objects (s : State) : List Obj :=
  let sites := s.activeSites.length
  let cores := s.activeCores.length
  let clusters := s.activeClusters.length
  (numSettings.map fun e => ⟨e.key, e.type, 1, some (typeLen e.type), 0, e.kept⟩) ++
  ((byteSettings clusters).map fun e => ⟨e.key, e.type, e.acc, some e.dflt.length, e.entry, e.kept⟩) ++
  objsIdentity ++ objsState ++ objsCapo sites ++ objsIntake ++ objsHealth sites cores clusters ++ objsFaults ++ objsKeep ++
  objsObserve (32 * s.traceCapacity) cores clusters sites ++ objsSecurity ++ objsGroup ++ objsPower

/-- Status of a name that is no object: NO OBJECT or NO SUBINDEX. -/
def State.noObject (s : State) (idx : Nat) : Nat := if s.objects.any fun o => o.key / 256 == idx then stNoSub else stNoObject

/-- The object of an index and subindex; subindex 0x00 holds the highest subindex in use (R385). -/
def State.obj? (s : State) (idx sub : Nat) : Option Obj :=
  if sub = 0 then (if s.objects.any fun o => o.key / 256 == idx then some ⟨idx * 256, 1, 0, some 1, 0, false⟩ else none)
  else if sub < 256 then s.objects.find? fun o => o.key == idx * 256 + sub else none

/-- The highest subindex in use at an index. -/
def State.highestSub (s : State) (idx : Nat) : Nat := ((s.objects.filter fun o => o.key / 256 == idx).map fun o => o.key % 256).foldl max 0

/-! ### What a read returns -/

/-- The entries of counters, with their values or with their companions. -/
def ctrBytes (comp : Bool) (t : Tbl Ctr) (keys : List Nat) : Bytes :=
  keys.flatMap fun k => leBytes 8 (if comp then (tget0 {} t k).companion else (tget0 {} t k).entry)

def readIdentity (s : State) (key : Nat) : Option Bytes :=
  match key with
  | 0x100001 => some (leBytes 4 0x4C4D0400)
  | 0x100002 => some (leBytes 1 s.gradeCode)
  | 0x100003 => some (leBytes 1 s.dev.stepping)
  | 0x100004 => some (padTo 16 s.dev.serial)
  | 0x100005 => some (leBytes 4 s.dev.fwver)
  | 0x100006 => some (leBytes 8 s.dev.secver)
  | 0x100007 => some (leBytes 4 s.dev.bootCount)
  | 0x100008 => some (padTo 16 s.dev.ordering)
  | 0x100009 => some (leBytes 2 1)
  | 0x101001 => some (leBytes 4 s.dev.clusterMask)
  | 0x11000A => some (ctrBytes false s.obs.proto (List.range 12))
  | 0x11001A => some (ctrBytes true s.obs.proto (List.range 12))
  | _ => none

/-- One entry of the run table of the selected programme: consumed streams, import streams, SCENE and whether it publishes. -/
def State.runEntry (s : State) (r : Nat) : Bytes :=
  let steps := (s.tabsOf s.capo.side).flatMap fun e => e.2.steps.filter fun w => stepRun w == r
  leBytes 4 (maskOf 32 (s.runStreams s.capo.side r)) ++ leBytes 1 (maskOf 8 (s.runImports s.capo.side r)) ++
    leBytes 1 ((steps.any fun w => stepKind w == 9).toNat + 2 * (steps.any fun w => stepKind w == 12 && sfld w 4 17 16 == 2).toNat)

def readState (s : State) (key : Nat) : Option Bytes :=
  match key with
  | 0x200001 => some (leBytes 1 s.dev.state.code)
  | 0x200004 => some (leBytes 1 (safeCauseShown s.dev.safeCauses))
  | 0x200005 => some (leBytes 1 s.dev.batchOpening.toNat)
  | 0x200006 => some (leBytes 6 (s.dev.bOpen.getD 0))
  | 0x200007 => some (leBytes 4 s.dev.modeEpoch)
  | 0x200008 => some (leBytes 1 s.dev.lastOutcome)
  | 0x210001 => some (if s.noProgramme then zeros 96 else (List.range 16).flatMap s.runEntry)
  | 0x210002 => some (leBytes 2 s.dict.rejection.rule ++ leBytes 2 s.dict.rejection.core ++ leBytes 4 s.dict.rejection.stepno)
  | 0x210003 => some (leBytes 4 s.dramLines ++ leBytes 4 Config.windowLines)
  | _ => none

/-- An image identity: PROGID, IMGSEQ and the manifest digest; zeros for none. -/
def imageBytes : Option Image → Bytes
  | some i => leBytes 4 i.progid ++ leBytes 4 i.imgseq ++ padTo 32 i.digest
  | none => zeros 40

/-- 2210.06: entries verified until all are, then planes sealed (log 45). -/
def State.progress (s : State) : Nat :=
  match s.capo.staged with
  | none => 0
  | some i =>
    let n := (i.entries.filter (·.verified)).length
    if n < i.entries.length then n else (s.stagedShards.filter fun e => s.shardSealed e.1 e.2.1 e.2.2).length

def readCapo (s : State) (key : Nat) : Option Bytes :=
  match key with
  | 0x220003 => some (leBytes 1 s.capo.state.code)
  | 0x220004 => some (leBytes 1 s.capo.side)
  | 0x220005 => some (leBytes 1 s.capo.outcome)
  | 0x221003 => some (imageBytes s.capo.staged)
  | 0x221004 => some (imageBytes s.capo.selected)
  | 0x221006 => some (leBytes 4 s.progress)
  | 0x222002 => some (leBytes 4 (min s.capo.incomplete 0xFFFFFFFF))
  | 0x223003 => some (s.activeSites.flatMap fun n => (s.plane (2 * n)).wearBytes ++ (s.plane (2 * n + 1)).wearBytes)
  | _ => none

def readIntake (s : State) (key : Nat) : Option Bytes :=
  match key with
  | 0x30000B => some (leBytes 1 s.walk.intake.state)
  | 0x304001 => some ((List.range 32).flatMap fun k =>
      leBytes 1 (if !cfgEn (cfgStream s.walk.intakeCfg k) then 0 else if s.walk.lost.contains k then 2 else 1))
  | 0x312001 => some (padTo 2560 (s.pub.retractLog.flatMap fun e => leBytes 6 e.1 ++ leBytes 1 e.2.1 ++ [0#8] ++ padTo 32 e.2.2))
  | 0x314001 => some s.pub.ledger
  | 0x314002 => some s.pub.sealList.flatten
  | _ => none

def readHealth (s : State) (key : Nat) : Option Bytes :=
  let sub := key % 256
  let k := sub % 16 - 1
  if key / 256 = 0x4400 then some (ctrBytes (16 < sub) s.obs.engine (s.activeSites.map fun n => n * 8 + k))
  else if key / 256 = 0x4500 then some (ctrBytes (16 < sub) s.obs.core (s.activeCores.map fun n => n * 8 + k))
  else match key with
  | 0x441001 => some (s.activeSites.flatMap fun n => leBytes 1 (s.site n).state.code)
  | 0x442001 => some (s.activeSites.flatMap fun n => leBytes 1 (checkByte (s.dev.bOpen.getD 0) (s.site n).check (s.siteFullDup n)))
  | 0x442002 => some (s.activeSites.flatMap fun n => leBytes 8 (match (s.site n).check.lastPass with
      | some b => b + 2 ^ 48
      | none => 0))
  | 0x443001 => some (s.activeCores.flatMap fun c => (s.core c).subst.flatMap (leBytes 1))
  | 0x452001 => some (s.activeCores.flatMap fun c => leBytes 1 (checkByte (s.dev.bOpen.getD 0) (s.core c).check (s.coreFullDup c)))
  | 0x460001 => some (s.activeClusters.flatMap fun c =>
      leBytes 1 (checkByte (s.dev.bOpen.getD 0) (s.cluster c).arrayCheck (s.arrayFullDup c)))
  | 0x460002 => some (s.activeClusters.flatMap fun c => leBytes 1 (checkByte (s.dev.bOpen.getD 0) (s.cluster c).sharedCheck false))
  | _ => none

def readFaults (s : State) (key : Nat) : Option Bytes :=
  match key with
  | 0x500005 => some (leBytes 1 s.walk.fraction)
  | 0x500006 => some (leBytes 1 s.walk.release)
  | 0x500009 => some (leBytes 1 s.walk.policy.state)
  | 0x510001 => some (leBytes 4 s.faults.seq)
  | 0x510002 => some ((s.faults.recs.head?.map fun r => r.cbor s.group.devno).getD [])
  | 0x510004 => some (s.faults.stored.getD (s.setting 0x5100 3 0) [])
  | 0x510005 => some (leBytes 2 s.faults.stored.length)
  | 0x510006 => some (leBytes 4 s.faults.unacked.length)
  | _ => none

/-- 6000.01 (15_keep_store.md Table 15-14); the recovery time is a free value (log 2). -/
def State.storeBytes (s : State) : Bytes :=
  leBytes 2 (4080 - s.keep.retired) ++ leBytes 2 s.keep.erased ++ leBytes 2 s.keep.retired ++ zeros 2 ++ leBytes 8 s.keep.appendVol ++
    leBytes 4 s.keep.compactions ++ leBytes 4 s.keep.flags ++ leBytes 4 (Config.freeNat s.dev.bootCount) ++
    leBytes 4 s.keep.limited.toNat

def readKeep (s : State) (key : Nat) : Option Bytes :=
  match key with
  | 0x600001 => some s.storeBytes
  | 0x600002 => some s.histBytes
  | 0x610001 => some (mread (fun _ => 0xFF#8) s.keep.window 0 65536)
  | 0x610002 => some (leBytes 1 s.keep.protect)
  | 0x610003 => some (leBytes 2 s.keep.interrupted)
  | 0x610005 => some ((List.range 1024).flatMap fun p => leBytes 4 (tget0 0 s.keep.writeCounts p))
  | _ => none

/-- 7000.02 (16_observation.md R468): zeros before the first command. -/
def State.epochBytes (s : State) : Bytes :=
  let o := s.obs
  if o.epochUsed then
    leBytes 2 o.epochNo ++ leBytes 2 o.epochMask ++ leBytes 6 (o.epochBatch.getD ord48) ++
      leBytes 1 (o.epochCores.isEmpty && o.epochClusters.isEmpty && !o.epochBase).toNat
  else zeros 11

/-- A tensor statistics record (03_integer_pipeline.md Table 03-8). -/
def StatRec.bytes (r : StatRec) : Bytes :=
  leBytes 8 (r.ordinal + r.isVoid.toNat * 2 ^ 48) ++ leBytes 4 (min r.total 0xFFFFFFFF) ++ leBytes 4 (min r.clipHi 0xFFFFFFFF) ++
    leBytes 4 (min r.clipLo 0xFFFFFFFF) ++ leBytes 4 (min r.nearHi 0xFFFFFFFF) ++ leBytes 4 (min r.nearLo 0xFFFFFFFF) ++ zeros 4

/-- 7030.01: a slot that no step of the loaded programme names reads as zeros (R106). -/
def State.statBytes (s : State) : Bytes :=
  let named := (s.tabsOf s.capo.side).flatMap fun e => (s.slotsOf e.1 e.2).map (·.1)
  (List.range 1024).flatMap fun k => if named.contains k then (tget0 {} s.obs.stats k).bytes else zeros 32

/-- 7100.04 as it reads: the fields last written, and ARM while the watch is armed (log 10). -/
def State.watchBytes (s : State) : Bytes :=
  let w := s.obs.watch
  leBytes 4 w.core ++ leBytes 4 (w.stepno + w.bufidx * 2 ^ 24) ++ leBytes 8 (w.ordinal + (s.obs.watchState == 1).toNat * 2 ^ 48) ++
    leBytes 4 w.first ++ leBytes 4 (if s.obs.watch = {} then 0 else w.lines)

/-- 7100.06: 64 records a ring, oldest first; records that were never made read as zeros behind them. -/
def State.ringBytes (s : State) : Bytes :=
  (s.activeCores ++ [256, 257, 258, 259]).flatMap fun k => padTo 2048 (tget0 [] s.obs.rings k).flatten

/-- 7100.09. -/
def State.traceState (s : State) : Bytes :=
  leBytes 8 s.obs.traceWritten ++ leBytes 8 s.obs.traceDropped ++ leBytes 4 s.obs.traceWraps ++ leBytes 4 s.traceCapacity ++
    leBytes 1 (decide (s.traceCapacity ≤ s.obs.trace.length)).toNat

/-- Codes of Table 09-7. -/
def PassCause.code : PassCause → Nat
  | .selftest => 0 | .temperature => 1 | .periodic => 2 | .emMargin => 3 | .emReference => 4 | .substitution => 5 | .retry => 6

/-- A pass log entry (Table 09-7). -/
def PassRec.bytes (r : PassRec) : Bytes :=
  leBytes 16 (r.ordinal + r.site * 2 ^ 48 + r.cause.code * 2 ^ 64 + (if r.passed then 1 else 2) * 2 ^ 67 + r.staleMade.toNat * 2 ^ 69 +
    r.boot * 2 ^ 96)

/-- A memory read request as it reads. -/
def MemRequest.bytes (m : MemRequest) : Bytes := leBytes 1 m.space ++ leBytes 2 m.unit ++ leBytes 4 m.line ++ leBytes 4 m.lines

def readObserve (s : State) (key : Nat) : Option Bytes :=
  let evKeys := s.activeClusters.flatMap fun c => (List.range 16).map (c * 16 + ·)
  match key with
  | 0x700002 => some s.epochBytes
  | 0x701002 => some (evKeys.flatMap fun k => leBytes 1 (tget0 0 s.obs.eventSel k))
  | 0x702001 => some (ctrBytes false s.obs.event evKeys)
  | 0x702011 => some (ctrBytes true s.obs.event evKeys)
  | 0x703001 => some s.statBytes
  | 0x703101 => some (ctrBytes false s.obs.imports [0])
  | 0x703111 => some (ctrBytes true s.obs.imports [0])
  | 0x703102 => some (ctrBytes false s.obs.imports [1])
  | 0x703112 => some (ctrBytes true s.obs.imports [1])
  | 0x710004 => some s.watchBytes
  | 0x710005 => some s.obs.dump
  | 0x710006 => some s.ringBytes
  | 0x710007 => some s.obs.watchData
  | 0x710008 => some (leBytes 1 s.obs.watchState)
  | 0x710009 => some s.traceState
  | 0x71000A => some s.dict.memRead.bytes
  | 0x71000B => some s.memData
  | 0x71000D => some s.obs.trace.flatten
  | 0x801001 => some (s.activeSites.flatMap fun n => leBytes 1 (s.site n).outcome)
  | 0x801002 => some (padTo 4096 (s.passLog.reverse.flatMap PassRec.bytes))
  | _ => none

/-- 9030.03: whether each firmware slot verifies, its version and its security version. -/
def State.slotBytes (s : State) : Bytes :=
  (List.range 2).flatMap fun k => match s.flash.slots[k]? with
    | some f => leBytes 1 (s.flash.slotOk k).toNat ++ leBytes 4 (fwVersion f) ++ leBytes 8 (fwSecver f)
    | none => zeros 13

/-- 9020.05: the slot of each session, 0xFF when free. -/
def State.sessionBytes (s : State) : Bytes :=
  [1, 2, 3, 4].flatMap fun n => leBytes 1 (match s.session? n with
    | some x => x.slot
    | none => 0xFF)

def readSecurity (s : State) (key : Nat) : Option Bytes :=
  match key with
  | 0x900001 => some (s.evidenceBytes (zeros 32) (zeros 32))
  | 0x900002 => some (leBytes 8 s.flash.arbValue)
  | 0x900003 => some (leBytes 1 s.dev.bootPath ++ leBytes 1 s.flash.active ++ leBytes 1 s.flash.attempts ++ leBytes 1 s.dev.slotsFailed)
  | 0x901001 => some ((List.range 8).flatMap (keySlot s.flash.clientKeys))
  | 0x902002 => some s.dict.challenge
  | 0x902005 => some s.sessionBytes
  | 0x903003 => some s.slotBytes
  | 0x904001 => some ((List.range 8).flatMap (keySlot s.flash.imageKeys))
  | 0x905004 => some (ctrBytes false s.obs.macsec (List.range 6))
  | 0x905014 => some (ctrBytes true s.obs.macsec (List.range 6))
  | _ => none

/-- Codes of Table 12-2. -/
def PortState.code : PortState → Nat
  | .disabled => 0 | .down => 1 | .training => 2 | .absent => 3 | .attest => 4 | .keyx => 5 | .up => 6 | .quarantined => 7

def readGroup (s : State) (key : Nat) : Option Bytes :=
  let sub := key % 256
  if key / 256 = 0xA020 then some (ctrBytes (16 < sub) s.obs.link ((List.range 6).map fun p => p * 8 + (sub % 16 - 1)))
  else match key with
  | 0xA00002 => some (leBytes 4 s.group.arrange)
  | 0xA00003 => some ((List.range 6).flatMap fun p => leBytes 1 (s.port p).state.code)
  | 0xA01004 => some (leBytes 4 (maskOf 24 s.group.members))
  | 0xA01005 => some (leBytes 1 s.group.leader)
  | 0xA01006 => some ((List.range 24).flatMap fun d => leBytes 1 (tget0 0 s.group.memberStates d))
  | _ => none

def readPower (s : State) (key : Nat) : Option Bytes :=
  match key with
  | 0xB00001 => some (s.power.temps.flatMap (leBytesI 2))
  | 0xB00002 => some (s.power.rails.flatMap (leBytes 2))
  | 0xB00003 => some (leBytes 2 s.power.v)
  | 0xB00004 => some ((List.range 72).flatMap fun k => leBytes 1 (s.power.sensorFail.contains k).toNat)
  | 0xB00005 => some (leBytes 1 s.dev.straps)
  | 0xB00006 => some (leBytes 2 s.power.current)
  | 0xB01003 => some (leBytes 1 s.power.throttle.toNat)
  | 0xB02001 => some (leBytesI 2 (s.power.inlet.getD 1040))
  | 0xB02002 => some (leBytes 1 s.powerLimit)
  | _ => none

/-- A setting as it reads: what was written, or its default. -/
def State.readSetting (s : State) (key : Nat) : Option Bytes :=
  match numSetting? key with
  | some e => some ((s.setting? (key / 256) (key % 256)).getD (leBytes (typeLen e.type) e.dflt))
  | none => (s.byteSetting? key).map fun e => (s.setting? (key / 256) (key % 256)).getD e.dflt

/-- The value of a readable object. -/
def State.readKey (s : State) (key : Nat) : Bytes :=
  match (s.readSetting key).orElse fun _ =>
    match key / 65536 with
    | 0x10 | 0x11 => readIdentity s key
    | 0x20 | 0x21 => readState s key
    | 0x22 => readCapo s key
    | 0x30 | 0x31 => readIntake s key
    | 0x44 | 0x45 | 0x46 => readHealth s key
    | 0x50 | 0x51 => readFaults s key
    | 0x60 | 0x61 => readKeep s key
    | 0x70 | 0x71 | 0x80 => readObserve s key
    | 0x90 => readSecurity s key
    | 0xA0 => readGroup s key
    | 0xB0 => readPower s key
    | _ => none with
  | some b => b
  | none => []

/-- What a read of an object returns (R385, R387): a WO object zero bytes of its length, a WO domain no bytes. -/
def State.readObj (s : State) (o : Obj) : Bytes :=
  if o.key % 256 = 0 then leBytes 1 (s.highestSub (o.key / 256))
  else if o.acc = 2 then zeros (o.len.getD 0)
  else s.readKey o.key

/-- Bytes of the whole value as it is read: the fixed length, or a domain's present one. -/
def State.readLen (s : State) (o : Obj) : Nat := match o.len with
  | some n => n
  | none => (s.readObj o).length

/-- `n` bytes from an offset of an object's present value; unwritten slots of the trace region read as zeros. -/
def State.readPart (s : State) (o : Obj) (off n : Nat) : Bytes := slice (s.readObj o) off n

end Sys2Proof.Machine
end

