-- ==== Sys2Proof/Machine/Requests.lean ====
section
/-!
DEFINITION. Requests of the dictionary: how a request is admitted, answered and numbered, reads, writes, segmented transfers and
sessions, and the meaning of every command that is a request (13_malrov_dictionary.md R388 to R406).
-/

namespace Sys2Proof.Machine

/-! ### Answers -/

/-- Data bytes that one segment holds (R391, R392). -/
def segMax (ep sid : Nat) : Nat := if ep < 2 then (if sid = 0 then 44 else 28) else 1024

/-- Base identifier plus device number; both lie in the bits of the identifier (R391; 1100.03, 1100.04). -/
def canIdent (base dev : Nat) : Nat :=
  let w := if bit base 29 then 2 ^ 29 else 2 ^ 11
  base / 2 ^ 29 * 2 ^ 29 + (base % 2 ^ 29 + dev) % w

/-- The link-local address of ROM recovery: fe80::/64 with the last 8 bytes of the serial number (14_boot_and_trust.md R421). -/
def State.linkLocal (s : State) : Bytes := [0xFE#8, 0x80#8] ++ zeros 6 ++ (padTo 16 s.dev.serial).drop 8

/-- Where the answer to a request goes: on CAN the response identifier, on a MAC the source of the request (R391, R392). -/
def State.replyTo (s : State) (r : Req) : ReplyTo :=
  if r.ep < 2 then ⟨canIdent (s.commSetting 4 0x740) s.group.devno, [], 0, []⟩ else ⟨0, r.via.addr, r.via.sport, r.via.daddr⟩

/-- Answer a request that is not carried out, without a session's key. The tag of an answer under a SID that is not open is under no key
(log 46). -/
def State.answerPlain (r : Req) (idx sub status : Nat) (s : State) : State :=
  s.deliver r.ep (response [] r.ep (s.replyTo r) (r.op % 128 + 128) r.tid idx sub status r.sid r.seq false 0 [])

/-- The answer of a request that was carried out: it echoes OP, TID, INDEX, SUB, SID and SEQ, and a session stores it (R389, R401). The key is
that of the session as the request found it. -/
def State.answer (r : Req) (op idx sub offset : Nat) (last : Bool) (before : State) (rep : Reply) : State :=
  let t := response (before.sessionKey r.sid) r.ep (before.replyTo r) (op % 128 + 128) r.tid idx sub rep.status r.sid r.seq last offset rep.data
  let s1 := rep.s.onDict fun d =>
    { d with sessions := d.sessions.map fun x =>
        (if x.sid = r.sid ∧ r.sid ≠ 0 then { x with highSeq := r.seq, started := true, stored := [t] } else x) }
  let s2 := if rep.wait then s1.holdAnswer r.ep t else s1.deliver r.ep t
  -- a session ends when SEQ reaches 2^32 - 1
  if r.sid ≠ 0 ∧ r.seq = 0xFFFFFFFF then s2.endSessions fun x => x.sid == r.sid else s2

/-- A failed handshake or a failed tag of an endpoint: the fifth locks it (R402). -/
def State.noteFailure (ep : Nat) (s : State) : State :=
  let n := tget0 0 s.dict.fails ep + 1
  if 5 ≤ n then
    (s.onDict fun d => { d with fails := tput0 0 ep 0 d.fails, locked := insertNew ep d.locked }).record
      { kind := 0x4F, severity := 1, unit := .pair 2 }
  else s.onDict fun d => { d with fails := tput0 0 ep n d.fails }

/-! ### Admission (R391 to R393, R401 to R404) -/

/-- The boot ROM answers in place of firmware (14_boot_and_trust.md R421). -/
def State.romRecovery (s : State) : Bool := !s.dev.resetHeld && !s.dev.bootStuck && s.dev.bootPath == 3

/-- The dictionary answers: firmware runs, the keep store is recovered, and control pair 2 is not halted (R404, R393; 01 R21). -/
def State.dictAnswers (s : State) : Bool :=
  (s.dev.recovered && !s.dev.resetHeld && !s.dev.bootStuck && !s.dev.pairHalted.contains 2) || s.romRecovery

/-- The endpoint takes requests: a CAN controller is enabled, a MAC's link is up; the boot ROM serves MAC 0 alone. -/
def State.endpointOpen (s : State) (ep : Nat) : Bool :=
  if s.romRecovery then ep == 2
  else if ep < 2 then bit (s.commSetting 1 3) ep else !s.pub.macDown.contains (ep - 2)

/-- An address of the device: the one of 1100.06 or 1100.07, or a link-local one (log 100). -/
def State.ownAddress (s : State) (a : Bytes) : Bool :=
  if a.length = 4 then ((s.commBytes 6).map (·.take 4)) == some a
  else ((s.commBytes 7).map (·.take 16)) == some a || a.take 2 == [0xFE#8, 0x80#8]

/-- The UDP port of a firmware delivery in ROM recovery (14_boot_and_trust.md R421). -/
def romPort : Nat := 49233

/-- A request is the device's: on CAN an FD frame on the request identifier; on a MAC a datagram to the dictionary's port. The boot ROM knows
the link-local address of the serial number alone, and it reads on the default port as well (R391, R392; 14 R421, log 100). -/
def State.addressed (s : State) (r : Req) : Bool :=
  if r.ep < 2 then r.via.frame == 0 && r.via.canId == canIdent (s.commSetting 3 0x700) s.group.devno
  else if s.romRecovery then r.via.daddr == s.linkLocal && (r.via.dport == romPort || r.via.dport == 49232)
  else s.ownAddress r.via.daddr && r.via.dport == s.commSetting 5 49232

/-- The MAC discards its frame: MACsec is on, and the frame did not pass it (14_boot_and_trust.md R435). -/
def State.unprotected (s : State) (r : Req) : Bool := decide (2 ≤ r.ep) && s.macDrops (r.ep - 2) r.via.secured

/-- The operation that a request carries out: its own OP byte when that is reserved (R403). -/
def reqOp (op : Nat) (r : Req) : Nat := if 1 ≤ r.op ∧ r.op ≤ 6 then op else r.op

/-- Carry a request out: `body` gives the reply, the OFFSET field and LAST. BAD OP for a reserved OP or a reserved field that is not zero. -/
def State.carryOut (op : Nat) (r : Req) (idx sub offset : Nat) (body : State → Reply × Bool) (s : State) : State :=
  let o := reqOp op r
  if o ≠ op ∨ r.rsvd ≠ 0 then s.answer r o idx sub 0 false (Reply.deny stBadOp s)
  else
    let rep := body s
    s.answer r o idx sub offset rep.2 rep.1

/-- A request as its endpoint took it. -/
def State.serve (op : Nat) (r : Req) (idx sub offset : Nat) (body : State → Reply × Bool) (s : State) : State :=
  if !s.dictAnswers || !s.endpointOpen r.ep then s
  else if s.unprotected r then s.countMacsec (r.ep - 2) 2
  else if !s.addressed r then s
  else if 32 ≤ r.ahead then s.countProto r.ep 1
  else if r.sid = 0 then s.carryOut op r idx sub offset body
  else match s.session? r.sid with
    | none => s.answerPlain r idx sub stSession
    | some x =>
      if ¬ r.tagOk then ((s.countProto r.ep 2).noteFailure r.ep).answerPlain { r with sid := 0 } idx sub stAuth
      else if x.started ∧ r.seq ≤ x.highSeq then
        if r.seq = x.highSeq ∧ r.same then x.stored.foldl (fun t a => t.deliver r.ep a) s
        else s.deliver r.ep (response x.key r.ep (s.replyTo r) (r.op % 128 + 128) r.tid idx sub stSeq r.sid r.seq false 0 [])
      else s.carryOut op r idx sub offset body

/-! ### Which writes are accepted (R387, R398, R406; 14 R420, R421, R429) -/

/-- The writes that are accepted outside a session. -/
def sessionless (key : Nat) : Bool := key == 0x902001 || key == 0x902003 || key == 0x906001

/-- The writes that are accepted in SAFE (R406). A state command is looked at by its code. -/
def safeWrites (key : Nat) : Bool :=
  [0x200002, 0x510007, 0x902001, 0x902003, 0x902004, 0x700001, 0x701001].contains key || (0x7100 ≤ key / 256 && key / 256 ≤ 0x71FF)

/-- The writes that recovery firmware accepts (R420). -/
def recoveryWrites (key : Nat) : Bool :=
  [0x902001, 0x902003, 0x902004, 0x903001, 0x903002, 0x904001, 0x905001, 0x905002, 0x905003, 0x901001].contains key

/-- The objects that only an ADMIN session writes (R398; log 47). -/
def adminOnly (key : Nat) : Bool := (0x1100 ≤ key / 256 && key / 256 ≤ 0x11FF) || (0x9000 ≤ key / 256 && key / 256 ≤ 0x90FF)

/-- The writes whose answer waits for a record of the log (15_keep_store.md R462). -/
def State.logsWrite (s : State) (key : Nat) : Bool :=
  (match numSetting? key with
    | some e => e.kept
    | none => ((s.byteSetting? key).map (·.kept)).getD false) ||
    [0x901001, 0x904001, 0x905002, 0x906001].contains key

/-- The keep store cannot append what a write needs: few erased sectors are left, or PFAIL_N is low (R462; 17 R493). -/
def State.noAppend (s : State) : Bool := s.keep.limited || s.dev.pfailLow

/-- The reply of a write that is turned away, none when it may go on. `data`: the first bytes written. -/
def State.writeGate (r : Req) (idx sub : Nat) (data : Bytes) (s : State) : Option Reply :=
  let key := idx * 256 + sub
  match s.obj? idx sub with
  | none => some (Reply.deny (s.noObject idx) s)
  | some o =>
    -- the boot ROM takes segments of 9030.01 on its own port alone (R421)
    if s.romRecovery then (if key = 0x903001 ∧ r.op = 4 ∧ r.via.dport = romPort then none else some (Reply.deny stSession s))
    else if o.acc = 0 then some (Reply.deny stAccess s)
    else if key = 0x906001 ∧ s.flash.provisioned then some (Reply.deny stAccess s)
    else if r.sid = 0 ∧ ¬ sessionless key then some (Reply.deny stSession s)
    else if r.sid ≠ 0 ∧ adminOnly key ∧ ¬ ((s.session? r.sid).map (·.admin)).getD false then some (Reply.deny stRole s)
    else if s.dev.bootPath = 2 ∧ ¬ recoveryWrites key then some (Reply.refused 1 s.dev.state.code s)
    else if s.dev.state = .safe ∧ ¬ (safeWrites key ∧ (key ≠ 0x200002 ∨ data = [3#8] ∨ data = [4#8])) then some (Reply.refused 6 0 s)
    else if s.logsWrite key ∧ s.noAppend then some (Reply.deny stUnavailable s)
    else none

/-! ### Settings -/

/-- A setting takes a value: in force for its own chapter's rule at once; a kept one is answered when its record is appended (R393). -/
def State.putSettingObj (idx sub : Nat) (kept : Bool) (d : Bytes) (s : State) : Reply :=
  let s1 := s.onDict fun x => { x with settings := putSetting (idx * 256 + sub) d x.settings }
  if kept then { s := s1.appendKept idx sub d (some s.dict.answerNo), wait := true } else Reply.ok s1

/-- A write of a setting. The settings of B010 are refused while STRAP3 fixes VDD_CE (17 R486). -/
def State.writeSetting (idx sub : Nat) (d : Bytes) (s : State) : Reply :=
  let key := idx * 256 + sub
  match numSetting? key with
  | some e =>
    if d.length ≠ typeLen e.type then Reply.deny stLength s
    else if idx = 0xB010 ∧ s.fixedVdd then Reply.refused 1 s.dev.state.code s
    else if leNat d < e.lo ∨ e.hi < leNat d ∨ ¬ s.numOk key (leNat d) then Reply.deny stRange s
    else s.putSettingObj idx sub e.kept d
  | none =>
    match s.byteSetting? key with
    | some e =>
      if d.length ≠ e.dflt.length then Reply.deny stLength s
      else if ¬ bytesOk key d then Reply.deny stRange s
      else s.putSettingObj idx sub e.kept d
    | none => Reply.deny stAccess s

/-! ### Sessions (R398 to R402) -/

/-- "MALROV-S1", "MALROV-S2", "MALROV-K1". -/
def labelSession (a b : Nat) : Bytes :=
  [77#8, 65#8, 76#8, 82#8, 79#8, 86#8, 45#8, BitVec.ofNat 8 a, BitVec.ofNat 8 b]

/-- T1 of R400. -/
def sessionT1 (hello challenge : Bytes) : Bytes := digest32 (labelSession 83 49 ++ hello ++ challenge.take 1153)

/-- T2 of R400. -/
def sessionT2 (hello challenge : Bytes) : Bytes := digest32 (labelSession 83 50 ++ sessionT1 hello challenge ++ slice challenge 1153 3373)

/-- The session key of R401. -/
def sessionK (seed hello challenge : Bytes) : Bytes :=
  digest32 (labelSession 75 49 ++ padTo 32 (Config.x25519Shared (seed.take 32) (slice hello 33 32)) ++
    padTo 32 (Config.mlkemShared (slice hello 65 1184) (seed.drop 32)) ++ sessionT2 hello challenge)

/-- Role of a client key slot: 0 empty, 1 OPERATE, 2 ADMIN (R399). -/
def State.slotRole (s : State) (slot : Nat) : Nat := num (keySlot s.flash.clientKeys slot) 1984 1

/-- HELLO may begin (R400, R402); `idle`: the handshake in progress has been idle for 1 s. -/
def State.helloDenied (ep : Nat) (idle : Bool) (s : State) : Option Nat :=
  if s.dict.locked.contains ep then some stLocked
  else if 4 ≤ s.dict.sessions.length then some stBusy
  else if s.dict.handshake.isSome ∧ ¬ idle then some stBusy
  else none

/-- The handshake begins at the first segment of HELLO. -/
def State.beginHandshake (ep : Nat) (s : State) : State :=
  s.onDict fun d => { d with handshake := some ⟨ep, [], false, 0, 0, [], [], []⟩, challenge := [] }

/-- The LAST segment of HELLO: 1,249 bytes that name a slot with a key. -/
def State.takeHello (ep : Nat) (d : Bytes) (s : State) : Reply :=
  let drop (s : State) : State := s.onDict fun x => { x with handshake := none }
  if d.length ≠ 1249 then Reply.deny stLength (drop s)
  else if 8 ≤ num d 0 1 ∨ s.slotRole (num d 0 1) = 0 then Reply.deny stRange (drop s)
  else Reply.ok (s.onDict fun x => { x with handshake := some ⟨ep, d, true, num d 0 1, 0, [], [], []⟩ })

/-- The lowest session identifier that is free. -/
def State.freeSid (s : State) : Nat := (([1, 2, 3, 4] : List Nat).find? fun n => (s.session? n).isNone).getD 0

/-- SESSION_CHALLENGE: CHALLENGE is formed; `nonce` and `seed` (the ephemeral keys) come from the entropy source, once it has passed its tests
(14_boot_and_trust.md R433). -/
def execSessionChallenge (nonce seed : Bytes) (s : State) : Host.Outcome State Fault Refusal :=
  .next (match s.dict.handshake with
    | some h =>
      if h.helloDone ∧ h.challenge = [] ∧ s.dictAnswers ∧ ¬ s.dev.entropyBad then
        let body := leBytes 1 s.freeSid ++ padTo 32 (nonce.take 32) ++ padTo 32 (Config.x25519Public (seed.take 32)) ++
          padTo 1088 (Config.mlkemCiphertext (slice h.hello 65 1184) (seed.drop 32))
        let c := body ++ signBoth s.aliasSeed (sessionT1 h.hello body)
        s.onDict fun d => { d with challenge := c, handshake := some { h with sid := s.freeSid, challenge := c, seed := seed } }
      else s
    | none => s)

/-- The LAST segment of PROVE: the session opens when both signatures verify; a failure counts (R400, R402). -/
def State.takeProve (ep : Nat) (d : Bytes) (edOk mlOk : Bool) (s : State) : Reply :=
  match s.dict.handshake with
  | some h =>
    if h.ep ≠ ep ∨ h.challenge = [] then Reply.deny stTransfer s
    else
      let s1 := s.onDict fun x => { x with handshake := none, challenge := [] }
      if d.length = 3373 ∧ edOk ∧ mlOk ∧ s.slotRole h.slot ≠ 0 then
        Reply.ok (s1.onDict fun x =>
          { x with sessions := x.sessions ++
              [⟨h.sid, h.slot, s.slotRole h.slot == 2, sessionK h.seed h.hello h.challenge, 0, false, [], ep⟩] })
      else
        Reply.deny (if d.length = 3373 then stAuth else stLength)
          ((s1.record { kind := 0x4E, severity := 1, unit := .pair 2 }).noteFailure ep)
  | none => Reply.deny stTransfer s

/-- SESSION_CLOSE: a write of 9020.04 names the writing session and ends it. -/
def State.closeSession (sid : Nat) (v : Nat) (s : State) : Reply :=
  if v ≠ sid then Reply.deny stRange s else Reply.ok (s.endSessions fun x => x.sid == sid)

/-! ### Writes of a whole value -/

/-- Outcomes that a generic request leaves open: whether a signature in it verifies (log 3). -/
def State.freeBit (s : State) (k : Nat) : Bool := Config.freeNat (s.dev.freeCount + k) % 2 == 1

/-- The state whose counter of free values has moved on. -/
def State.useFrees (n : Nat) (s : State) : State := s.onDev fun d => { d with freeCount := d.freeCount + n }

/-- What the bytes of a delivered firmware slot verify to when a generic request carries them (log 3). -/
def State.freeSlot (s : State) : FwSlot :=
  let f (k : Nat) : Bool := s.freeBit k
  { bytes := [], chainOk := f 0, edOk := f 1, mlOk := f 2 }

/-- A firmware delivery; in ROM recovery a complete one that passes goes to slot 0 as a trial, and the device resets (R421, R431). -/
def State.firmwareSegment (offset : Nat) (d : Bytes) (last : Bool) (slot : FwSlot) (s : State) : Reply :=
  if s.romRecovery then
    let x := segSlot s.flash.romBuf offset d slot
    (if offset + d.length > 4194304 then Reply.deny stLength s
    else if last ∧ FwSlot.accepted s.flash.arbValue false x = true then Reply.ok (s.romInstall x)
    else Reply.ok (s.onFlash fun f => { f with romBuf := if last then [] else x.bytes }))
  else firmwareDelivery offset d last slot s

/-- The slot of the session that a request is in, 255 for none. -/
def State.ownSlot (s : State) (sid : Nat) : Nat := ((s.session? sid).map (·.slot)).getD 255

/-- A number that is written has the length of its object. -/
def withNum (n : Nat) (d : Bytes) (s : State) (f : Nat → Reply) : Reply := if d.length ≠ n then Reply.deny stLength s else f (leNat d)

/-- The effect of a whole value written to an object, from the LAST segment or a WRITE. -/
def State.writeObj (r : Req) (idx sub : Nat) (d : Bytes) (s : State) : Reply :=
  match idx * 256 + sub with
  | 0x200002 => withNum 1 d s fun v => s.stateCommand v
  | 0x204001 => s.writeReplayMode d
  | 0x204002 => s.writeReplayBatch d
  | 0x220002 => withNum 1 d s fun v => s.capoCommand v
  | 0x30000A => withNum 1 d s fun v => if v = 1 then s.changeArm .intake else if v = 2 then s.changeWithdraw .intake else Reply.deny stRange s
  | 0x500008 => withNum 1 d s fun v => if v = 1 then s.changeArm .policy else if v = 2 then s.changeWithdraw .policy else Reply.deny stRange s
  | 0x510007 => withNum 4 d s fun v => s.acknowledge v
  | 0x610002 => withNum 1 d s fun v => blockProtectWrite v s
  | 0x610004 =>
    if d.length ≠ 68 then Reply.deny stLength s
    else
      let w := num d 0 4
      windowPageWrite (bits w 15 0) (bits w 22 16) (bits w 31 23) (d.drop 4) s
  | 0x700001 => withNum 2 d s fun v => s.epochCommand v
  | 0x710004 => s.writeWatch d
  | 0x71000A => withNum 11 d s fun _ => s.memRequest (num d 0 1) (num d 1 2) (num d 3 4) (num d 7 4)
  | 0x71000C => withNum 1 d s fun v => s.dumpCommand v
  | 0x901001 => writeClientKeys (s.ownSlot r.sid) d s
  | 0x902001 => s.takeHello r.ep d
  | 0x902003 => s.useFrees 2 |>.takeProve r.ep d (s.freeBit 0) (s.freeBit 1)
  | 0x902004 => withNum 1 d s fun v => s.closeSession r.sid v
  | 0x903002 => withNum 1 d s fun v => firmwareCommand v s
  | 0x904001 => writeImageKeys d s
  | 0x905002 => writeMacsecKeys d s
  | 0x906001 => provision d s
  | 0xA00004 => withNum 1 d s fun v => quarantineRelease v s
  | 0xB02001 => if d.length ≠ 2 then Reply.deny stLength s else coolantWrite (sext 16 (leNat d)) s
  | _ => s.writeSetting idx sub d

/-- Objects whose segments take effect as they are accepted (R396). -/
def streaming (key : Nat) : Bool := key == 0x221001 || key == 0x221002 || key == 0x305001 || key == 0x610001 || key == 0x903001

/-- The effect of one segment of such an object. -/
def State.writeSegment (idx sub offset : Nat) (d : Bytes) (last : Bool) (s : State) : Reply :=
  match idx * 256 + sub with
  | 0x221001 => (s.useFrees 2).manifestSegment offset d last (s.freeBit 0) (s.freeBit 1)
  | 0x221002 => s.imageSegment offset d last
  | 0x305001 => s.replaySegment offset d last
  | 0x610001 => windowSegmentWrite offset d last s
  | _ => (s.useFrees 3).firmwareSegment offset d last s.freeSlot

/-- A write of a whole value in one request. -/
def State.writeWhole (r : Req) (idx sub : Nat) (d : Bytes) (s : State) : Reply :=
  let key := idx * 256 + sub
  if key = 0x902001 then
    match s.helloDenied r.ep false with
    | some c => Reply.deny c s
    | none => (s.beginHandshake r.ep).writeObj r idx sub d
  else if streaming key then s.writeSegment idx sub 0 d true
  else s.writeObj r idx sub d

/-! ### Segmented transfers (R395 to R397) -/

/-- A transfer of a requester on an object: the endpoint and the SID own it. -/
def Transfer.isOf (ep sid idx sub : Nat) (t : Transfer) : Bool := t.ep == ep && t.sid == sid && t.idx == idx && t.sub == sub

def State.transfer? (s : State) (r : Req) (idx sub : Nat) : Option Transfer := s.dict.transfers.find? (Transfer.isOf r.ep r.sid idx sub)

/-- A transfer ends; bytes of a streaming object that took no effect are given up. -/
def State.endTransfer (ep sid idx sub : Nat) (s : State) : State :=
  let live := (s.dict.transfers.find? (Transfer.isOf ep sid idx sub)).elim false fun t => t.writing && !t.ended
  let s1 := s.onDict fun d => { d with transfers := d.transfers.filter fun t => !t.isOf ep sid idx sub }
  match live, idx * 256 + sub with
  | true, 0x221001 => s1.onCapo fun c => { c with manifestBuf := [] }
  | true, 0x221002 => s1.onCapo fun c => { c with objectHead := [] }
  | true, 0x305001 => s1.onWalk fun w => { w with replayIn := {} }
  | true, 0x610001 => s1.onKeep fun k => { k with segPage := [] }
  | _, _ => s1

/-- The requester's transfer on an object ends. -/
def State.dropTransfer (r : Req) (idx sub : Nat) (s : State) : State := s.endTransfer r.ep r.sid idx sub

/-- Put a transfer in place of the requester's former one on the object. -/
def State.putTransfer (r : Req) (t : Transfer) (s : State) : State :=
  s.onDict fun d => { d with transfers := (d.transfers.filter fun x => !x.isOf r.ep r.sid t.idx t.sub) ++ [t] }

/-- A new transfer would be the fifth in progress, or a second writer of the object. -/
def State.transferBusy (r : Req) (idx sub : Nat) (writing : Bool) (s : State) : Bool :=
  let others := s.dict.transfers.filter fun t => !t.ended && !t.isOf r.ep r.sid idx sub
  decide (4 ≤ others.length) || (writing && others.any fun t => t.writing && t.idx == idx && t.sub == sub)

/-- A segmented write whose bytes are gathered holds at most this many (R396). -/
def gatherLimit : Nat := 65536

/-- One segment of a segmented write. `whole`: the effect of the gathered bytes; `segment`: of one segment of a streaming object; `first`:
what the first segment asks for. -/
def State.segmentWrite (r : Req) (idx sub offset : Nat) (d : Bytes) (last : Bool) (first : State → Option Nat × State)
    (whole : Bytes → State → Reply) (segment : State → Reply) (s : State) : Reply :=
  let key := idx * 256 + sub
  let old := (s.transfer? r idx sub).filter (·.writing)
  match old.filter fun t => t.offset == offset && t.seg == d with
  | some t => { s := s, status := t.status, data := t.reply }                 -- a repeat is written once
  | none =>
    -- a state command is looked at by its code, which is its first and only byte (R406)
    match s.writeGate r idx sub (if key = 0x200002 ∧ offset = 0 then d else []) with
    | some rep => rep
    | none =>
      let prior := if offset = 0 then [] else (old.map (·.data)).getD []
      let follows := old.any fun t => !t.ended && t.offset + t.seg.length == offset
      if offset = 0 ∧ s.transferBusy r idx sub true then Reply.deny stBusy s
      else if offset ≠ 0 ∧ ¬ follows then Reply.deny stTransfer s
      else
        let begun := if offset = 0 then first (s.dropTransfer r idx sub) else (none, s)
        match begun.1 with
        | some c => Reply.deny c begun.2
        | none =>
          let s1 := begun.2
          let data := if streaming key then [] else prior ++ d
          if gatherLimit < data.length then
            Reply.deny stLength (s1.dropTransfer r idx sub)
          else
            let rep := if streaming key then segment s1 else if last then whole data s1 else Reply.ok s1
            let keep := r.sid = 0 ∨ (rep.s.session? r.sid).isSome
            let t : Transfer := ⟨r.ep, r.sid, idx, sub, true, offset, d, data, last, rep.status, rep.data⟩
            { rep with
              s := if rep.status ≠ 0 ∧ ¬ (last ∧ offset ≠ 0) then rep.s.dropTransfer r idx sub
                else if keep ∧ rep.s.romRecovery = s.romRecovery then rep.s.putTransfer r t else rep.s }

/-- The bytes that a segment of a read sends, and what is captured from its offset on. An array is captured entry by entry (R395). -/
def State.captured (o : Obj) (offset n : Nat) (left : Bytes) (s : State) : Bytes :=
  if o.entry = 0 then left
  else
    let total := s.readLen o
    let start := offset + left.length
    let stop := min total (offset + n)
    if stop ≤ start then left
    else
      let up := min total ((stop + o.entry - 1) / o.entry * o.entry)
      left ++ s.readPart o start (up - start)

/-- A segmented read of an object that exists. -/
def State.segmentRead (r : Req) (idx sub offset : Nat) (o : Obj) (s : State) : Reply × Bool :=
  let n := segMax r.ep r.sid
  let old := (s.transfer? r idx sub).filter fun t => !t.writing
  let total := s.readLen o
  -- a repeat of the last segment; at OFFSET 0 only while the read is in progress
  match old.filter fun t => t.offset == offset && (offset != 0 || !t.ended) with
  | some t => ({ s := s, data := t.seg }, t.ended)
  | none =>
    let next := old.filter fun t => !t.ended && t.offset + t.seg.length == offset
    if offset ≠ 0 ∧ next.isNone then (Reply.deny stTransfer s, false)
    else if offset = 0 ∧ s.transferBusy r idx sub false then (Reply.deny stBusy s, false)
    else
      let whole := if o.entry = 0 then (if offset = 0 then s.readObj o else (next.map (·.data)).getD []) else []
      let left := if o.entry = 0 then whole.drop offset else (next.map fun t => t.data.drop t.seg.length).getD []
      let bytes := s.captured o offset n left
      let size := if o.entry = 0 then whole.length else total
      let seg := bytes.take (min n (size - offset))
      let last := decide (size ≤ offset + seg.length)
      let t : Transfer := ⟨r.ep, r.sid, idx, sub, false, offset, seg, if o.entry = 0 then whole else bytes, last, 0, []⟩
      ({ s := s.putTransfer r t, data := seg }, last)

/-! ### The operations of the dictionary (Table 13-3) -/

/-- What a read needs: the object exists, the boot ROM serves it (R421), and the unit whose memory it shows is there (R482). -/
def State.readable (s : State) (idx sub : Nat) : Except Nat Obj :=
  let key := idx * 256 + sub
  match s.obj? idx sub with
  | none => .error (s.noObject idx)
  | some o =>
    if s.romRecovery ∧ ¬ ((0x100001 ≤ key ∧ key ≤ 0x100008) ∨ key = 0x900002) then .error stUnavailable
    else if key = 0x71000B ∧ s.dict.memRead.lines ≠ 0 ∧ s.requestGone s.dict.memRead.space s.dict.memRead.unit = true then .error stUnavailable
    else .ok o

/-- READ. -/
def State.doRead (r : Req) (idx sub : Nat) (s : State) : Reply × Bool :=
  match s.readable idx sub with
  | .error c => (Reply.deny c s, false)
  | .ok o =>
    let n := if o.acc = 2 then o.len.getD 0 else s.readLen o
    if segMax r.ep r.sid < n then ({ s := s, status := stSegmented, data := leBytes 4 n }, false)
    else ({ s := s, data := s.readPart o 0 n }, false)

/-- The answer to a WRITE of `n` bytes that does not fit one segment (R394). -/
def State.tooLong (r : Req) (n : Nat) (s : State) : Option Reply :=
  if r.op ≠ 4 ∧ segMax r.ep r.sid < n then some { s := s, status := stSegmented, data := leBytes 4 n } else none

/-- WRITE. -/
def State.doWrite (r : Req) (idx sub : Nat) (d : Bytes) (s : State) : Reply :=
  match s.writeGate r idx sub d with
  | some rep => rep
  | none =>
    match s.tooLong r (((s.obj? idx sub).bind (·.len)).getD d.length) with
    | some rep => rep
    | none => s.writeWhole r idx sub d

/-- DESCRIBE. -/
def State.doDescribe (idx sub : Nat) (s : State) : Reply :=
  match s.obj? idx sub with
  | none => Reply.deny (s.noObject idx) s
  | some o => { s := s, data := leBytes 1 o.type ++ leBytes 1 o.acc ++ leBytes 4 (o.len.getD 0xFFFFFFFF) ++ leBytes 1 o.kept.toNat }

/-- A request of an endpoint that exists. -/
def onEndpoint (r : Req) (f : State → State) (s : State) : Host.Outcome State Fault Refusal :=
  if r.ep < 4 then .next (f s) else .fault .noSuchUnit

/-- READ. -/
def execRead (r : Req) (idx sub : Nat) (s : State) : Host.Outcome State Fault Refusal :=
  onEndpoint r (State.serve 1 r idx sub 0 fun x => x.doRead r idx sub) s

/-- WRITE. -/
def execWrite (r : Req) (idx sub : Nat) (data : Bytes) (s : State) : Host.Outcome State Fault Refusal :=
  onEndpoint r (State.serve 2 r idx sub 0 fun x => (x.doWrite r idx sub data, false)) s

/-- SEG_READ. -/
def execSegRead (r : Req) (idx sub offset : Nat) (s : State) : Host.Outcome State Fault Refusal :=
  onEndpoint r (State.serve 3 r idx sub offset fun x => match x.readable idx sub with
    | .error c => (Reply.deny c x, false)
    | .ok o => x.segmentRead r idx sub offset o) s

/-- The check that the first segment of a write makes: HELLO begins a handshake. -/
def State.firstSegment (r : Req) (key : Nat) (idle : Bool) (s : State) : Option Nat × State :=
  if key = 0x902001 then
    match s.helloDenied r.ep idle with
    | some c => (some c, s)
    | none => (none, s.beginHandshake r.ep)
  else (none, s)

/-- A SEG_WRITE request with the effects of its object. -/
def State.segWriteReq (r : Req) (idx sub offset : Nat) (data : Bytes) (last idle : Bool) (whole : Bytes → State → Reply)
    (segment : State → Reply) : State → State :=
  State.serve 4 r idx sub offset fun x =>
    (x.segmentWrite r idx sub offset data last (State.firstSegment r (idx * 256 + sub) idle) whole segment, false)

/-- SEG_WRITE. Whether an idle handshake gives way is open here (log 3). -/
def execSegWrite (r : Req) (idx sub offset : Nat) (data : Bytes) (last : Bool) (s : State) : Host.Outcome State Fault Refusal :=
  onEndpoint r (State.segWriteReq r idx sub offset data last (s.freeBit 0) (fun d x => x.writeObj r idx sub d)
    fun x => x.writeSegment idx sub offset data last) s

/-- ABORT: a transfer of the requester on the object ends. -/
def execAbort (r : Req) (idx sub : Nat) (s : State) : Host.Outcome State Fault Refusal :=
  onEndpoint r (State.serve 5 r idx sub 0 fun x =>
    (if (x.obj? idx sub).isNone then Reply.deny (x.noObject idx) x else Reply.ok (x.dropTransfer r idx sub), false)) s

/-- DESCRIBE. -/
def execDescribe (r : Req) (idx sub : Nat) (s : State) : Host.Outcome State Fault Refusal :=
  onEndpoint r (State.serve 6 r idx sub 0 fun x => (x.doDescribe idx sub, false)) s

/-! ### Discards and time-outs -/

/-- A frame or datagram that is no request: it cannot hold the header, its length and LEN do not fit, or its VLAN is not the dictionary's
(R391, R392). -/
def State.badPdu (s : State) (ep length lenField sid vlan : Nat) : Bool :=
  let need := 20 + lenField + (if sid = 0 then 0 else 16)
  if ep < 2 then decide (length < 20) || decide (length < need)
  else decide (length ≠ need) || decide (1024 < lenField) || vlan != s.commSetting 8 0xFFFF

/-- BAD_PDU_DISCARD: it is discarded and counted; nothing is answered. -/
def execBadPduDiscard (ep length lenField sid vlan : Nat) (s : State) : Host.Outcome State Fault Refusal :=
  if ep < 4 then
    .next (if s.dictAnswers && s.endpointOpen ep && s.badPdu ep length lenField sid vlan then s.countProto ep 0 else s)
  else .fault .noSuchUnit

/-- LOCK_EXPIRY: the 60 s have passed; the failures of that time count no longer (log 48). -/
def execLockExpiry (ep : Nat) (s : State) : Host.Outcome State Fault Refusal :=
  if ep < 4 then .next (s.onDict fun d => { d with locked := d.locked.filter (· != ep), fails := tput0 0 ep 0 d.fails })
  else .fault .noSuchUnit

/-- TRANSFER_TIMEOUT: a transfer without a segment for 1 s ends, and a partial write does not take effect (R397). -/
def execTransferTimeout (ep sid idx sub : Nat) (s : State) : Host.Outcome State Fault Refusal :=
  if ep < 4 then .next (s.endTransfer ep sid idx sub) else .fault .noSuchUnit

/-- SESSION_IDLE_TIMEOUT: a session with no request for its idle time ends (R401). -/
def execSessionIdleTimeout (sid : Nat) (s : State) : Host.Outcome State Fault Refusal := .next (s.endSessions fun x => x.sid == sid)

/-! ### Requests with a row of their own -/

/-- The operation of a whole value that is written: a WRITE, or the LAST segment of a segmented write. -/
def wholeOp (r : Req) : Nat := if r.op = 4 then 4 else 2

/-- A request that writes a whole value to an object, with the effect of its row. `d` stands for the bytes where the gate looks at
them, and where the object gives no length. -/
def writeRow (r : Req) (idx sub : Nat) (d : Bytes) (effect : State → Reply) (s : State) : Host.Outcome State Fault Refusal :=
  onEndpoint r (State.serve (wholeOp r) r idx sub 0 fun x =>
    (match x.writeGate r idx sub d with
      | some rep => rep
      | none =>
        match x.tooLong r (((x.obj? idx sub).bind (·.len)).getD d.length) with
        | some rep => rep
        | none => effect x, false)) s

/-- A command byte that is written to a command object. -/
def commandRow (r : Req) (idx sub code : Nat) (effect : State → Reply) (s : State) : Host.Outcome State Fault Refusal :=
  writeRow r idx sub [BitVec.ofNat 8 code] effect s

/-- SESSION_HELLO: one segment of 9020.01; `idle`: the handshake in progress has been idle for 1 s. -/
def execSessionHello (r : Req) (offset : Nat) (data : Bytes) (last idle : Bool) (s : State) : Host.Outcome State Fault Refusal :=
  onEndpoint r (State.segWriteReq r 0x9020 1 offset data last idle (fun d x => x.takeHello r.ep d) Reply.ok) s

/-- SESSION_PROVE: one segment of 9020.03; with the LAST, whether its two signatures verify. -/
def execSessionProve (r : Req) (offset : Nat) (data : Bytes) (last edOk mlOk : Bool) (s : State) : Host.Outcome State Fault Refusal :=
  onEndpoint r (State.segWriteReq r 0x9020 3 offset data last false (fun d x => x.takeProve r.ep d edOk mlOk) Reply.ok) s

/-- SESSION_CLOSE. -/
def execSessionClose (r : Req) (sid : Nat) (s : State) : Host.Outcome State Fault Refusal :=
  writeRow r 0x9020 4 [BitVec.ofNat 8 sid] (State.closeSession r.sid sid) s

/-- START. -/
def execStart (r : Req) (s : State) : Host.Outcome State Fault Refusal := commandRow r 0x2000 2 1 State.startCommand s

/-- DRAIN. -/
def execDrain (r : Req) (s : State) : Host.Outcome State Fault Refusal := commandRow r 0x2000 2 2 State.drainCommand s

/-- HARD_STOP. -/
def execHardStop (r : Req) (s : State) : Host.Outcome State Fault Refusal := commandRow r 0x2000 2 3 State.hardStopCommand s

/-- EXIT_SAFE. -/
def execExitSafe (r : Req) (s : State) : Host.Outcome State Fault Refusal := commandRow r 0x2000 2 4 State.exitSafeCommand s

/-- ENTER_SAFE. -/
def execEnterSafe (r : Req) (s : State) : Host.Outcome State Fault Refusal := commandRow r 0x2000 2 5 State.enterSafeCommand s

/-- CUT_DUMP. -/
def execCutDump (r : Req) (value : Nat) (s : State) : Host.Outcome State Fault Refusal := commandRow r 0x7100 0xC value (State.dumpCommand value) s

/-- MEMORY_READ_REQUEST. -/
def execMemoryReadRequest (r : Req) (space unit line lines : Nat) (s : State) : Host.Outcome State Fault Refusal :=
  writeRow r 0x7100 0xA [] (State.memRequest space unit line lines) s

/-- TENSOR_WATCH_ARM. -/
def execTensorWatchArm (r : Req) (core stepno bufidx ordinal first lines rsvd : Nat) (s : State) : Host.Outcome State Fault Refusal :=
  writeRow r 0x7100 4 [] (State.setWatch core stepno bufidx ordinal first lines rsvd true) s

/-- TENSOR_WATCH_DISARM. -/
def execTensorWatchDisarm (r : Req) (core stepno bufidx ordinal first lines rsvd : Nat) (s : State) : Host.Outcome State Fault Refusal :=
  writeRow r 0x7100 4 [] (State.setWatch core stepno bufidx ordinal first lines rsvd false) s

/-- COUNTER_EPOCH_COMMAND. -/
def execCounterEpochCommand (r : Req) (mask : Nat) (s : State) : Host.Outcome State Fault Refusal :=
  writeRow r 0x7000 1 [] (State.epochCommand mask) s

/-- ACKNOWLEDGE. -/
def execAcknowledge (r : Req) (seq : Nat) (s : State) : Host.Outcome State Fault Refusal := writeRow r 0x5100 7 [] (State.acknowledge seq) s

/-- CAPO_ARM. -/
def execCapoArm (r : Req) (s : State) : Host.Outcome State Fault Refusal := commandRow r 0x2200 2 1 (State.capoCommand 1) s

/-- CAPO_WITHDRAW. -/
def execCapoWithdraw (r : Req) (s : State) : Host.Outcome State Fault Refusal := commandRow r 0x2200 2 2 (State.capoCommand 2) s

/-- CAPO_DISCARD. -/
def execCapoDiscard (r : Req) (s : State) : Host.Outcome State Fault Refusal := commandRow r 0x2200 2 3 (State.capoCommand 3) s

/-- MANIFEST_DELIVERY: one segment of 2210.01; with the LAST, whether its two signatures verify. -/
def execManifestDelivery (r : Req) (offset : Nat) (data : Bytes) (last edOk mlOk : Bool) (s : State) : Host.Outcome State Fault Refusal :=
  onEndpoint r (State.segWriteReq r 0x2210 1 offset data last false (fun _ x => Reply.ok x)
    (State.manifestSegment offset data last edOk mlOk)) s

/-- IMAGE_DATA_DELIVERY: one segment of 2210.02. -/
def execImageDataDelivery (r : Req) (offset : Nat) (data : Bytes) (last : Bool) (s : State) : Host.Outcome State Fault Refusal :=
  onEndpoint r (State.segWriteReq r 0x2210 2 offset data last false (fun _ x => Reply.ok x) (State.imageSegment offset data last)) s

/-- INTAKE_ARM. -/
def execIntakeArm (r : Req) (s : State) : Host.Outcome State Fault Refusal := commandRow r 0x3000 0xA 1 (State.changeArm .intake) s

/-- INTAKE_WITHDRAW. -/
def execIntakeWithdraw (r : Req) (s : State) : Host.Outcome State Fault Refusal := commandRow r 0x3000 0xA 2 (State.changeWithdraw .intake) s

/-- POLICY_ARM. -/
def execPolicyArm (r : Req) (s : State) : Host.Outcome State Fault Refusal := commandRow r 0x5000 8 1 (State.changeArm .policy) s

/-- POLICY_WITHDRAW. -/
def execPolicyWithdraw (r : Req) (s : State) : Host.Outcome State Fault Refusal := commandRow r 0x5000 8 2 (State.changeWithdraw .policy) s

/-- REPLAY_MODE_ENTER: the bytes of 2040.01, MODE 0x01. -/
def execReplayModeEnter (r : Req) (data : Bytes) (s : State) : Host.Outcome State Fault Refusal :=
  writeRow r 0x2040 1 data (State.writeReplayMode data) s

/-- REPLAY_MODE_LEAVE: the bytes of 2040.01, MODE 0x00. -/
def execReplayModeLeave (r : Req) (data : Bytes) (s : State) : Host.Outcome State Fault Refusal :=
  writeRow r 0x2040 1 data (State.writeReplayMode data) s

/-- REPLAY_BATCH_DESCRIPTOR: the bytes of 2040.02. -/
def execReplayBatchDescriptor (r : Req) (data : Bytes) (s : State) : Host.Outcome State Fault Refusal :=
  writeRow r 0x2040 2 data (State.writeReplayBatch data) s

/-- REPLAY_INPUT_DATA: the bytes of one input written to 3050.01. -/
def execReplayInputData (r : Req) (data : Bytes) (s : State) : Host.Outcome State Fault Refusal :=
  writeRow r 0x3050 1 data (State.replaySegment 0 data true) s

/-- FIRMWARE_DELIVERY: one segment of 9030.01; with the LAST, what the slot verifies to. -/
def execFirmwareDelivery (r : Req) (offset : Nat) (data : Bytes) (last : Bool) (slot : FwSlot) (s : State) : Host.Outcome State Fault Refusal :=
  onEndpoint r (State.segWriteReq r 0x9030 1 offset data last false (fun _ x => Reply.ok x) (State.firmwareSegment offset data last slot)) s

/-- FIRMWARE_ACTIVATE. -/
def execFirmwareActivate (r : Req) (s : State) : Host.Outcome State Fault Refusal := commandRow r 0x9030 2 1 firmwareActivate s

/-- FIRMWARE_DRAIN_RESET. -/
def execFirmwareDrainReset (r : Req) (s : State) : Host.Outcome State Fault Refusal := commandRow r 0x9030 2 2 firmwareDrainReset s

/-- FIRMWARE_CANCEL. -/
def execFirmwareCancel (r : Req) (s : State) : Host.Outcome State Fault Refusal := commandRow r 0x9030 2 3 firmwareCancel s

/-- PROVISIONING. -/
def execProvisioning (r : Req) (data : Bytes) (s : State) : Host.Outcome State Fault Refusal := writeRow r 0x9060 1 data (provision data) s

/-- CLIENT_KEY_SLOT_WRITE. -/
def execClientKeySlotWrite (r : Req) (slot : Nat) (data : Bytes) (s : State) : Host.Outcome State Fault Refusal :=
  writeRow r 0x9010 1 data (fun x => clientKeySlotWrite (x.ownSlot r.sid) slot data x) s

/-- IMAGE_KEY_WRITE. -/
def execImageKeyWrite (r : Req) (slot : Nat) (data : Bytes) (s : State) : Host.Outcome State Fault Refusal :=
  writeRow r 0x9040 1 data (imageKeyWrite slot data) s

/-- MACSEC_KEY_WRITE. -/
def execMacsecKeyWrite (r : Req) (mac : Nat) (sci : Bytes) (an : Nat) (sas : List SaWrite) (s : State) : Host.Outcome State Fault Refusal :=
  writeRow r 0x9050 2 [] (macsecKeyWrite mac sci an sas) s

/-- QUARANTINE_RELEASE. -/
def execQuarantineRelease (r : Req) (port : Nat) (s : State) : Host.Outcome State Fault Refusal :=
  writeRow r 0xA000 4 [] (quarantineRelease port) s

/-- WINDOW_PAGE_WRITE. -/
def execWindowPageWrite (r : Req) (addr count rsvd : Nat) (data : Bytes) (s : State) : Host.Outcome State Fault Refusal :=
  writeRow r 0x6100 4 [] (windowPageWrite addr count rsvd data) s

/-- WINDOW_SEGMENT_WRITE: one segment of 6100.01. -/
def execWindowSegmentWrite (r : Req) (offset : Nat) (data : Bytes) (last : Bool) (s : State) : Host.Outcome State Fault Refusal :=
  onEndpoint r (State.segWriteReq r 0x6100 1 offset data last false (fun _ x => Reply.ok x) (windowSegmentWrite offset data last)) s

/-- BLOCK_PROTECT_WRITE. -/
def execBlockProtectWrite (r : Req) (value : Nat) (s : State) : Host.Outcome State Fault Refusal :=
  writeRow r 0x6100 2 [] (blockProtectWrite value) s

/-- COOLANT_INLET_REPORT. -/
def execCoolantInletReport (r : Req) (value : Int) (s : State) : Host.Outcome State Fault Refusal :=
  writeRow r 0xB020 1 [] (coolantWrite value) s

end Sys2Proof.Machine
end

