-- ==== Sys2Proof/Machine/Dispatch.lean ====
section
/-!
DEFINITION. The dispatch: one arm per command, each one direct call of its meaning.
-/

namespace Sys2Proof.Machine

def exec (i : Instr) (s : State) : Host.Outcome State Fault Refusal :=
  match i with
  | .read r idx sub => Sys2Proof.Machine.execRead r idx sub s
  | .write r idx sub data => Sys2Proof.Machine.execWrite r idx sub data s
  | .segRead r idx sub offset => Sys2Proof.Machine.execSegRead r idx sub offset s
  | .segWrite r idx sub offset data last => Sys2Proof.Machine.execSegWrite r idx sub offset data last s
  | .abort r idx sub => Sys2Proof.Machine.execAbort r idx sub s
  | .describe r idx sub => Sys2Proof.Machine.execDescribe r idx sub s
  | .badPduDiscard ep length lenField sid vlan => Sys2Proof.Machine.execBadPduDiscard ep length lenField sid vlan s
  | .lockExpiry ep => Sys2Proof.Machine.execLockExpiry ep s
  | .transferTimeout ep sid idx sub => Sys2Proof.Machine.execTransferTimeout ep sid idx sub s
  | .sessionIdleTimeout sid => Sys2Proof.Machine.execSessionIdleTimeout sid s
  | .sessionHello r offset data last idle => Sys2Proof.Machine.execSessionHello r offset data last idle s
  | .sessionChallenge nonce seed => Sys2Proof.Machine.execSessionChallenge nonce seed s
  | .sessionProve r offset data last edOk mlOk => Sys2Proof.Machine.execSessionProve r offset data last edOk mlOk s
  | .sessionClose r sid => Sys2Proof.Machine.execSessionClose r sid s
  | .start r => Sys2Proof.Machine.execStart r s
  | .drain r => Sys2Proof.Machine.execDrain r s
  | .hardStop r => Sys2Proof.Machine.execHardStop r s
  | .exitSafe r => Sys2Proof.Machine.execExitSafe r s
  | .enterSafe r => Sys2Proof.Machine.execEnterSafe r s
  | .drainComplete => Sys2Proof.Machine.execDrainComplete s
  | .hang core => Sys2Proof.Machine.execHang core s
  | .freezeTimeout u => Sys2Proof.Machine.execFreezeTimeout u s
  | .dumpComplete => Sys2Proof.Machine.execDumpComplete s
  | .cutDump r value => Sys2Proof.Machine.execCutDump r value s
  | .memoryReadRequest r space unit line lines => Sys2Proof.Machine.execMemoryReadRequest r space unit line lines s
  | .tensorWatchArm r core stepno bufidx ordinal first lines rsvd => Sys2Proof.Machine.execTensorWatchArm r core stepno bufidx ordinal first lines rsvd s
  | .tensorWatchDisarm r core stepno bufidx ordinal first lines rsvd => Sys2Proof.Machine.execTensorWatchDisarm r core stepno bufidx ordinal first lines rsvd s
  | .counterEpochCommand r mask => Sys2Proof.Machine.execCounterEpochCommand r mask s
  | .acknowledge r seq => Sys2Proof.Machine.execAcknowledge r seq s
  | .capoArm r => Sys2Proof.Machine.execCapoArm r s
  | .capoWithdraw r => Sys2Proof.Machine.execCapoWithdraw r s
  | .capoDiscard r => Sys2Proof.Machine.execCapoDiscard r s
  | .armComplete => Sys2Proof.Machine.execArmComplete s
  | .manifestDelivery r offset data last edOk mlOk => Sys2Proof.Machine.execManifestDelivery r offset data last edOk mlOk s
  | .imageDataDelivery r offset data last => Sys2Proof.Machine.execImageDataDelivery r offset data last s
  | .objectReceived entry source obj late => Sys2Proof.Machine.execObjectReceived entry source obj late s
  | .objectFetchTimeout entry => Sys2Proof.Machine.execObjectFetchTimeout entry s
  | .sourceRetry entry => Sys2Proof.Machine.execSourceRetry entry s
  | .programLoopStart site side row cells => Sys2Proof.Machine.execProgramLoopStart site side row cells s
  | .programLoopComplete site side row failing => Sys2Proof.Machine.execProgramLoopComplete site side row failing s
  | .sealReadbackDone site side digest => Sys2Proof.Machine.execSealReadbackDone site side digest s
  | .sideFence => Sys2Proof.Machine.execSideFence s
  | .oldSideRelease => Sys2Proof.Machine.execOldSideRelease s
  | .planeScanDone site side digest marginCount => Sys2Proof.Machine.execPlaneScanDone site side digest marginCount s
  | .tuningPassComplete site res => Sys2Proof.Machine.execTuningPassComplete site res s
  | .csi2FrameStart port vc ecc early => Sys2Proof.Machine.execCsi2FrameStart port vc ecc early s
  | .csi2LongPacket port vc dt ecc crcOk samples => Sys2Proof.Machine.execCsi2LongPacket port vc dt ecc crcOk samples s
  | .csi2FrameEnd port vc ecc wins => Sys2Proof.Machine.execCsi2FrameEnd port vc ecc wins s
  | .captureWindowClose => Sys2Proof.Machine.execCaptureWindowClose s
  | .batchDeadline => Sys2Proof.Machine.execBatchDeadline s
  | .streamLoss stream => Sys2Proof.Machine.execStreamLoss stream s
  | .periodicBatch => Sys2Proof.Machine.execPeriodicBatch s
  | .batchOpen temps drainWins => Sys2Proof.Machine.execBatchOpen temps drainWins s
  | .frameBufferRelease ordinal => Sys2Proof.Machine.execFrameBufferRelease ordinal s
  | .intakeArm r => Sys2Proof.Machine.execIntakeArm r s
  | .intakeWithdraw r => Sys2Proof.Machine.execIntakeWithdraw r s
  | .policyArm r => Sys2Proof.Machine.execPolicyArm r s
  | .policyWithdraw r => Sys2Proof.Machine.execPolicyWithdraw r s
  | .importDatagram addr port data on => Sys2Proof.Machine.execImportDatagram addr port data on s
  | .ordinalReceived core ordinal boot epoch => Sys2Proof.Machine.execOrdinalReceived core ordinal boot epoch s
  | .clusterOrdinalAccept cluster ordinal => Sys2Proof.Machine.execClusterOrdinalAccept cluster ordinal s
  | .coreBatchStart core => Sys2Proof.Machine.execCoreBatchStart core s
  | .bowStep core bad => Sys2Proof.Machine.execBowStep core bad s
  | .bow site first replay => Sys2Proof.Machine.execBow site first replay s
  | .digTile core faults bad => Sys2Proof.Machine.execDigTile core faults bad s
  | .digSoftmax core bad => Sys2Proof.Machine.execDigSoftmax core bad s
  | .moveStep core badWords => Sys2Proof.Machine.execMoveStep core badWords s
  | .bridgeStep core bad => Sys2Proof.Machine.execBridgeStep core bad s
  | .takeStep core parityOk again => Sys2Proof.Machine.execTakeStep core parityOk again s
  | .signalStep core => Sys2Proof.Machine.execSignalStep core s
  | .waitStep core => Sys2Proof.Machine.execWaitStep core s
  | .tokenArrival core t => Sys2Proof.Machine.execTokenArrival core t s
  | .waitTimeout timer => Sys2Proof.Machine.execWaitTimeout timer s
  | .shapeStep core bad => Sys2Proof.Machine.execShapeStep core bad s
  | .runDeathNotice core ordinal run cause => Sys2Proof.Machine.execRunDeathNotice core ordinal run cause s
  | .sceneGather core bad => Sys2Proof.Machine.execSceneGather core bad s
  | .sceneScatter core bad => Sys2Proof.Machine.execSceneScatter core bad s
  | .probeStep core => Sys2Proof.Machine.execProbeStep core s
  | .droneKernelSlot core faults => Sys2Proof.Machine.execDroneKernelSlot core faults s
  | .droneTuningWindow core => Sys2Proof.Machine.execDroneTuningWindow core s
  | .droneScanSlot core => Sys2Proof.Machine.execDroneScanSlot core s
  | .markCheckpoint core elapsedNs => Sys2Proof.Machine.execMarkCheckpoint core elapsedNs s
  | .markLayerStart core => Sys2Proof.Machine.execMarkLayerStart core s
  | .markRunEnd core => Sys2Proof.Machine.execMarkRunEnd core s
  | .endStep core => Sys2Proof.Machine.execEndStep core s
  | .tabBlockFetch core block good => Sys2Proof.Machine.execTabBlockFetch core block good s
  | .arrayGrant cluster core => Sys2Proof.Machine.execArrayGrant cluster core s
  | .duplicateExecution tile faults => Sys2Proof.Machine.execDuplicateExecution tile faults s
  | .thirdExecution tile faults => Sys2Proof.Machine.execThirdExecution tile faults s
  | .unitBackToOk u => Sys2Proof.Machine.execUnitBackToOk u s
  | .arrayDrone cluster cut faults => Sys2Proof.Machine.execArrayDrone cluster cut faults s
  | .publishRun ordinal run full => Sys2Proof.Machine.execPublishRun ordinal run full s
  | .retractionRepeat ordinal run => Sys2Proof.Machine.execRetractionRepeat ordinal run s
  | .ledgerPublish => Sys2Proof.Machine.execLedgerPublish s
  | .linkDown mac => Sys2Proof.Machine.execLinkDown mac s
  | .linkUp mac => Sys2Proof.Machine.execLinkUp mac s
  | .exportRateSummary => Sys2Proof.Machine.execExportRateSummary s
  | .storeAllowanceRefill => Sys2Proof.Machine.execStoreAllowanceRefill s
  | .egoMotionMessage on data secured late => Sys2Proof.Machine.execEgoMotionMessage on data secured late s
  | .egoMotionWindowEnd => Sys2Proof.Machine.execEgoMotionWindowEnd s
  | .warpStart => Sys2Proof.Machine.execWarpStart s
  | .warpComplete badCells => Sys2Proof.Machine.execWarpComplete badCells s
  | .sceneUpdateApply => Sys2Proof.Machine.execSceneUpdateApply s
  | .sceneExport => Sys2Proof.Machine.execSceneExport s
  | .replayModeEnter r data => Sys2Proof.Machine.execReplayModeEnter r data s
  | .replayModeLeave r data => Sys2Proof.Machine.execReplayModeLeave r data s
  | .replayBatchDescriptor r data => Sys2Proof.Machine.execReplayBatchDescriptor r data s
  | .replayInputData r data => Sys2Proof.Machine.execReplayInputData r data s
  | .resetRelease straps testEn railsOk crystalOk rootKeys flashOk slots => Sys2Proof.Machine.execResetRelease straps testEn railsOk crystalOk rootKeys flashOk slots s
  | .romRecoveryDelivery slot => Sys2Proof.Machine.execRomRecoveryDelivery slot s
  | .bootComplete entropyOk => Sys2Proof.Machine.execBootComplete entropyOk s
  | .selftestComplete imageOk scans drones => Sys2Proof.Machine.execSelftestComplete imageOk scans drones s
  | .entropyFailure => Sys2Proof.Machine.execEntropyFailure s
  | .firmwareDelivery r offset data last slot => Sys2Proof.Machine.execFirmwareDelivery r offset data last slot s
  | .firmwareActivate r => Sys2Proof.Machine.execFirmwareActivate r s
  | .firmwareDrainReset r => Sys2Proof.Machine.execFirmwareDrainReset r s
  | .firmwareCancel r => Sys2Proof.Machine.execFirmwareCancel r s
  | .provisioning r data => Sys2Proof.Machine.execProvisioning r data s
  | .clientKeySlotWrite r slot data => Sys2Proof.Machine.execClientKeySlotWrite r slot data s
  | .imageKeyWrite r slot data => Sys2Proof.Machine.execImageKeyWrite r slot data s
  | .macsecKeyWrite r mac sci an sas => Sys2Proof.Machine.execMacsecKeyWrite r mac sci an sas s
  | .macsecFrameReceived mac channel an pn tagPresent icvOk => Sys2Proof.Machine.execMacsecFrameReceived mac channel an pn tagPresent icvOk s
  | .testUnlock serial edOk mlOk chainOk => Sys2Proof.Machine.execTestUnlock serial edOk mlOk chainOk s
  | .quarantineRelease r port => Sys2Proof.Machine.execQuarantineRelease r port s
  | .portTrainingComplete port nonce => Sys2Proof.Machine.execPortTrainingComplete port nonce s
  | .trainingTimeout port => Sys2Proof.Machine.execTrainingTimeout port s
  | .absentRetry port => Sys2Proof.Machine.execAbsentRetry port s
  | .bringupTimeout port => Sys2Proof.Machine.execBringupTimeout port s
  | .hello port dev partnerPort arrange progid imgseq nonce => Sys2Proof.Machine.execHello port dev partnerPort arrange progid imgseq nonce s
  | .evidence port edOk mlOk chainOk secver debug seed => Sys2Proof.Machine.execEvidence port edOk mlOk chainOk secver debug seed s
  | .keyshareI port x25519 ek edOk mlOk seed => Sys2Proof.Machine.execKeyshareI port x25519 ek edOk mlOk seed s
  | .keyshareR port x25519 ct edOk mlOk kemOk => Sys2Proof.Machine.execKeyshareR port x25519 ct edOk mlOk kemOk s
  | .rekeyStart port seed => Sys2Proof.Machine.execRekeyStart port seed s
  | .rekeyI port x25519 ek edOk mlOk seed => Sys2Proof.Machine.execRekeyI port x25519 ek edOk mlOk seed s
  | .rekeyR port x25519 ct edOk mlOk kemOk => Sys2Proof.Machine.execRekeyR port x25519 ct edOk mlOk kemOk s
  | .rekeyTimeout port => Sys2Proof.Machine.execRekeyTimeout port s
  | .flitReceived port f => Sys2Proof.Machine.execFlitReceived port f s
  | .idleFlit port => Sys2Proof.Machine.execIdleFlit port s
  | .replayTimeout port => Sys2Proof.Machine.execReplayTimeout port s
  | .lockLoss port => Sys2Proof.Machine.execLockLoss port s
  | .starvationEvent port cls => Sys2Proof.Machine.execStarvationEvent port cls s
  | .starveLimit port cls => Sys2Proof.Machine.execStarveLimit port cls s
  | .remoteWrite src eseq ordinal run flags unit space line lines resend data faults => Sys2Proof.Machine.execRemoteWrite src eseq ordinal run flags unit space line lines resend data faults s
  | .remoteRead src eseq ordinal run unit space line span replyUnit replySpace replyLine => Sys2Proof.Machine.execRemoteRead src eseq ordinal run unit space line span replyUnit replySpace replyLine s
  | .remoteToken src eseq t unit => Sys2Proof.Machine.execRemoteToken src eseq t unit s
  | .ready src set absent aftercare => Sys2Proof.Machine.execReady src set absent aftercare s
  | .openMsg src ordinal epoch decision => Sys2Proof.Machine.execOpenMsg src ordinal epoch decision s
  | .complete src ordinal run status corrected verdictsDone recs => Sys2Proof.Machine.execComplete src ordinal run status corrected verdictsDone recs s
  | .death src ordinal run cause => Sys2Proof.Machine.execDeath src ordinal run cause s
  | .stale src ordinal run cause => Sys2Proof.Machine.execStale src ordinal run cause s
  | .fence src ordinal => Sys2Proof.Machine.execFence src ordinal s
  | .arm src kind bstar epoch => Sys2Proof.Machine.execArm src kind bstar epoch s
  | .armack src kind bstar epoch result => Sys2Proof.Machine.execArmack src kind bstar epoch result s
  | .seallost src site => Sys2Proof.Machine.execSeallost src site s
  | .digest src epoch value => Sys2Proof.Machine.execDigest src epoch value s
  | .replicaDigestSend => Sys2Proof.Machine.execReplicaDigestSend s
  | .safe src member ordinal cause => Sys2Proof.Machine.execSafe src member ordinal cause s
  | .dropMsg src member ordinal cause => Sys2Proof.Machine.execDropMsg src member ordinal cause s
  | .joinMsg src member ordinal cause => Sys2Proof.Machine.execJoinMsg src member ordinal cause s
  | .offer src progid imgseq digests => Sys2Proof.Machine.execOffer src progid imgseq digests s
  | .request src digest => Sys2Proof.Machine.execRequest src digest s
  | .object src digest obj late => Sys2Proof.Machine.execObject src digest obj late s
  | .memberTimeout member => Sys2Proof.Machine.execMemberTimeout member s
  | .groupFormation joining ids rows publishers windows depends => Sys2Proof.Machine.execGroupFormation joining ids rows publishers windows depends s
  | .keepStoreAppend readbackOk => Sys2Proof.Machine.execKeepStoreAppend readbackOk s
  | .compaction eraseOk => Sys2Proof.Machine.execCompaction eraseOk s
  | .counterIncrement n verifies => Sys2Proof.Machine.execCounterIncrement n verifies s
  | .windowPageWrite r addr count rsvd data => Sys2Proof.Machine.execWindowPageWrite r addr count rsvd data s
  | .windowSegmentWrite r offset data last => Sys2Proof.Machine.execWindowSegmentWrite r offset data last s
  | .blockProtectWrite r value => Sys2Proof.Machine.execBlockProtectWrite r value s
  | .histogramSnapshot => Sys2Proof.Machine.execHistogramSnapshot s
  | .avsAdjust answered tb current volts power10 => Sys2Proof.Machine.execAvsAdjust answered tb current volts power10 s
  | .temperatureSample readings deviant hot130 => Sys2Proof.Machine.execTemperatureSample readings deviant hot130 s
  | .thermalTrip => Sys2Proof.Machine.execThermalTrip s
  | .railSample millivolts => Sys2Proof.Machine.execRailSample millivolts s
  | .calibrationToken counts deviates running => Sys2Proof.Machine.execCalibrationToken counts deviates running s
  | .referenceClockLoss => Sys2Proof.Machine.execReferenceClockLoss s
  | .referenceClockReturn => Sys2Proof.Machine.execReferenceClockReturn s
  | .coolantInletReport r value => Sys2Proof.Machine.execCoolantInletReport r value s
  | .coolantReportExpiry => Sys2Proof.Machine.execCoolantReportExpiry s
  | .pfailLow => Sys2Proof.Machine.execPfailLow s
  | .pfailHigh => Sys2Proof.Machine.execPfailHigh s
  | .safeNLow held => Sys2Proof.Machine.execSafeNLow held s
  | .lockstepMismatch pair => Sys2Proof.Machine.execLockstepMismatch pair s
  | .powerLoss o => Sys2Proof.Machine.execPowerLoss o s
  | .tuningSetPeriodEnd => Sys2Proof.Machine.execTuningSetPeriodEnd s
  | .dramCopyScan segment ok0 ok1 => Sys2Proof.Machine.execDramCopyScan segment ok0 ok1 s
  | .windowPageProgrammed => Sys2Proof.Machine.execWindowPageProgrammed s

end Sys2Proof.Machine
end

