-- ==== Sys2Proof/Safety.lean ====
section
/-!
DEFINITION. What counts as a safe step, in the terms that the statements use: the command runs to a next state, and the memories
and tables of the state keep their canonical form; and how a statement says which parts of the state a command leaves alone.
-/

namespace Sys2Proof.Machine

/-- A step that neither faults nor is refused. -/
def runs (c : Instr) (s : State) : Prop := ∃ t, exec c s = .next t

/-- The canonical form of every memory of the state: addresses strictly rising, no byte equal to what an unlisted address reads
as. -/
def State.memOk (s : State) : Bool :=
  let z : Nat → Byte := fun _ => 0#8
  Memory.wf z s.mem.sram && Memory.wf z s.mem.sb && Memory.wf z s.mem.bdsram && Memory.wf z s.mem.dram &&
    Memory.wf z s.mem.slow && Memory.wf z s.mem.slowAlt && Memory.wf z s.mem.frames && Memory.wf z s.mem.imports &&
    Memory.wf planeDefault s.mem.planes && Memory.wf scaleDefault s.mem.scales && rising s.mem.poison &&
    rising s.mem.parity
where
  /-- Numbers that strictly rise. -/
  rising : List Nat → Bool
  | a :: b :: l => a < b && rising (b :: l)
  | _ => true

/-- The canonical form of the tables of units: sites, planes, cores, clusters with their work-counter banks, ports and members; and
of the lifetime counters, the compatibility window, the calibration counts, the frame sequence numbers and the scene grid. -/
def State.tablesOk (s : State) : Bool :=
  twf siteDefault s.sites && twf (fun _ => {}) s.planes && twf (fun _ => {}) s.cores && twf (fun _ => {}) s.clusters &&
    s.clusters.all (fun e => twf (fun _ => {}) e.2.banks) &&
    twf (fun _ => {}) s.group.ports && twf (fun _ => {}) s.group.peers && twf (fun _ => {}) s.keep.counters &&
    twf (fun _ => 0xFF#8) s.keep.window && twf (fun _ => 0) s.power.cals && twf (fun _ => 0) s.walk.frameSeq &&
    twf (fun _ => enteringCtx s.scene.noEgoAll false) s.scene.grid

/-- Every core has its eight predicates and limits, its four tile registers with their grants, and its four accumulator banks
(R139, R141, R170); every scene context has 64 bytes (R335). -/
def State.shapesOk (s : State) : Bool :=
  s.cores.all (fun e => e.2.preds.length == 8 && e.2.limits.length == 8 && e.2.tiles.length == 4 && e.2.grants.length == 4 &&
    e.2.banks.length == 4) && s.scene.grid.all (fun e => e.2.length == 64)

/-! ### Frames -/

/-- The parts of the state. -/
inductive Part where
  | pending | dev | dict | obs | sites | planes | cores | clusters | walk | capo | mem | scene | pub | faults | keep | flash | macsec
  | group | power | passLog | tx
  deriving DecidableEq, Repr

/-- Two states agree on a part. -/
def Part.same (s t : State) : Part → Prop
  | .pending => t.pending = s.pending
  | .dev => t.dev = s.dev
  | .dict => t.dict = s.dict
  | .obs => t.obs = s.obs
  | .sites => t.sites = s.sites
  | .planes => t.planes = s.planes
  | .cores => t.cores = s.cores
  | .clusters => t.clusters = s.clusters
  | .walk => t.walk = s.walk
  | .capo => t.capo = s.capo
  | .mem => t.mem = s.mem
  | .scene => t.scene = s.scene
  | .pub => t.pub = s.pub
  | .faults => t.faults = s.faults
  | .keep => t.keep = s.keep
  | .flash => t.flash = s.flash
  | .macsec => t.macsec = s.macsec
  | .group => t.group = s.group
  | .power => t.power = s.power
  | .passLog => t.passLog = s.passLog
  | .tx => t.tx = s.tx

/-- The frame of a command: every part that is not listed is as it was. -/
def changesOnly (l : List Part) (s t : State) : Prop := ∀ p, p ∉ l → p.same s t

/-- The parts that sending on a MAC may change: a protected frame takes a packet number and is counted, and a packet number that nears its end
is recorded (14 R435). -/
def sendParts : List Part := [.tx, .macsec, .obs, .faults, .keep]

/-- The parts that writing a fault record may change: the records, what the keep store is asked to hold, and its export. -/
def recordParts : List Part := sendParts

/-- The parts that an answer may change. -/
def answerParts : List Part := .dict :: sendParts

/-- The parts that entering SAFE may change (R309): planes, memory, flash, settings, the scene grid, the supplies and the links'
associations are not among them. -/
def safeParts : List Part := [.dev, .cores, .sites, .clusters, .walk, .capo, .pub, .group] ++ recordParts

/-- The parts that ending or giving up a write of a plane may change, its wear record and its fault records among them (R211, R212). -/
def writeParts : List Part := [.planes, .capo] ++ recordParts

/-- A fault record of this kind was written between two states, before or behind others (R302). -/
def wroteRecord (kind : Nat) (s t : State) : Prop := ∃ l : List Rec, t.faults.recs = l ++ s.faults.recs ∧ ∃ r ∈ l, r.kind = kind

/-- No fault record was written between two states but those about the packet numbers of what a MAC sent, 0x4A and 0x4B (14 R435). -/
def wroteNone (s t : State) : Prop := ∃ l : List Rec, t.faults.recs = l ++ s.faults.recs ∧ ∀ r ∈ l, r.kind = 0x4A ∨ r.kind = 0x4B

/-! ### Steps of a tab -/

/-- The next step of a core, `i`, issued and has left no step in flight under its number (R134): the core goes on behind it. -/
def State.stepped (core : Nat) (i : Issue) (s t : State) : Prop :=
  (t.core core).next = (s.core core).next + 1 ∧ ∀ f ∈ (t.core core).flight, f.stepno ≠ stepNo i.w

/-- The next step of a core, `i`, issued and is in flight on its unit, with the resources that it reads and
writes (R134, R135); it is masked from its issue on, or not at all (R146). -/
def State.flying (core : Nat) (i : Issue) (parked masked : Bool) (s t : State) : Prop :=
  (t.core core).next = (s.core core).next + 1 ∧
  (t.core core).flight = (s.core core).flight ++
    [⟨stepNo i.w, stepUnit i.w, parked, (s.stepRes core i.t i.w).1, (s.stepRes core i.t i.w).2, masked, 0⟩]

/-- A core that walks batch b, in any state of its walk, takes block `block` of its tab now: the tab is resident, or the block is among those
that the tab buffer fetches ahead (R155, R156). -/
def State.fetches (s : State) (core block b : Nat) (tab : Tab) : Prop :=
  (s.core core).cur = some b ∧ s.tab? core (s.core core).side = some tab ∧
  ((s.core core).seq = .walk ∨ (s.core core).seq = .stalled ∨ (s.core core).seq = .draining) ∧ (s.core core).refetch = false ∧
  block < tab.blocks ∧ (tab.resident = true ∨ (s.core core).next / 256 ≤ block ∧ block ≤ (s.core core).next / 256 + 7)

/-- The tab buffer lacks the block: this is its first fetch, and no fetch again (R156). -/
def State.firstFetch (s : State) (core block : Nat) (tab : Tab) : Bool := !tab.resident && !(s.core core).ring.contains block

/-- An address lies inside its area: 1 MiB of a core's SRAM, 8 MiB of a soundboard, 32 GiB of a side's slower tier, 16 MiB of one of
three frame buffers (R509). -/
def Area.holds : Area → Nat → Bool
  | .sram _, x => x < 2 ^ 20
  | .sb _, x => x < 2 ^ 23
  | .slow _, x => x < 2 ^ 35
  | .frame _ b, x => b < 3 && x < 2 ^ 24
  | _, _ => true

/-- Of the bytes of every area, a step changed at most those of area `a` from address `first` up to, and not with, `last`. -/
def storesOnly (a : Area) (first last : Nat) (s t : State) : Prop :=
  ∀ (b : Area) (x : Nat), b.holds x = true → (b ≠ a ∨ x < first ∨ last ≤ x) → t.load b x 1 = s.load b x 1

/-! ### Requests -/

/-- A request that its endpoint takes from its queue and whose header is well formed: the dictionary answers, the endpoint is open, the frame is
the device's and passes MACsec where that is on, fewer than 32 requests wait, OP is the one named and every reserved field is 0
(13_malrov_dictionary.md R391 to R393, R403, R404; 14 R435). -/
def State.takes (s : State) (r : Req) (op : Nat) : Prop :=
  r.ep < 4 ∧ s.dictAnswers = true ∧ s.endpointOpen r.ep = true ∧ s.unprotected r = false ∧ s.addressed r = true ∧ r.ahead < 32 ∧ 1 ≤ op ∧
    op ≤ 6 ∧ r.op = op ∧ r.rsvd = 0

/-- The request is inside an open session `x`: its tag verifies, its SEQ is above every accepted one and is not the last (R401). -/
def State.within (s : State) (r : Req) (x : Session) : Prop :=
  s.session? r.sid = some x ∧ r.sid ≠ 0 ∧ r.tagOk = true ∧ (x.started = true → x.highSeq < r.seq) ∧ r.seq < 0xFFFFFFFF

/-- A write inside a session that nothing turns away: session, role, access and device state accept it (R387, R398, R404, R406), and no
answer of its endpoint waits. -/
def State.admits (s : State) (r : Req) (x : Session) (op idx sub : Nat) (d : Bytes) : Prop :=
  s.takes r op ∧ s.within r x ∧ s.writeGate r idx sub d = none ∧ s.dict.outbox.any (fun a => a.ep == r.ep) = false

/-- A write of a whole value inside a session that nothing turns away: a WRITE that one segment holds, or the LAST segment of a segmented
write (R394, R396). -/
def State.writes (s : State) (r : Req) (x : Session) (idx sub : Nat) (d : Bytes) : Prop :=
  s.admits r x r.op idx sub d ∧ (r.op = 2 ∨ r.op = 4) ∧ s.tooLong r (((s.obj? idx sub).bind (·.len)).getD d.length) = none

/-- A segment of a write inside a session that nothing turns away. -/
def State.admitsSegment (s : State) (r : Req) (x : Session) (idx sub : Nat) : Prop := s.admits r x 4 idx sub []

/-- It is the first segment of a transfer that may begin. -/
def State.begins (s : State) (r : Req) (idx sub : Nat) : Prop := s.transfer? r idx sub = none ∧ s.transferBusy r idx sub true = false

/-- It follows a transfer `y` of its requester: OFFSET is where `y` has come to (R395). -/
def State.follows (s : State) (r : Req) (idx sub offset : Nat) (y : Transfer) : Prop :=
  s.transfer? r idx sub = some y ∧ y.writing = true ∧ y.ended = false ∧ y.offset < offset ∧ y.offset + y.seg.length = offset

/-- The same outside a session (SID 0). -/
def State.admitsPlain (s : State) (r : Req) (op idx sub : Nat) : Prop :=
  s.takes r op ∧ r.sid = 0 ∧ s.writeGate r idx sub [] = none ∧ s.dict.outbox.any (fun a => a.ep == r.ep) = false

def State.writesPlain (s : State) (r : Req) (idx sub : Nat) (d : Bytes) : Prop :=
  s.admitsPlain r r.op idx sub ∧ (r.op = 2 ∨ r.op = 4) ∧ s.tooLong r (((s.obj? idx sub).bind (·.len)).getD d.length) = none

/-- State `u` sends the answer to a request of state `s` inside session `x`, with this OFFSET, status and data (R389): on its endpoint, as far as
that can send (R391, R392; 14 R435). -/
def State.sent (s : State) (r : Req) (x : Session) (idx sub offset status : Nat) (data : Bytes) (u : State) : State :=
  u.sendAnswer r.ep (response x.key r.ep (s.replyTo r) (r.op + 128) r.tid idx sub status r.sid r.seq false offset data)

/-- The same outside a session, without a tag. -/
def State.sentPlain (s : State) (r : Req) (idx sub offset status : Nat) (data : Bytes) (u : State) : State :=
  u.sendAnswer r.ep (response [] r.ep (s.replyTo r) (r.op + 128) r.tid idx sub status 0 r.seq false offset data)

end Sys2Proof.Machine
end

