-- ==== Sys2Proof/Certificates/Slice0/Obligations.lean ====
section
/-!
DEFINITION. The statements for the provers, one definition each; `OBLIGATIONS.json` lists them with their rules.
-/

open Sys2Proof Sys2Proof.Machine

/-! ### The machine as a whole -/

/-- A step takes the command at the front of the queue and runs it on the state with the queue's rest; on an empty queue the block idles, which is the model's choice (log 7). No word spells a command, since the opcode table gives its rows no bits, so withFetchWord changes nothing. -/
def Obligations.StepRunsTheFrontCommand : Prop :=
  (∀ (s : State) (c : Instr) (l : List Instr), s.pending = c :: l → step s = exec c { s with pending := l }) ∧
  (∀ s : State, s.pending = [] → step s = .next s) ∧
  (∀ (s : State) (nbits w : Nat), decodeTableWord nbits w = none ∧ s.withFetchWord nbits w = s)

/-- Right after reset: RESET_N is low in BOOT and FAULT_N is low (R307, R409); no command waits; no session, lock or transfer (R404); the capo is IDLE; every core is UNLOADED with true predicates, limits 65,535, no tile and an empty flight (R141, R158); sites are active but the standby of each core (R65); ports are DISABLED with no key (R360); counters are 0; the compute-check fraction is 2 and the release delay 0; the throttle is off; the last window page is not interrupted and the window reads 0xFF (R458); every memory and table is in canonical form. Values that log 5 names are the model's choice and are not stated. -/
def Obligations.ResetState : Prop :=
  State.reset.pending = [] ∧ State.reset.dev.state = .boot ∧ State.reset.dev.resetHeld = true ∧ State.reset.faultNLow = true ∧
  State.reset.dev.bOpen = none ∧ State.reset.dev.safeCauses = [] ∧ State.reset.dev.batchOpening = false ∧
  State.reset.dict.sessions = [] ∧ State.reset.dict.locked = [] ∧ State.reset.dict.transfers = [] ∧ State.reset.dict.outbox = [] ∧
  State.reset.capo.state = .idle ∧ State.reset.capo.staged = none ∧ State.reset.capo.bstar = ord48 ∧
  (∀ n, (State.reset.core n).seq = .unloaded ∧ (∀ p, p < 8 → (State.reset.core n).pred p = true ∧ (State.reset.core n).limit p = 65535) ∧
    (∀ k, k < 4 → (State.reset.core n).tile k = 65535) ∧ (State.reset.core n).flight = [] ∧ (State.reset.core n).channels = []) ∧
  (∀ n, (State.reset.site n).state = (if n % 5 = 4 then .standby else .active) ∧ (State.reset.site n).passing = none) ∧
  (∀ p, (State.reset.port p).state = .disabled ∧ (State.reset.port p).keyTx = [] ∧ (State.reset.port p).keyRx = []) ∧
  (∀ k, (tget0 {} State.reset.obs.engine k).value = 0 ∧ (tget0 {} State.reset.obs.core k).value = 0 ∧
    (tget0 {} State.reset.obs.link k).value = 0) ∧
  State.reset.walk.fraction = 2 ∧ State.reset.walk.release = 0 ∧ State.reset.walk.batches = [] ∧ State.reset.walk.runs = [] ∧
  State.reset.faults.recs = [] ∧ State.reset.faults.unacked = [] ∧ State.reset.faults.allowance = 32 ∧ State.reset.power.throttle = false ∧
  State.reset.keep.interrupted = 0xFFFF ∧ State.reset.keep.page = none ∧ (∀ a, tget0 0xFF#8 State.reset.keep.window a = 0xFF#8) ∧
  State.reset.memOk = true ∧ State.reset.tablesOk = true ∧ State.reset.shapesOk = true

/-- Every step keeps the canonical form of every memory of the block (addresses rising, no byte equal to what an unlisted address reads as); the canonical form of its tables of sites, planes, cores, clusters, ports, members and counters, of the compatibility window and of the scene grid; and the shapes of its cores' register files and of its scene contexts: from every state that has them, whatever command is at the front. These forms are the model's own data invariants (log 6). -/
def Obligations.StepKeepsTheCanonicalForms : Prop :=
  ∀ s t : State, step s = .next t →
    (s.memOk = true → t.memOk = true) ∧ (s.tablesOk = true → t.tablesOk = true) ∧ (s.shapesOk = true → t.shapesOk = true)

/-- Every command of the table whose operands are well formed (it names units, ports, endpoints, batches and runs that exist) runs to a next state in every state, without a fault or a refusal, and leaves the queue of waiting commands as it found it. That each command is one atomic step is the model's choice (log 9). -/
def Obligations.EveryCommandCompletes : Prop :=
  ∀ (c : Instr) (s : State), c.wf = true → ∃ t, exec c s = .next t ∧ t.pending = s.pending

/-- The straps change only when RESET_N rises: a command whose next state is out of reset leaves them as they were, or it is the RESET_RELEASE that ended the reset, and then it took them from the strap pins (their 4 bits). B000.05 reads them. -/
def Obligations.StrapsAreSampledAtResetRelease : Prop :=
  (∀ (c : Instr) (s t : State), exec c s = .next t → t.dev.resetHeld = false →
      t.dev.straps = s.dev.straps ∨
        (s.dev.resetHeld = true ∧
          ∃ straps testEn railsOk crystalOk rootKeys flashOk slots, c = .resetRelease straps testEn railsOk crystalOk rootKeys flashOk slots ∧
            t.dev.straps = straps % 16)) ∧
  (∀ (s : State) (straps : Nat) (testEn railsOk crystalOk flashOk : Bool) (rootKeys : Bytes) (slots : List FwSlot), s.dev.resetHeld = true →
      ∃ t, exec (.resetRelease straps testEn railsOk crystalOk rootKeys flashOk slots) s = .next t ∧ t.dev.resetHeld = false ∧
        t.dev.straps = straps % 16) ∧
  (∀ s : State, s.readKey 0xB00005 = leBytes 1 s.dev.straps)

/-- With AVSBus in use and the device awake, an unanswered AVS_ADJUST before the third in a row only counts. The third writes record 0x5A and stops the writing of the setpoint, which stays as it is. While it is stopped, unanswered adjustments change no setpoint and write no further record, and a TEMPERATURE_SAMPLE still marks a deviating sensor failed with record 0x52. The first answered adjustment resumes: the setpoint takes its step from the value that the regulator reports, or from the floor of the device state when that is higher. -/
def Obligations.ASilentRegulatorStopsTheSetpoint : Prop :=
  ∀ s : State, s.dev.resetHeld = false → s.fixedVdd = false → s.dev.state ≠ .boot →
    (∀ tb current volts p10, s.power.noAnswer < 2 →
      ∃ t, exec (.avsAdjust false tb current volts p10) s = .next t ∧
        t.power = { s.power with noAnswer := s.power.noAnswer + 1 } ∧ changesOnly [.power] s t) ∧
    (∀ tb current volts p10, s.power.noAnswer = 2 → s.power.avsStopped = false →
      ∃ t, exec (.avsAdjust false tb current volts p10) s = .next t ∧
        t.power = { s.power with noAnswer := 3, avsStopped := true } ∧ wroteRecord 0x5A s t ∧
        changesOnly ([.power] ++ recordParts) s t) ∧
    (∀ tb current volts p10, s.power.avsStopped = true →
      ∃ t, exec (.avsAdjust false tb current volts p10) s = .next t ∧ t.power.v = s.power.v ∧ t.power.avsStopped = true ∧
        changesOnly [.power] s t) ∧
    (∀ (k : Nat) (readings : List Int), s.power.avsStopped = true → readings.length = 72 → deviates readings k = true →
      k ∉ s.power.sensorFail → s.power.throttle = false →
      (hottest (goodReadings (insertNew k s.power.sensorFail) readings)).1 < 1888 →
      ∃ t, exec (.temperatureSample readings [k] false) s = .next t ∧ k ∈ t.power.sensorFail ∧ t.power.avsStopped = true ∧
        t.power.v = s.power.v ∧ wroteRecord 0x52 s t ∧ changesOnly ([.power] ++ recordParts) s t) ∧
    (∀ tb current volts p10, s.power.avsStopped = true →
      ∃ t, exec (.avsAdjust true tb current volts p10) s = .next t ∧ t.power.v = s.nextSetpoint (max volts (vddFloor s.dev.state)) tb p10 ∧
        t.power.avsStopped = false ∧ t.power.noAnswer = 0 ∧ changesOnly ([.power] ++ recordParts) s t)

/-- When the programming of a window page ends, its 32-bit write count rises by one, up to 2^32 - 1, and every other page's stays; the page that reaches 1,000,000 writes has record 0x67 written, no other one writes a record (but those that the answer's own packet number calls for, 14 R435), and the page holds its new bytes in every case. 6100.05 reads 1,024 counts of 4 bytes, one per page in order. A loss of power leaves the counts as they are. -/
def Obligations.WindowWritesAreCounted : Prop :=
  (∀ (s : State) (j : PageJob), s.keep.page = some j →
      let n := tget0 0 s.keep.writeCounts j.page
      ∃ t, exec .windowPageProgrammed s = .next t ∧
        tget0 0 t.keep.writeCounts j.page = min (n + 1) (2 ^ 32 - 1) ∧
        (∀ p, p ≠ j.page → tget0 0 t.keep.writeCounts p = tget0 0 s.keep.writeCounts p) ∧
        (n + 1 = 1000000 → wroteRecord 0x67 s t) ∧ (n + 1 ≠ 1000000 → wroteNone s t) ∧
        t.keep.window = putPage j.page j.bytes s.keep.window ∧ changesOnly answerParts s t) ∧
  (∀ s : State, (s.readKey 0x610005).length = 4096 ∧
      ∀ p, p < 1024 → num (s.readKey 0x610005) (4 * p) 4 = tget0 0 s.keep.writeCounts p % 2 ^ 32) ∧
  (∀ (s : State) (o : LossOutcome), ∃ t, exec (.powerLoss o) s = .next t ∧ t.keep.writeCounts = s.keep.writeCounts)

/-- Fault records are never lost, changed or reordered by a command that leaves the device out of reset: it puts its records in front of those already written, the sequence number rises by exactly their number, and each has the sequence number that it was written with, one above the record before it. -/
def Obligations.RecordsAreNumberedInOrder : Prop :=
  ∀ (c : Instr) (s t : State), exec c s = .next t → t.dev.resetHeld = false →
    ∃ l : List Rec, t.faults.recs = l ++ s.faults.recs ∧ t.faults.seq = s.faults.seq + l.length ∧
      ∀ (n : Nat) (r : Rec), l[n]? = some r → r.seq + n + 1 = t.faults.seq

/-! ### Commands of the device state -/

/-- The five state commands of 2000.02, written in a session that admits them. START takes a READY device with a selected image to SERVING, or resumes batch opening of a DEGRADED one. DRAIN begins a drain stop: no further batch opens. HARD STOP freezes the device: it is stopping, and no batch opens. EXIT SAFE of a device whose recorded causes have cleared, with no DEGRADED condition in force, empties the causes and makes it READY, or SERVING where 2000.03 starts it. ENTER SAFE takes it to SAFE with cause 0x05. Each is answered OK; START, EXIT SAFE and ENTER SAFE set 2000.08 at once, DRAIN and HARD STOP where they end; cells and memory stay as they are. How DRAIN ends is log 49. -/
def Obligations.StateCommandsMoveTheDevice : Prop :=
  (∀ (s : State) (r : Req) (x : Session), s.writes r x 0x2000 2 [1#8] → s.dev.draining = false → s.dev.stopping = false →
      (s.dev.state = .ready ∨ (s.dev.state = .degraded ∧ s.dev.batchOpening = false)) → s.capo.selected.isSome = true →
      s.dev.noImage = false → s.group.formed = true → s.dev.debug = false →
      ∃ u, exec (.start r) s = .next (s.sent r x 0x2000 2 0 0 [] u) ∧ u.dev.state = (if s.dev.state = .ready then .serving else .degraded) ∧ u.dev.batchOpening = true ∧
        u.dev.lastOutcome = 1 ∧ changesOnly ([.dict, .dev, .power, .cores, .flash] ++ recordParts) s u) ∧
  (∀ (s : State) (r : Req) (x : Session), s.writes r x 0x2000 2 [2#8] → s.dev.stopping = false →
      (s.dev.state = .serving ∨ (s.dev.state = .degraded ∧ s.dev.batchOpening = true)) →
      ∃ u, exec (.drain r) s = .next (s.sent r x 0x2000 2 0 0 [] u) ∧ u.dev.draining = true ∧ (s.dev.draining = false → u.dev.batchOpening = false) ∧
        u.dev.state = s.dev.state ∧ changesOnly [.dict, .dev, .cores] s u) ∧
  (∀ (s : State) (r : Req) (x : Session), s.writes r x 0x2000 2 [3#8] → s.dev.stopping = false →
      (s.dev.state = .ready ∨ s.dev.state = .serving ∨ s.dev.state = .degraded ∨ s.dev.state = .safe) →
      ∃ u, exec (.hardStop r) s = .next (s.sent r x 0x2000 2 0 0 [] u) ∧ u.dev.stopping = true ∧ u.frozen = true ∧ u.dev.batchOpening = false ∧
        u.dev.priorState = s.dev.state ∧ u.mem = s.mem ∧ u.planes = s.planes ∧ u.flash = s.flash ∧
        u.power = s.power ∧ u.macsec = s.macsec) ∧
  (∀ (s : State) (r : Req) (x : Session), s.writes r x 0x2000 2 [4#8] → s.dev.state = .safe → s.dev.stopping = false →
      s.dev.safeNLow = false → s.dev.safeCauses.all s.causeCleared = true → s.degradedCondition = false →
      ∃ u, exec (.exitSafe r) s = .next (s.sent r x 0x2000 2 0 0 [] u) ∧ (u.dev.state = .ready ∨ u.dev.state = .serving) ∧ u.dev.safeCauses = [] ∧
        u.dev.lastOutcome = 1 ∧ changesOnly ([.dict, .dev, .power, .flash] ++ recordParts) s u) ∧
  (∀ (s : State) (r : Req) (x : Session), s.writes r x 0x2000 2 [5#8] → s.dev.stopping = false →
      (s.dev.state = .ready ∨ s.dev.state = .serving ∨ s.dev.state = .degraded) →
      ∃ u, exec (.enterSafe r) s = .next (s.sent r x 0x2000 2 0 0 [] u) ∧ u.dev.state = .safe ∧ 5 ∈ u.dev.safeCauses ∧ u.dev.batchOpening = false ∧
        changesOnly (.dict :: safeParts) s u)

/-! ### Stops and dumps -/

/-- A HANG of a core that walks freezes the device, with record 0x1B. A FREEZE_TIMEOUT marks its unit. A DUMP_COMPLETE of a stopping device forms the dump, halts every active core and makes the device HALTED; where a command ordered the stop, 2000.08 then reports it done. A CUT_DUMP of a device that a drain stop made READY forms the dump of the cut. A DRAIN_COMPLETE of a drain that is over makes a SERVING device READY and a DEGRADED one stay DEGRADED, at a consistent cut with a partial ledger due. The dump is 7100.05; memory, planes and flash stay as they are. How a drain ends is log 49. -/
def Obligations.StopsAndDumps : Prop :=
  (∀ (s : State) (core : Nat), core < 256 → s.frozen = false → s.coreActive core = true → (s.core core).seq = .walk →
      (s.core core).droneLive = none → (s.dev.state = .serving ∨ s.dev.state = .degraded) →
      ∃ t, exec (.hang core) s = .next t ∧ t.dev.stopping = true ∧ t.dev.stopHang = some core ∧ t.frozen = true ∧ wroteRecord 0x1B s t ∧
        t.mem = s.mem ∧ t.planes = s.planes ∧ t.flash = s.flash ∧ t.dict = s.dict) ∧
  (∀ (s : State) (u : UnitId), s.dev.stopping = true →
      ∃ t, exec (.freezeTimeout u) s = .next t ∧ u ∈ t.dev.unfrozen ∧ t.dev.state = s.dev.state ∧ changesOnly [.dev] s t) ∧
  (∀ s : State, s.dev.stopping = true →
      ∃ t, exec .dumpComplete s = .next t ∧ t.dev.state = .halted ∧ t.dev.stopping = false ∧ t.obs.dump = s.dumpOf false ∧
        (s.dev.stopHang = none → t.dev.lastOutcome = 1) ∧ changesOnly [.dev, .obs, .cores, .keep] s t) ∧
  (∀ (s : State) (r : Req) (x : Session), s.writes r x 0x7100 0xC [1#8] → s.dev.state = .ready → s.dev.drained = true →
      ∃ u, exec (.cutDump r 1) s = .next (s.sent r x 0x7100 0xC 0 0 [] u) ∧ u.obs.dump = s.dumpOf true ∧ u.dev.state = .ready ∧
        changesOnly [.dict, .dev, .obs] s u) ∧
  (∀ s : State, s.dev.draining = true → s.frozen = false → s.drainedOut = true → s.dev.drainReset = false →
      ∃ t, exec .drainComplete s = .next t ∧ t.dev.state = (if s.dev.state = .serving then .ready else s.dev.state) ∧
        t.dev.draining = false ∧ t.dev.drained = true ∧ t.dev.lastOutcome = 1 ∧ t.pub.partialDue = true ∧
        changesOnly [.dev, .cores, .pub, .obs, .keep] s t)

/-! ### Watches, epochs, memory reads, acknowledgement -/

/-- Writes in a session that admits them. TENSOR_WATCH_ARM with fields in range and an ordinal above b_open arms the watch with these fields; one whose ordinal is not above b_open is answered RANGE and arms nothing. TENSOR_WATCH_DISARM sets the fields and disarms an armed watch. A MEMORY_READ_REQUEST of lines of a memory of this device that exists, in READY, SAFE or HALTED, becomes the request that 7100.0B reads; in SERVING or DEGRADED it is refused with reason 0x01. A COUNTER_EPOCH_COMMAND with a mask of R468 advances the device epoch by one modulo 65,536: while batches open it is carried with the next ordinal and no counter moves yet, and otherwise none waits for its switch; one that comes before the last is complete is answered BUSY. ACKNOWLEDGE takes every record at or below its sequence number out of the unacknowledged ones and no other. The others are answered OK, and no other part of the state changes. -/
def Obligations.ObservationCommands : Prop :=
  (∀ (s : State) (r : Req) (x : Session) (core stepno bufidx ordinal first lines : Nat), s.writes r x 0x7100 4 [] → core < 256 →
      ordinal < 2 ^ 48 → stepno < 2 ^ 24 → bufidx < 256 → first < 2 ^ 29 → 1 ≤ lines → lines ≤ 262144 → s.openOrd < ordinal →
      ∃ u, exec (.tensorWatchArm r core stepno bufidx ordinal first lines 0) s = .next (s.sent r x 0x7100 4 0 0 [] u) ∧
        u.obs = { s.obs with watch := ⟨core, stepno, bufidx, ordinal, first, lines⟩, watchState := 1 } ∧ changesOnly [.dict, .obs] s u) ∧
  (∀ (s : State) (r : Req) (x : Session) (core stepno bufidx ordinal first lines : Nat), s.writes r x 0x7100 4 [] → ordinal ≤ s.openOrd →
      ∃ u, exec (.tensorWatchArm r core stepno bufidx ordinal first lines 0) s = .next (s.sent r x 0x7100 4 0 7 [] u) ∧
        changesOnly [.dict] s u) ∧
  (∀ (s : State) (r : Req) (x : Session) (core stepno bufidx ordinal first lines : Nat), s.writes r x 0x7100 4 [] → core < 256 →
      ordinal < 2 ^ 48 → stepno < 2 ^ 24 → bufidx < 256 → first < 2 ^ 29 →
      ∃ u, exec (.tensorWatchDisarm r core stepno bufidx ordinal first lines 0) s = .next (s.sent r x 0x7100 4 0 0 [] u) ∧
        u.obs = { s.obs with watch := ⟨core, stepno, bufidx, ordinal, first, lines⟩,
                             watchState := if s.obs.watchState = 1 then 0 else s.obs.watchState } ∧ changesOnly [.dict, .obs] s u) ∧
  (∀ (s : State) (r : Req) (x : Session) (space unit line lines : Nat), s.writes r x 0x7100 0xA [] →
      (s.dev.state = .halted ∨ s.dev.state = .safe ∨ s.dev.state = .ready) → space ≤ 5 →
      (unit / 256 = 0 ∨ unit / 256 = s.group.devno) → 1 ≤ lines → lines ≤ 262144 →
      line + lines ≤ (s.requestArea space unit).2 → s.requestGone space unit = false →
      ∃ u, exec (.memoryReadRequest r space unit line lines) s = .next (s.sent r x 0x7100 0xA 0 0 [] u) ∧ u.dict.memRead = ⟨space, unit, line, lines⟩ ∧
        u.dict.settings = s.dict.settings ∧ changesOnly [.dict] s u) ∧
  (∀ (s : State) (r : Req) (x : Session) (space unit line lines : Nat), s.writes r x 0x7100 0xA [] →
      (s.dev.state = .serving ∨ s.dev.state = .degraded) →
      ∃ u, exec (.memoryReadRequest r space unit line lines) s = .next (s.sent r x 0x7100 0xA 0 8 [1#8, BitVec.ofNat 8 s.dev.state.code] u) ∧ u.dict.memRead = s.dict.memRead ∧ changesOnly [.dict] s u) ∧
  (∀ (s : State) (r : Req) (x : Session) (mask : Nat), s.writes r x 0x7000 1 [] → 1 ≤ mask → mask < 128 → s.obs.epochCores = [] →
      s.obs.epochClusters = [] → s.obs.epochBase = false → s.dev.batchOpening = true →
      ∃ u, exec (.counterEpochCommand r mask) s = .next (s.sent r x 0x7000 1 0 0 [] u) ∧ u.obs.epochNo = (s.obs.epochNo + 1) % 65536 ∧ u.obs.epochMask = mask ∧
        u.obs.epochBatch = some s.nextOrd ∧ u.obs.engine = s.obs.engine ∧ u.obs.core = s.obs.core ∧ u.obs.event = s.obs.event ∧
        changesOnly [.dict, .obs] s u) ∧
  (∀ (s : State) (r : Req) (x : Session) (mask : Nat), s.writes r x 0x7000 1 [] → 1 ≤ mask → mask < 128 → s.obs.epochCores = [] →
      s.obs.epochClusters = [] → s.obs.epochBase = false → s.dev.batchOpening = false →
      ∃ u, exec (.counterEpochCommand r mask) s = .next (s.sent r x 0x7000 1 0 0 [] u) ∧ u.obs.epochNo = (s.obs.epochNo + 1) % 65536 ∧ u.obs.epochMask = mask ∧
        u.obs.epochBatch = none ∧ u.obs.epochCores = [] ∧ u.obs.epochClusters = [] ∧ u.obs.epochBase = false ∧
        changesOnly [.dict, .obs, .macsec] s u) ∧
  (∀ (s : State) (r : Req) (x : Session) (mask : Nat), s.writes r x 0x7000 1 [] → 1 ≤ mask → mask < 128 →
      (s.obs.epochCores ≠ [] ∨ s.obs.epochClusters ≠ [] ∨ s.obs.epochBase = true) →
      ∃ u, exec (.counterEpochCommand r mask) s = .next (s.sent r x 0x7000 1 0 0xB [] u) ∧ changesOnly [.dict] s u) ∧
  (∀ (s : State) (r : Req) (x : Session) (seq : Nat), s.writes r x 0x5100 7 [] →
      ∃ u, exec (.acknowledge r seq) s = .next (s.sent r x 0x5100 7 0 0 [] u) ∧ u.faults = { s.faults with unacked := s.faults.unacked.filter fun n => decide (seq < n) } ∧
        changesOnly [.dict, .faults] s u)

/-! ### Supplies, temperature, clocks and pins -/

/-- An AVS_ADJUST that the regulator answers moves the VDD_CE setpoint by one 5 mV step between its floor and 850 mV, as R486 to R488 give it, while AVSBus is in use and no record is due; nothing but the supply registers changes. A TEMPERATURE_SAMPLE without an excursion, a RAIL_SAMPLE with every rail inside its fault levels, a CALIBRATION_TOKEN of a running crystal (in a domain that counts, and in no other), a COOLANT_REPORT_EXPIRY and a PFAIL_LOW take their readings and change nothing else. A COOLANT_INLET_REPORT from -40 to 85 degrees in a session that admits it is in force and answered OK (R496). The inlet after expiry is log 67; domains without the reference clock are log 89. -/
def Obligations.MonitorsTakeTheirReadings : Prop :=
  (∀ (s : State) (tb current volts p10 : Nat), s.dev.resetHeld = false → s.fixedVdd = false → s.dev.state ≠ .boot →
      s.power.avsStopped = false → (p10 ≤ s.powerLimit ∨ s.power.powerMs ≠ 0) →
      ∃ t, exec (.avsAdjust true tb current volts p10) s = .next t ∧
        t.power.v =
          (if s.power.throttle = true ∨ s.powerLimit < p10 ∨ tb + 48 < s.setting 0xB010 1 1024 then
            max (s.power.v - 5) (if s.dev.state = .selftest ∨ s.dev.state = .serving ∨ s.dev.state = .degraded then 720 else 650)
          else if s.setting 0xB010 1 1024 + 16 < tb ∧ p10 + 2 < s.powerLimit then min (s.power.v + 5) 850
          else s.power.v) ∧
        t.power.current = current ∧ t.power.avsRead = volts ∧ t.power.noAnswer = 0 ∧ changesOnly [.power] s t) ∧
  (∀ (s : State) (readings : List Int), s.dev.resetHeld = false → readings.length = 72 → s.power.throttle = false →
      (hottest (goodReadings s.power.sensorFail readings)).1 < 1888 →
      ∃ t, exec (.temperatureSample readings [] false) s = .next t ∧ t.power = { s.power with temps := readings, hotWarned := false } ∧
        changesOnly [.power] s t) ∧
  (∀ (s : State) (mv : List Nat), s.dev.resetHeld = false → mv.length = 10 → railsBeyond mv = [] → s.power.railFault = [] →
      s.capo.vppBad = false →
      ∃ t, exec (.railSample mv) s = .next t ∧ t.power.rails = mv ∧ t.power.railBad = [] ∧ t.power.railFault = [] ∧
        t.power.v = s.power.v ∧ changesOnly [.power] s t) ∧
  (∀ (s : State) (d : Domain) (n : Nat), s.tablesOk = true → s.dev.resetHeld = false → s.domainCounts d = true →
      ∃ t, exec (.calibrationToken [(d, n)] false true) s = .next t ∧ tget0 0 t.power.cals (domainNumber d) = n % 2 ^ 24 ∧
        (∀ c, d = .core c → (t.core c).cal = n % 2 ^ 24) ∧ (∀ k, k ≠ domainNumber d → tget0 0 t.power.cals k = tget0 0 s.power.cals k) ∧
        t.power.crystalBad = 0 ∧ changesOnly [.power, .cores] s t) ∧
  (∀ (s : State) (d : Domain) (n : Nat), s.dev.resetHeld = false → s.domainCounts d = false →
      ∃ t, exec (.calibrationToken [(d, n)] false true) s = .next t ∧ t.power = { s.power with crystalBad := 0 } ∧
        changesOnly [.power] s t) ∧
  (∀ (s : State) (r : Req) (x : Session) (v : Int), s.writes r x 0xB020 1 [] → -640 ≤ v → v ≤ 1360 →
      ∃ u, exec (.coolantInletReport r v) s = .next (s.sent r x 0xB020 1 0 0 [] u) ∧ u.power = { s.power with inlet := some v } ∧
        changesOnly [.dict, .power] s u) ∧
  (∀ s : State, ∃ t, exec .coolantReportExpiry s = .next t ∧ t.power = { s.power with inlet := none } ∧ changesOnly [.power] s t) ∧
  (∀ s : State, ∃ t, exec .pfailLow s = .next t ∧ t.dev = { s.dev with pfailLow := true } ∧ changesOnly [.dev] s t)

/-- A THERMAL_TRIP, a SAFE_N_LOW, a LOCKSTEP_MISMATCH of a pair that still runs and an ENTROPY_FAILURE take a device that is READY, SERVING or DEGRADED to SAFE with their cause recorded; no batch opens any more, FAULT_N is low, and cells, memory, flash, the object dictionary, sessions, links' secure associations, the scene grid and the supply registers stay as they are. That both records are written at entry is log 67. -/
def Obligations.FaultPinsEnterSafe : Prop :=
  (∀ s : State, s.dev.resetHeld = false → s.dev.thermNLow = false → (s.dev.state = .ready ∨ s.dev.state = .serving ∨ s.dev.state = .degraded) →
      ∃ t, exec .thermalTrip s = .next t ∧ t.dev.state = .safe ∧ 6 ∈ t.dev.safeCauses ∧ t.dev.thermNLow = true ∧
        t.dev.batchOpening = false ∧ t.faultNLow = true ∧ wroteRecord 0x57 s t ∧
        changesOnly safeParts s t) ∧
  (∀ (s : State) (held : Bool), s.dev.resetHeld = false → (s.dev.state = .ready ∨ s.dev.state = .serving ∨ s.dev.state = .degraded) →
      ∃ t, exec (.safeNLow held) s = .next t ∧ t.dev.state = .safe ∧ 1 ∈ t.dev.safeCauses ∧ t.dev.safeNLow = held ∧
        t.dev.batchOpening = false ∧ t.faultNLow = true ∧ wroteRecord 0x19 s t ∧
        changesOnly safeParts s t) ∧
  (∀ (s : State) (pair : Nat), pair < 4 → s.dev.resetHeld = false → pair ∉ s.dev.pairHalted →
      (s.dev.state = .ready ∨ s.dev.state = .serving ∨ s.dev.state = .degraded) →
      ∃ t, exec (.lockstepMismatch pair) s = .next t ∧ t.dev.state = .safe ∧ 2 ∈ t.dev.safeCauses ∧
        t.dev.pairHalted = s.dev.pairHalted ++ [pair] ∧ t.dev.batchOpening = false ∧ t.faultNLow = true ∧ wroteRecord 0x1A s t ∧
        changesOnly safeParts s t) ∧
  (∀ s : State, s.dev.stopping = false → (s.dev.state = .ready ∨ s.dev.state = .serving ∨ s.dev.state = .degraded) →
      ∃ t, exec .entropyFailure s = .next t ∧ t.dev.state = .safe ∧ 6 ∈ t.dev.safeCauses ∧ t.dev.entropyBad = true ∧
        t.dev.batchOpening = false ∧ t.faultNLow = true ∧ wroteRecord 0x47 s t ∧
        changesOnly safeParts s t)

/-- A REFERENCE_CLOCK_LOSS marks the 156.25 MHz reference lost, takes both MACs down and writes record 0x59, and nothing else of a device that serves in no group but its ports and its records follows; a REFERENCE_CLOCK_RETURN clears the mark, and with no VDD_SD rail in fault no MAC is down any more. A PFAIL_HIGH ends a supply warning and writes record 0x5B. A POWER_LOSS leaves the part in reset: RESET_N low, BOOT, no session, nothing armed or staged, while fuses, serial number, client keys and image keys stay. A DRAM_COPY_SCAN of a slower-tier segment of the selected side of which a copy verifies leaves both copies good and holding what that copy holds, with clean lines; one of which neither does marks both copies as failed and has it fetched again, and no byte of memory changes while no neighbour offers the segment. Of a tab image it marks both DRAM copies good or failed likewise. What a power loss interrupts is log 62. -/
def Obligations.ClocksPowerAndCopies : Prop :=
  (∀ s : State, s.dev.resetHeld = false → s.power.refLost = false →
      ∃ t, exec .referenceClockLoss s = .next t ∧ t.power.refLost = true ∧ (∀ m, m < 2 → m ∈ t.pub.macDown) ∧ wroteRecord 0x59 s t ∧
        ((∀ m ∈ s.group.members, m = s.group.devno) →
          t.power = { s.power with refLost := true } ∧ t.mem = s.mem ∧ t.dev = s.dev ∧ t.flash = s.flash ∧ t.capo = s.capo ∧
            t.cores = s.cores ∧ t.sites = s.sites)) ∧
  (∀ s : State, s.power.refLost = true → 5 ∉ s.power.railFault → 6 ∉ s.power.railFault →
      ∃ t, exec .referenceClockReturn s = .next t ∧ t.power = { s.power with refLost := false } ∧ t.pub.macDown = [] ∧
        wroteRecord 0x59 s t ∧ t.mem = s.mem ∧ t.dev = s.dev ∧ t.flash = s.flash ∧ t.capo = s.capo ∧ t.cores = s.cores ∧ t.sites = s.sites) ∧
  (∀ s : State, s.dev.resetHeld = false → s.dev.pfailLow = true →
      ∃ t, exec .pfailHigh s = .next t ∧ t.dev = { s.dev with pfailLow := false } ∧ wroteRecord 0x5B s t ∧
        changesOnly ([.dev, .planes, .capo, .sites] ++ recordParts) s t) ∧
  (∀ (s : State) (o : LossOutcome), ∃ t, exec (.powerLoss o) s = .next t ∧ t.dev.resetHeld = true ∧ t.dev.state = .boot ∧
        t.dict.sessions = [] ∧ t.capo.state = .idle ∧ t.walk.batches = [] ∧ t.dev.serial = s.dev.serial ∧ t.flash.uds = s.flash.uds ∧
        t.flash.provisioned = s.flash.provisioned ∧ t.flash.clientKeys = s.flash.clientKeys ∧ t.flash.imageKeys = s.flash.imageKeys ∧
        t.mem.planes = s.mem.planes ∧ t.tx = s.tx ∧ t.pending = s.pending) ∧
  (∀ (s : State) (n : Nat) (i : Image) (e : Entry) (ok0 ok1 : Bool), n < 8192 → s.frozen = false → s.memOk = true → s.capo.side < 2 →
      s.capo.selected = some i → i.entries[n]? = some e → e.kind = 2 → e.verified = true → (ok0 = true ∨ ok1 = true) →
      let z := fun _ : Nat => 0#8
      let g := s.capo.side * 8192 + n
      ∃ t, exec (.dramCopyScan g ok0 ok1) s = .next t ∧
        t.load (.slow s.capo.side) (e.target * 64) e.length =
          mread z (if ok0 = true then s.mem.slow else s.mem.slowAlt) (s.capo.side * 2 ^ 35 + e.target * 64) e.length ∧
        t.mem.slowBad = s.mem.slowBad.filter (fun x => x.1 != g) ∧
        (∀ k, k < (e.length + 63) / 64 → t.poisoned (.slow s.capo.side) (e.target + k) = false) ∧
        (∀ (a : Area) (x k : Nat), a ≠ .slow s.capo.side → a ≠ .slow (1 - s.capo.side) → t.load a x k = s.load a x k) ∧
        changesOnly [.mem] s t) ∧
  (∀ (s : State) (n : Nat) (i : Image) (e : Entry), n < 8192 → s.frozen = false → s.capo.side < 2 → s.capo.selected = some i →
      i.entries[n]? = some e → e.kind = 2 → e.verified = true →
      (s.sourcesOf i e).filter (fun k => decide (1 ≤ k) && decide (k < 25)) = [] →
      ∃ t, exec (.dramCopyScan (s.capo.side * 8192 + n) false false) s = .next t ∧
        t.mem = { s.mem with slowBad := s.mem.slowBad.filter (fun x => x.1 != s.capo.side * 8192 + n) ++
          [(s.capo.side * 8192 + n, 0), (s.capo.side * 8192 + n, 1)] } ∧ changesOnly [.mem, .capo] s t) ∧
  (∀ (s : State) (n : Nat) (i : Image) (e : Entry) (ok0 ok1 : Bool), n < 8192 → s.frozen = false → s.capo.side < 2 →
      s.capo.selected = some i → i.entries[n]? = some e → e.kind = 3 → e.verified = true →
      (s.sourcesOf i e).filter (fun k => decide (1 ≤ k) && decide (k < 25)) = [] →
      let tab := e.unit % 256 * 2 + s.capo.side
      ∃ t, exec (.dramCopyScan (s.capo.side * 8192 + n) ok0 ok1) s = .next t ∧
        t.mem = { s.mem with tabBad := s.mem.tabBad.filter (fun x => !(x.1 == tab && x.2 != 0)) ++
          (if ok0 = true ∨ ok1 = true then [] else [(tab, 1), (tab, 2)]) } ∧ changesOnly [.mem, .capo] s t)

/-! ### BOW steps and bows -/

/-- A BOW_STEP whose step issues on a site, unmasked, with present vectors, planned weights in the plane, inputs inside their buffer and free of poison and no stored word of bad parity, puts its tile with the inputs it read and zero accumulators behind the site's queue, and the engine takes the next tile; the step is in flight. It is sampled exactly when it is drawn or its site is under full duplication, and then it takes room of the checking area. A BOW of present data on a site that can bow, whose tile is captured if the site is under full duplication, with no PROBE armed and with a passing syndrome, no overflow, no margin and no reference miss, adds its totals into the tile and goes on to the next bow. A bow that can run leaves every other site as it was. Checking-area lines are counted as in log 11; what a replay counts and captures is log 76. -/
def Obligations.BowStepsAndBows : Prop :=
  (∀ (s : State) (core n : Nat) (i : Issue), core < 256 → s.tablesOk = true → s.issue? core 1 = some i →
      stepMasked (s.core core) i.w = false → (s.core core).dupGrant i.w = none → i.t.seedmode = false →
      s.siteOf core (sfld i.w 4 1 0) = some n → (s.site n).staleRuns.contains (i.b, stepRun i.w) = false →
      s.planeFmt core (sfld i.w 4 1 0) i.b = sfld i.w 4 7 5 → s.mem.parity = [] →
      let f := (inFmt (sfld i.w 4 4 2)).getD .int8
      let rows := if f = .b1 then sfld i.w 4 27 17
        else presentCount (sfld i.w 0x14 15 0) ((s.core core).limit (sfld i.w 0x10 2 0)) (sfld i.w 4 27 17)
      let vecs := presentCount (sfld i.w 0x14 31 16 + tileMul (s.core core) i.w * sfld i.w 4 16 8)
        ((s.core core).limit (sfld i.w 0x10 5 3)) (sfld i.w 4 16 8)
      let cols := presentCount (sfld i.w 0x18 15 0) ((s.core core).limit (sfld i.w 0x10 8 6)) (sfld i.w 8 29 20)
      let x := s.bowInput core i f rows vecs
      let smp := (sfld i.w 0x10 9 9 == 1 && s.samples core i) || s.siteFullDup n
      rows ≠ 0 → vecs ≠ 0 → cols ≠ 0 → x.fault = none → x.poisoned = false →
      (smp = true → s.checkRoom (core / 8) (bowCheckLines i.w) = true) →
      ∃ t, exec (.bowStep core []) s = .next t ∧
        t.site n = ({ s.site n with queue := (s.site n).queue ++
          [{ core := core, stepno := stepNo i.w, ordinal := i.b, run := stepRun i.w, word := i.w, treg := stepTile (s.core core) i.w
             vec := 0, bit := 0, masked := false, rowLim := rows, vecLim := vecs, colLim := cols, sampled := smp
             inputs := x.vectors, accs := zeroAccs i.w, corrected := false }] } : Site).pull ∧
        (∀ m, m ≠ n → t.site m = s.site m) ∧ State.flying core i false false s t ∧
        changesOnly ([.cores, .obs, .sites] ++ if smp = true then [.clusters] else []) s t) ∧
  (∀ (s : State) (n : Nat) (x : Tile) (first replay : List ConvEvent), n < 1280 → s.tablesOk = true → s.frozen = false →
      s.bowReady n = some x → (s.site n).probes = [] → x.live = true →
      (x.sampled = true ∨ s.siteFullDup n = false) →
      let f := (inFmt (sfld x.word 4 4 2)).getD .int8
      let side := s.sideOf x.core x.ordinal
      let a := runBow (s.drivenRows n side x f.width) (s.fretOnes n side) false first
      a.overHalf = false → a.overs = 0 → a.margins = 0 → a.misses = 0 →
      synDecide (syndromes a.totals).1 (syndromes a.totals).2 a.totals a.driven = .pass →
      let y := (x.addBow ((wtFmt (sfld x.word 4 7 5)).getD .int8) f.signed f.width a.totals a.driven).advance f.width
      y.vec < sfld x.word 4 16 8 →
      ∃ t, exec (.bow n first replay) s = .next t ∧ (t.site n).tile = some y ∧ (t.site n).queue = (s.site n).queue ∧
        (t.site n).replays = (s.site n).replays ∧ (∀ m, m ≠ n → t.site m = s.site m) ∧
        changesOnly [.cores, .obs, .sites] s t)

/-! ### Bridge steps, array steps, moves and scene steps -/

/-- A BRIDGE_STEP whose step issues, unmasked, with a valid descriptor, an input free of poison, of bad signs and of stored words with bad parity and inside its buffer, sums inside the accumulator range (R84) and an output inside its buffer, writes the requantised codes of R89 to R97 as rows at its output line, and nothing else in memory: with `outs` outputs a row and the format's width, the rows stand from the output line on, each on a 64-byte boundary. Its core goes on to the next step. Outside those lines every byte of every memory reads as before. Rows on 64-byte boundaries are log 12; counting before pooling is log 80. -/
def Obligations.BridgeStepWritesItsRows : Prop :=
  ∀ (s : State) (core : Nat) (i : Issue) (bytes lut : Bytes) (q : List (List (Option Quant))), core < 256 → s.tablesOk = true →
    s.memOk = true → s.issue? core 4 = some i → stepMasked (s.core core) i.w = false → (s.core core).dupGrant i.w = none →
    let w := i.w
    let c := s.core core
    let leng := sfld w 4 16 15
    let fromBank := sfld w 4 18 17 == 0
    let planned := if fromBank then i.t.bankShape leng (stepNo w) else (sfld w 0x14 27 19, sfld w 0x14 18 9, sfld w 0x14 8 0)
    let shape := if fromBank then (c.banks.getD leng {}).shape planned else planned
    let vecs := presentCount (sfld w 0x10 15 0 + tileMul c w * shape.2.2) (c.limit (sfld w 0xC 2 0)) shape.2.2
    let cols := presentCount (sfld w 0x18 15 0) (c.limit (sfld w 0xC 5 3)) shape.2.1
    let d := parseBDesc bytes
    let x := if fromBank then bankInput (c.banks.getD leng {}) shape vecs cols else s.containerInput core i vecs cols
    let f := (outFmt d.outfmt).getD .int8
    let rows := finishCodes d lut x.outs q
    let out : Opnd := { space := sfld w 8 17 17, line := sfld w 8 16 0 + tileOffset c w }
    let area := if sfld w 8 17 17 = 0 then Area.sram core else Area.sb (core / 8)
    let n := rowsLines f.width x.outs rows
    vecs ≠ 0 → cols ≠ 0 → s.descriptor core i.t (sfld w 4 14 0) = some bytes → d.ok planned.2.2 = true → x.fault = none →
    (d.act = 2 → i.t.linesInside (sbOpnd (d.lutaddr * 4)) 4 = 4) → x.poisoned = false →
    s.mem.parity = [] → (fromBank = false → s.signBad core (containerReads c w vecs cols) cols = []) →
    s.poisoned (.sram core) (sfld w 4 14 0 / 2) = false →
    (d.act = 2 → s.rangePoisoned (.sb (core / 8)) (d.lutaddr * 256) 256 = false) →
    quantizeTile d (s.scaleTable core leng i.b) x.out0 x.accs = some q →
    (d.act = 2 → lut = ((s.loadLut core (s.bridgeOf core leng) d.lutaddr).core core).lutOf (s.bridgeOf core leng)) → (d.act ≠ 2 → lut = []) →
    i.t.linesInside out n = n → area.holds ((out.line + n) * 64 - 1) = true →
    ∃ t, exec (.bridgeStep core ⟨[], []⟩) s = .next t ∧
      (∀ (a : Area) (y k : Nat), t.load a y k = (s.writeRows area out.line n f.width x.outs false rows).1.load a y k) ∧
      storesOnly area (out.line * 64) ((out.line + n) * 64) s t ∧ State.stepped core i s t ∧
      changesOnly [.mem, .obs, .cores, .walk] s t

/-- A DIG_TILE whose step issues while the array is free, sampled nowhere, with a valid descriptor and operands inside their buffers, free of poison and of stored words with bad parity, takes the exact sums of R110 and R112 with the array's own deviations, requantises them to an integer format and writes them at its output line, and the array keeps its accumulators; a DIG_SOFTMAX does the same with the codes of R118 and R119, in every row of its block, and writes a row beyond the row limit as zeros. Each completes at once, the array is free again, and the core goes on to the next step. The order of waiting DIG steps is log 13. -/
def Obligations.ArrayStepsWriteTheirRows : Prop :=
  (∀ (s : State) (core : Nat) (i : Issue) (faults : List (Nat × Int)) (bytes bb : Bytes) (q : List (List (Option Quant))), core < 256 →
      s.tablesOk = true → s.memOk = true → s.waitingDig core = none → s.issue? core 2 = some i → stepMasked (s.core core) i.w = false → (s.core core).dupGrant i.w = none →
      (s.cluster (core / 8)).owner = none → (s.cluster (core / 8)).waiters = [] → sfld i.w 4 21 21 = 0 →
      s.arrayFullDup ((s.arrayFor (core / 8)).getD (core / 8)) = false → s.descriptor core i.t (sfld i.w 4 14 0) = some bytes → s.mem.parity = [] →
      s.poisoned (.sram core) (sfld i.w 4 14 0 / 2) = false →
      let d := parseADesc bytes
      let c := s.core core
      let vecs := presentCount (sfld i.w 8 15 0 + tileMul c i.w * d.v) (c.limit (sfld i.w 4 17 15)) d.v
      let outs := presentCount (sfld i.w 8 31 16) (c.limit (sfld i.w 4 20 18)) d.n
      let bd := parseBDesc bb
      let x := s.digInput core i d bd vecs outs
      let got := deviate faults outs (digAccs d x.x x.weights outs)
      let f := (outFmt bd.outfmt).getD .int8
      let rows := finishCodes bd x.lut d.n q
      let line := d.outaddr + tileOffset c i.w
      let n := rowsLines f.width d.n rows
      d.op = 0 → vecs ≠ 0 → outs ≠ 0 → s.descriptor core i.t d.bdesc = some bb → d.ok = true → bd.ok d.v = true → bd.outfmt < 8 →
      x.fault = none →
      x.poisoned = false → s.poisoned (.sram core) (d.bdesc / 2) = false →
      quantizeTile bd x.scales 0 ((List.range d.v).map fun v => (List.range d.n).map fun j =>
        if v < x.x.length ∧ j < outs then some ((got.getD v []).getD j 0) else none) = some q →
      i.t.linesInside (sbOpnd line) n = n → (Area.sb (core / 8)).holds ((line + n) * 64 - 1) = true →
      ∃ t, exec (.digTile core faults []) s = .next t ∧
        t.mem = (s.writeRows (.sb (core / 8)) line n f.width d.n false rows).1.mem ∧
        storesOnly (.sb (core / 8)) (line * 64) ((line + n) * 64) s t ∧ State.stepped core i s t ∧
        (t.cluster (core / 8)).owner = none ∧ (t.cluster (core / 8)).waiters = [] ∧ (t.cluster (core / 8)).arrClass = 0 ∧
        tget0 [] (t.cluster ((s.arrayFor (core / 8)).getD (core / 8))).accBanks 1 = got ∧
        (∀ k, k ≠ core / 8 → k ≠ (s.arrayFor (core / 8)).getD (core / 8) → t.cluster k = s.cluster k) ∧
        changesOnly [.mem, .obs, .cores, .walk, .clusters] s t) ∧
  (∀ (s : State) (core : Nat) (i : Issue) (bytes : Bytes), core < 256 →
      s.tablesOk = true → s.memOk = true → s.waitingDig core = none → s.issue? core 2 = some i → stepMasked (s.core core) i.w = false → (s.core core).dupGrant i.w = none →
      (s.cluster (core / 8)).owner = none → (s.cluster (core / 8)).waiters = [] → sfld i.w 4 21 21 = 0 →
      s.arrayFullDup ((s.arrayFor (core / 8)).getD (core / 8)) = false → s.descriptor core i.t (sfld i.w 4 14 0) = some bytes → s.mem.parity = [] →
      s.poisoned (.sram core) (sfld i.w 4 14 0 / 2) = false →
      let d := parseADesc bytes
      let c := s.core core
      let sb := Area.sb (core / 8)
      let vecs := presentCount (sfld i.w 8 15 0 + tileMul c i.w * d.v) (c.limit (sfld i.w 4 17 15)) d.v
      let m := presentCount (sfld i.w 8 31 16) (c.limit (sfld i.w 4 20 18)) d.k
      let off := tileOffset c i.w
      let vl := (d.k + 63) / 64
      let tab := (List.range 256).map fun k => num (s.load sb (d.waddr * 64 + 2 * k) 2) 0 2
      let rows := (List.range d.v).map fun v =>
        if vecs ≤ v then List.replicate d.k (some 0)
        else ((softmaxRow tab ((List.range d.k).map fun j => elem .int8 (s.load sb ((d.inaddr + off + v * vl) * 64) d.k) j) m).map
          Int.ofNat).map some
      let n := d.v * vl
      d.op = 1 → vecs ≠ 0 → m ≠ 0 → d.ok = true → i.t.sbFault (d.inaddr + off) (vecs * vl) = none → i.t.sbFault d.waddr 8 = none →
      expTableOk tab = true → ((softmaxReads c i.w d vecs m).any fun r => s.rangePoisoned sb (r.1 * 64) (r.2 * 64)) = false →
      i.t.linesInside (sbOpnd (d.outaddr + off)) n = n → sb.holds ((d.outaddr + off + n) * 64 - 1) = true →
      ∃ t, exec (.digSoftmax core []) s = .next t ∧ t.mem = (s.writeRows sb (d.outaddr + off) n 8 d.k false rows).1.mem ∧
        storesOnly sb ((d.outaddr + off) * 64) ((d.outaddr + off + n) * 64) s t ∧ State.stepped core i s t ∧
        (∀ k, t.cluster k = if k = core / 8 then { s.cluster k with arrClass := 0 } else s.cluster k) ∧
        changesOnly [.mem, .obs, .cores, .walk, .clusters] s t)

/-- An ARRAY_GRANT of a free array gives it to a core that asks for it, which asks no more; an array that a core holds stays with that core. An ARRAY_DRONE that is cut short, or finds other work pending, repeats later and judges nobody; one that runs to its end with the right answer covers its array and is its last passed check. No memory changes. The operands of a drone are log 82. -/
def Obligations.ArrayGrantsAndDrones : Prop :=
  (∀ (s : State) (cl k : Nat), cl < 32 → k < 8 → s.tablesOk = true → s.frozen = false → (s.cluster cl).owner = none →
      s.asksArray (cl * 8 + k) = true →
      ∃ t, exec (.arrayGrant cl k) s = .next t ∧ (t.cluster cl).owner = some k ∧ k ∉ (t.cluster cl).waiters ∧
        (∀ m, m ≠ cl → t.cluster m = s.cluster m) ∧ changesOnly [.clusters] s t) ∧
  (∀ (s : State) (cl k o : Nat), cl < 32 → k < 8 → (s.cluster cl).owner = some o → exec (.arrayGrant cl k) s = .next s) ∧
  (∀ (s : State) (cl : Nat) (cut : Bool) (faults : List (Nat × Int)), cl < 32 → s.tablesOk = true → s.frozen = false →
      s.clusterActive cl = true → (s.cluster cl).arrayCheck.retired = false →
      (cut = true ∨ s.arrayBusy cl (if s.arrayFullDup cl = true then 3 else 4) s.walk.tileNo = true) →
      ∃ t, exec (.arrayDrone cl cut faults) s = .next t ∧ (t.cluster cl).droneCut = true ∧
        (t.cluster cl).arrayCheck = (s.cluster cl).arrayCheck ∧ changesOnly [.clusters, .obs] s t) ∧
  (∀ (s : State) (cl : Nat), cl < 32 → s.tablesOk = true → s.frozen = false → s.clusterActive cl = true →
      (s.cluster cl).arrayCheck.retired = false → s.arrayBusy cl (if s.arrayFullDup cl = true then 3 else 4) s.walk.tileNo = false →
      ∃ t, exec (.arrayDrone cl false []) s = .next t ∧ (t.cluster cl).droneCut = false ∧
        (t.cluster cl).arrayCheck.lastPass = some (max (s.dev.bOpen.getD 0) ((s.cluster cl).arrayCheck.lastPass.getD 0)) ∧
        (t.cluster cl).droneAt = some (s.dev.bOpen.getD 0) ∧ changesOnly [.clusters, .obs] s t)

/-- A MOVE_STEP whose step issues into an empty move port, unmasked, with every present line inside its buffers, no bad word or bad sign among them, copies its lines from one memory of the device to another, or adds the containers of each source line into the destination line (R81, R82) where its reduce bit is set: line by line the destination holds the source line, or the exact sums, and every other byte of every memory reads as before. A step whose source is another device's memory sends a READ message and stays in flight. A step that copies lines under a duplicate grant writes no memory: its lines go as captures into the checking area, each with its destination (R172). That a READ carries the number of the next message and takes none is log 15. -/
def Obligations.MoveStepsCopyOrReduce : Prop :=
  (∀ (s : State) (core : Nat) (bad : List BadWord) (i : Issue) (sa da : Area), core < 256 → s.tablesOk = true → s.memOk = true →
      s.issue? core 3 = some i → stepMasked (s.core core) i.w = false → (s.core core).dupGrant i.w = none → (∀ f, f ∈ (s.core core).flight → f.unit ≠ 9) → s.mem.parity = [] →
      let w := i.w
      let c := s.core core
      let len := sfld w 0x10 23 0
      let n := presentCount (sfld w 0x14 15 0 + tileMul c w * len) (c.limit (sfld w 4 22 20)) len
      let src := moveSrc c w
      let dst := moveDst c w
      let reduce := sfld w 4 19 19 == 1
      n ≠ 0 → src.space ≠ 6 → dst.space ≠ 6 → s.areaOf core i.b i.t src = some sa → s.areaOf core i.b i.t dst = some da → sa ≠ da →
      s.reach i.b i.t src n = n → s.reach i.b i.t dst n = n → sa.holds ((src.line + n) * 64 - 1) = true →
      da.holds ((dst.line + n) * 64 - 1) = true →
      (reduce = true → ∀ k, k < n → signBadWords (s.load sa ((src.line + k) * 64) 64) = [] ∧
        signBadWords (s.load da ((dst.line + k) * 64) 64) = []) →
      (∀ y, y ∈ bad → 16 * n ≤ y.word ∧ y.space ≠ 4) →
      ∃ t, exec (.moveStep core bad) s = .next t ∧
        (∀ k, k < n → t.load da ((dst.line + k) * 64) 64 =
          if reduce = true then addContainers (s.load sa ((src.line + k) * 64) 64) (s.load da ((dst.line + k) * 64) 64)
          else s.load sa ((src.line + k) * 64) 64) ∧
        storesOnly da (dst.line * 64) ((dst.line + n) * 64) s t ∧ State.stepped core i s t ∧
        changesOnly ([.clusters, .cores, .group, .mem, .walk] ++ recordParts) s t) ∧
  (∀ (s : State) (core : Nat) (bad : List BadWord) (i : Issue), core < 256 → s.tablesOk = true →
      s.issue? core 3 = some i → stepMasked (s.core core) i.w = false → (s.core core).dupGrant i.w = none → (∀ f, f ∈ (s.core core).flight → f.unit ≠ 9) → s.mem.parity = [] →
      let w := i.w
      let c := s.core core
      let len := sfld w 0x10 23 0
      let n := presentCount (sfld w 0x14 15 0 + tileMul c w * len) (c.limit (sfld w 4 22 20)) len
      let src := moveSrc c w
      let dst := moveDst c w
      let dev := src.unit / 256
      n ≠ 0 → src.space = 6 → dst.space ≠ 6 → s.reach i.b i.t src n = n → s.reach i.b i.t dst n = n → (∀ y, y ∈ bad → y.space ≠ 4) →
      ∃ t l m, exec (.moveStep core bad) s = .next t ∧ t.tx = s.tx ++ .message 0x11 dev l [] :: m ∧
        (t.peer dev).sent = (s.peer dev).sent ∧ State.flying core i false false s t ∧
        changesOnly [.cores, .group, .obs, .tx] s t) ∧
  (∀ (s : State) (core : Nat) (bad : List BadWord) (i : Issue) (sa da : Area) (g : Grant), core < 256 → s.tablesOk = true →
      s.shapesOk = true → s.issue? core 3 = some i → stepMasked (s.core core) i.w = false → (s.core core).dupGrant i.w = some g → (∀ f, f ∈ (s.core core).flight → f.unit ≠ 9) → s.mem.parity = [] →
      let w := i.w
      let c := s.core core
      let len := sfld w 0x10 23 0
      let n := presentCount (sfld w 0x14 15 0 + tileMul c w * len) (c.limit (sfld w 4 22 20)) len
      let src := moveSrc c w
      let dst := moveDst c w
      n ≠ 0 → src.space ≠ 6 → dst.space ≠ 6 → sfld w 4 19 19 = 0 → s.areaOf core i.b i.t src = some sa →
      s.areaOf core i.b i.t dst = some da → s.reach i.b i.t src n = n → s.reach i.b i.t dst n = n →
      s.checkRoom (core / 8) n = true → ((List.range n).all fun k => !s.poisoned sa (src.line + k)) = true →
      (∀ y, y ∈ bad → 16 * n ≤ y.word ∧ y.space ≠ 4) →
      ∃ t, exec (.moveStep core bad) s = .next t ∧
        (t.ctrBank (core / 8) g.counter i.b).captures = (s.ctrBank (core / 8) g.counter i.b).captures ++
          (List.range n).map (fun k => ⟨g.n, da, (dst.line + k) * 64, s.load sa ((src.line + k) * 64) 64⟩) ∧
        State.stepped core i s t ∧ changesOnly [.clusters, .cores, .obs, .walk] s t)

/-- While no stored word has bad parity, once the warp of the batch is complete (R341) and with no step before it in the scene port: a SCENE_GATHER whose step issues, unmasked, with cells inside the grid, copies the 64 bytes of the context of each present cell to its soundboard line (R342): cells that it names in order stand there as the grid holds them, and every other byte of every memory reads as before. A SCENE_SCATTER of one well-formed record puts it into the batch's update buffer, after those already there, and writes no memory (R343). The grid itself stays as it is until SCENE_UPDATE_APPLY. -/
def Obligations.SceneStepsGatherAndScatter : Prop :=
  (∀ (s : State) (core : Nat) (i : Issue), core < 256 → s.tablesOk = true → s.memOk = true →
      s.shapesOk = true → s.issue? core 9 = some i → sfld i.w 4 0 0 = 0 → sfld i.w 4 1 1 = 0 → stepMasked (s.core core) i.w = false → (s.core core).dupGrant i.w = none → s.mem.parity = [] →
      (s.batch? i.b).elim false (·.warped) = true → (s.core core).scenes = [] →
      let w := i.w
      let c := s.core core
      let off := tileOffset c w
      let mul := tileMul c w * sfld w 0x14 15 0
      let n := presentCount (sfld w 0x14 31 16 + mul) (c.limit (sfld w 4 4 2)) (sfld w 0x14 15 0)
      let line := sfld w 0xC 16 0 + off
      n ≠ 0 → sfld w 8 19 0 + mul + n ≤ gridCells → i.t.linesInside (sbOpnd line) n = n → (line + n) * 64 ≤ 2 ^ 23 →
      ∃ t, exec (.sceneGather core []) s = .next t ∧
        (∀ k, k < n → t.load (.sb (core / 8)) ((line + k) * 64) 64 = s.context (sfld w 8 19 0 + mul + k)) ∧
        storesOnly (.sb (core / 8)) (line * 64) ((line + n) * 64) s t ∧ State.stepped core i s t ∧
        changesOnly ([.clusters, .cores, .group, .mem, .walk] ++ recordParts) s t) ∧
  (∀ (s : State) (core : Nat) (i : Issue) (b : Batch), core < 256 → s.tablesOk = true →
      s.issue? core 9 = some i → sfld i.w 4 0 0 = 1 → sfld i.w 4 1 1 = 0 → stepMasked (s.core core) i.w = false → (s.core core).dupGrant i.w = none → s.mem.parity = [] →
      let w := i.w
      let c := s.core core
      let mul := tileMul c w * sfld w 0x14 15 0
      let e := s.sceneElem core w 0
      let r := s.load (.sb (core / 8)) (e.line * 64) 64
      presentCount (sfld w 0x14 31 16 + mul) (c.limit (sfld w 4 4 2)) (sfld w 0x14 15 0) = 1 → e.cell < gridCells →
      i.t.linesInside (sbOpnd (sfld w 0xC 16 0 + tileOffset c w)) 1 = 1 → s.poisoned (.sb (core / 8)) e.line = false →
      (r.getD 49 0#8).toNat ≤ 1 → (r.drop 50).all (· == 0#8) = true → s.batch? i.b = some b → b.warped = true → (s.core core).scenes = [] → b.updates.length < 262144 →
      b.updates.any (fun u => u.cell == e.cell && u.source == e.source && u.run == stepRun w) = false →
      ∃ t, exec (.sceneScatter core []) s = .next t ∧
        (t.batch? i.b).map (·.updates) = some (b.updates ++ [⟨e.cell, e.source, stepRun w, r⟩]) ∧ State.stepped core i s t ∧
        changesOnly [.cores, .obs, .walk] s t)

/-! ### The sync port -/

/-- While no other port waits for a channel of the core: with an empty sync port, a SIGNAL_STEP to a core of this device whose channel holds fewer than 8 tokens posts its token there and completes (R147); a WAIT_STEP without a held token stays first in the port; one with a held token, while no port waits, takes it, clears its predicate exactly when the token is EMPTY, and completes (R148). A TOKEN_ARRIVAL of the oldest token on its way from its sender and channel to a port without a job holds the token, and the sender's replay buffer lets it go (R27, R270). A WAIT_TIMEOUT of the only job, of a live run and without a held token, ends it with its predicate false. A RUN_DEATH_NOTICE makes its core know the run to be dead. Memory, records and planes stay as they are. -/
def Obligations.SyncStepsAndTokens : Prop :=
  (∀ (s : State) (core : Nat) (i : Issue), core < 256 → s.tablesOk = true → s.issue? core 6 = some i → i.t.steps[stepNo i.w]? = some i.w →
      (s.core core).sync = [] → s.blockedOn core = [] →
      let dest := stepPartner i.w
      let tok : Token := { ordinal := i.b, sender := coreCode s.group.devno core, chan := sfld i.w 4 17 14, run := stepRun i.w
                           empty := !(s.core core).pred (stepPred i.w), dead := (s.core core).runDead (stepRun i.w) }
      dest < 8192 → dest / 256 = s.group.devno → (s.core (dest % 256)).channelLoad tok.chan < 8 →
      ∃ t, exec (.signalStep core) s = .next t ∧ (t.core (dest % 256)).inbound = (s.core (dest % 256)).inbound ++ [tok] ∧
        (t.core core).sync = [] ∧ State.stepped core i s t ∧
        changesOnly [.cores, .dev, .obs, .walk] s t) ∧
  (∀ (s : State) (core : Nat) (i : Issue), core < 256 → s.tablesOk = true → s.issue? core 7 = some i → (s.core core).sync = [] → s.blockedOn core = [] →
      (s.core core).cur = some i.b → (s.batch? i.b).elim false (·.replayed) = false → (s.core core).runDead (stepRun i.w) = false →
      (s.core core).heldToken i.b (stepPartner i.w) (sfld i.w 4 17 14) = none →
      ∃ t, exec (.waitStep core) s = .next t ∧
        (t.core core).sync = [.wait (stepNo i.w) (stepPartner i.w) (sfld i.w 4 17 14) (sfld i.w 8 26 24) (stepRun i.w)
          (sfld i.w 8 23 0 != 0) false] ∧
        State.flying core i false false s t ∧ changesOnly [.cores, .obs] s t) ∧
  (∀ (s : State) (core : Nat) (i : Issue) (tok : Token), core < 256 → s.tablesOk = true → s.issue? core 7 = some i →
      i.t.steps[stepNo i.w]? = some i.w →
      (∀ k, (s.core k).sync = []) → (s.core core).cur = some i.b → (s.batch? i.b).elim false (·.replayed) = false →
      (s.core core).runDead (stepRun i.w) = false → tok.dead = false → sfld i.w 8 26 24 ≠ 0 → s.shapesOk = true →
      (s.core core).heldToken i.b (stepPartner i.w) (sfld i.w 4 17 14) = some tok →
      ∃ t, exec (.waitStep core) s = .next t ∧ (t.core core).pred (sfld i.w 8 26 24) = !tok.empty ∧
        (t.core core).channels = (s.core core).channels.erase tok ∧ (t.core core).sync = [] ∧ State.stepped core i s t ∧
        changesOnly [.cores, .dev, .obs, .walk] s t) ∧
  (∀ (s : State) (core : Nat) (tok : Token), core < 256 → s.tablesOk = true → s.frozen = false →
      (s.core core).nextInbound tok.sender tok.chan = some tok → (s.core core).sync = [] →
      s.blockedOn core = [] → (s.core core).lateFor.contains (tok.ordinal, tok.sender, tok.chan) = false →
      ∃ t, exec (.tokenArrival core tok) s = .next t ∧ (t.core core).channels = (s.core core).channels ++ [tok] ∧
        (t.core core).inbound = (s.core core).inbound.erase tok ∧
        (t.core (tok.sender % 256)).outgoing = (s.core (tok.sender % 256)).outgoing.erase (core, tok) ∧
        (∀ m, m ≠ core → m ≠ tok.sender % 256 → t.core m = s.core m) ∧ changesOnly [.cores] s t) ∧
  (∀ (s : State) (core n sender chan pdst run : Nat), core < 256 → s.tablesOk = true → s.frozen = false →
      (s.core core).sync = [.wait n sender chan pdst run true false] → s.blockedOn core = [] → pdst ≠ 0 → s.shapesOk = true → pdst < 8 →
      (s.core core).runDead run = false → (s.core core).heldToken ((s.core core).cur.getD 0) sender chan = none →
      ∃ t, exec (.waitTimeout ⟨core, n⟩) s = .next t ∧ (t.core core).pred pdst = false ∧ (t.core core).sync = [] ∧
        ((s.core core).cur.getD 0, sender, chan) ∈ (t.core core).lateFor ∧
        changesOnly [.cores, .dev, .obs, .walk] s t) ∧
  (∀ (s : State) (core b run cause : Nat) (r : RunRec), core < 256 → s.tablesOk = true → s.frozen = false → s.run? b run = some r →
      r.cause ≠ 0 → cause ≠ 0 → (s.core core).sync = [] → s.blockedOn core = [] →
      ∃ t, exec (.runDeathNotice core b run cause) s = .next t ∧ (b, run) ∈ (t.core core).dead ∧ t.walk = s.walk ∧
        (∀ m, m ≠ core → t.core m = s.core m) ∧ changesOnly [.cores] s t)

/-! ### Steps that the sequencer executes -/

/-- TAKE_STEP, unmasked, with good parity on an opened bank whose next grant lies below its limit: the tile register takes the grant's tile (the map's entry or the grant number) and its predicate becomes true (R144, R170). SHAPE_STEP, with a shape inside its planned maximum from a stream or from an SRAM word: the limit register takes shape times multiplier and the predicate says whether the shape is not 0 (R145). PROBE_STEP, with 18 lines inside its buffer: the site's capture is armed behind those armed before (R140). A SHAPE whose word in the core's SRAM has bad parity, in a line that no step of this batch or the one before wrote and that holds no descriptor, poisons the line, and its run is dead on the core (R237, R271, R273). Each completes at once and its core goes on. Which lines count as regenerable is log 68. -/
def Obligations.TakeShapeAndProbeSteps : Prop :=
  (∀ (s : State) (core : Nat) (i : Issue), core < 256 → s.tablesOk = true → s.issue? core 5 = some i →
      stepMasked (s.core core) i.w = false →
      let cl := core / 8
      let k := sfld i.w 4 3 0
      let e := s.counterEntry cl (s.core core).side k
      let bank := s.ctrBank cl k i.b
      let tdst := sfld i.w 4 5 4
      let pdst := sfld i.w 4 8 6
      let tile := if ceMap e = true then num (s.load (.sb cl) (ceMapAddr e * 64 + 2 * bank.next) 2) 0 2 else bank.next
      ceWithdraw e = false → bank.state = .opened → bank.ordinal = i.b → bank.next < ceLimit e →
      s.shapesOk = true →
      ∃ t, exec (.takeStep core true none) s = .next t ∧ (t.core core).tile tdst = tile ∧ (t.core core).pred pdst = true ∧
        (t.ctrBank cl k i.b).next = bank.next + 1 ∧ State.stepped core i s t ∧ changesOnly [.clusters, .cores, .obs, .walk] s t) ∧
  (∀ (s : State) (core : Nat) (i : Issue), core < 256 → s.tablesOk = true → s.issue? core 8 = some i →
      stepMasked (s.core core) i.w = false →
      let addr := sfld i.w 8 20 0 * 4
      let fromStream := sfld i.w 4 1 0 == 0
      let a := shapeArea core i.w
      let v := if fromStream then s.streamShape i.b i.w else num (s.load a addr 4) 0 2
      let l := sfld i.w 4 4 2
      (fromStream = false → i.t.linesInside { space := if sfld i.w 4 1 0 = 2 then 1 else 0, line := addr / 64 } 1 = 1 ∧
        s.poisoned a (addr / 64) = false ∧ s.badWords a (addr / 64) = []) →
      v ≤ sfld i.w 4 31 16 → s.shapesOk = true →
      ∃ t, exec (.shapeStep core []) s = .next t ∧ (t.core core).limit l = (if l = 0 then 65535 else v * sfld i.w 4 15 8 % 65536) ∧
        (sfld i.w 4 7 5 ≠ 0 → (t.core core).pred (sfld i.w 4 7 5) = (v != 0)) ∧ State.stepped core i s t ∧
        changesOnly [.cores, .obs, .walk] s t) ∧
  (∀ (s : State) (core n : Nat) (i : Issue), core < 256 → s.tablesOk = true → s.issue? core 10 = some i →
      stepMasked (s.core core) i.w = false → i.t.linesInside (sramOpnd (sfld i.w 8 13 0)) 18 = 18 →
      s.siteOf core (sfld i.w 4 1 0) = some n →
      ∃ t, exec (.probeStep core) s = .next t ∧
        t.site n = { s.site n with probes := (s.site n).probes ++ [⟨stepNo i.w, sfld i.w 8 13 0, sfld i.w 4 2 2 == 1, sfld i.w 4 6 3, false⟩] } ∧
        (∀ m, m ≠ n → t.site m = s.site m) ∧ State.stepped core i s t ∧ changesOnly [.cores, .obs, .sites, .walk] s t) ∧
  (∀ (s : State) (core : Nat) (i : Issue), core < 256 → s.tablesOk = true → s.shapesOk = true → s.issue? core 8 = some i →
      stepMasked (s.core core) i.w = false → sfld i.w 4 1 0 = 1 →
      let line := sfld i.w 8 20 0 * 4 / 64
      i.t.linesInside (sramOpnd line) 1 = 1 → s.poisoned (.sram core) line = false → i.t.holdsDesc line = false →
      s.producedIn core i.b { space := 0, line := line } (stepNo i.w) = none →
      ∃ t, exec (.shapeStep core [⟨0, sfld i.w 8 20 0, false, []⟩]) s = .next t ∧ t.poisoned (.sram core) line = true ∧
        (i.b, stepRun i.w) ∈ (t.core core).dead ∧ State.stepped core i s t ∧
        changesOnly ([.clusters, .cores, .group, .mem, .walk] ++ recordParts) s t)

/-- A DRONE step that is masked or not live completes and judges nobody. A live DRONE_KERNEL_SLOT in which every unit answers as the arithmetic has it (a standby as over the drone plane pattern, an active site as over its verified shard) passes its core and every named site in this batch (R282, R284, R285, R301). A live DRONE_TUNING_WINDOW starts the first pending cause of each named site and holds the step until the passes end; a live DRONE_SCAN_SLOT holds it for the sites whose plane is not being written. Nothing is written to memory. How the operands of a drone are cut from gen is log 82; membership of a scan slot is log 68. -/
def Obligations.DroneStepsServeTheirSites : Prop :=
  (∀ (s : State) (core k : Nat) (c : Instr) (faults : KernelFaults) (i : Issue), core < 256 →
      s.tablesOk = true → s.droneIssue? core k = some i → (stepMasked (s.core core) i.w = true ∨ s.stepLive core i.b i.w = false) →
      ((k = 0 ∧ c = .droneKernelSlot core faults) ∨ (k = 1 ∧ c = .droneTuningWindow core) ∨ (k = 2 ∧ c = .droneScanSlot core)) →
      ∃ t, exec c s = .next t ∧ State.stepped core i s t ∧ changesOnly [.cores, .obs, .walk] s t) ∧
  (∀ (s : State) (core : Nat) (margins : List (Nat × Nat)) (i : Issue), core < 256 → s.tablesOk = true → s.droneIssue? core 0 = some i →
      stepMasked (s.core core) i.w = false → s.stepLive core i.b i.w = true →
      (∀ n, n ∈ s.droneSites core i.w → (s.site n).state = .standby ∨
        s.kEngSite n (s.sideOf core i.b) (droneSeed i.b) [] = s.kEngExact n (s.sideOf core i.b) (droneSeed i.b)) →
      ∃ t, exec (.droneKernelSlot core ⟨[], margins, []⟩) s = .next t ∧ State.stepped core i s t ∧
        (t.core core).check.lastPass = some (max i.b ((s.core core).check.lastPass.getD 0)) ∧
        (∀ n, n ∈ s.droneSites core i.w → (t.site n).check.lastPass = some (max i.b ((s.site n).check.lastPass.getD 0))) ∧
        (∀ n, n ∉ s.droneSites core i.w → t.site n = s.site n) ∧
        (∀ m, m ≠ (s.arrayFor (core / 8)).getD (core / 8) → t.cluster m = s.cluster m) ∧
        changesOnly [.clusters, .cores, .obs, .sites, .walk] s t) ∧
  (∀ (s : State) (core : Nat) (i : Issue), core < 256 → s.tablesOk = true → s.droneIssue? core 1 = some i →
      stepMasked (s.core core) i.w = false → s.stepLive core i.b i.w = true →
      let sites := (s.droneSites core i.w).filter fun n => !(s.site n).pending.isEmpty && (s.site n).passing.isNone
      sites ≠ [] →
      ∃ t, exec (.droneTuningWindow core) s = .next t ∧ State.flying core i true false s t ∧
        (t.core core).droneLive = some ⟨stepNo i.w, 1, maskOf 5 (sites.map (· % 5))⟩ ∧
        (∀ n c, n ∈ sites → windowCause (s.site n).pending = some c →
          (t.site n).passing = some (s.newPass n c i.b (c == .retry) false true)) ∧
        (∀ n, n ∉ sites → t.site n = s.site n) ∧ changesOnly [.cores, .obs, .sites] s t) ∧
  (∀ (s : State) (core : Nat) (i : Issue), core < 256 → s.tablesOk = true → s.droneIssue? core 2 = some i →
      stepMasked (s.core core) i.w = false → s.stepLive core i.b i.w = true →
      let sites := (s.droneSites core i.w).filter fun n => (s.plane (2 * n + s.scanSide n)).cls == 0
      sites ≠ [] →
      ∃ t, exec (.droneScanSlot core) s = .next t ∧ State.flying core i true false s t ∧
        (t.core core).droneLive = some ⟨stepNo i.w, 2, maskOf 5 (sites.map (· % 5))⟩ ∧ changesOnly [.cores, .obs] s t)

/-- A MARK_CHECKPOINT whose MARKID closes no work counter is added to the marks of its core. A MARK_LAYER_START that is not masked sets the split allowance of the layer and restarts the count of split bows (R153); a masked one writes neither (R143). A MARK_RUN_END adds the tensor that its descriptor names, with the elements that the limit register leaves present, to the payload of its run (R329); where the tensor holds poison the payload stays and the run is dead on the core (R273, R274). Each completes at once. The split allowance persists (log 18). -/
def Obligations.MarksOfATab : Prop :=
  (∀ (s : State) (core ns : Nat) (i : Issue), core < 256 → s.tablesOk = true → s.markIssue? core 0 = some i →
      (∀ k, k < 16 → ceLimit (s.counterEntry (core / 8) (s.core core).side k) = 0 ∨
        ceCloseId (s.counterEntry (core / 8) (s.core core).side k) ≠ sfld i.w 4 15 0) →
      ∃ t, exec (.markCheckpoint core ns) s = .next t ∧ (t.core core).marks = (s.core core).marks ++ [sfld i.w 4 15 0] ∧
        State.stepped core i s t ∧ changesOnly [.cores, .dev, .obs, .walk] s t) ∧
  (∀ (s : State) (core : Nat) (i : Issue), core < 256 → s.tablesOk = true → s.markIssue? core 1 = some i →
      ∃ t, exec (.markLayerStart core) s = .next t ∧ 
        (t.core core).splitAllow = (if stepMasked (s.core core) i.w = true then (s.core core).splitAllow else sfld i.w 0xC 23 0) ∧
        (t.core core).splitCount = (if stepMasked (s.core core) i.w = true then (s.core core).splitCount else 0) ∧
        State.stepped core i s t ∧ changesOnly [.cores, .dev, .obs, .walk] s t) ∧
  (∀ (s : State) (core : Nat) (i : Issue) (x : Tensor) (r : RunRec), core < 256 → s.tablesOk = true → s.markIssue? core 2 = some i →
      stepMasked (s.core core) i.w = false → sfld i.w 4 15 0 ≠ 0xFFFF →
      s.publishesPoison core i.b i.t (sfld i.w 4 15 0) = false → s.tensorOf core i.b i.t (sfld i.w 4 15 0) = some x →
      s.run? i.b (stepRun i.w) = some r →
      ∃ t, exec (.markRunEnd core) s = .next t ∧ (t.run? i.b (stepRun i.w)).map (·.payload) = some (r.payload ++ [x]) ∧
        (t.core core).published = (s.core core).published ++ [(stepRun i.w, sfld i.w 4 15 0, x.count)] ∧ State.stepped core i s t ∧
        changesOnly [.cores, .group, .obs, .tx, .walk] s t) ∧
  (∀ (s : State) (core : Nat) (i : Issue), core < 256 → s.tablesOk = true → s.markIssue? core 2 = some i →
      stepMasked (s.core core) i.w = false → sfld i.w 4 15 0 ≠ 0xFFFF → s.publishesPoison core i.b i.t (sfld i.w 4 15 0) = true →
      ∃ t, exec (.markRunEnd core) s = .next t ∧ (i.b, stepRun i.w) ∈ (t.core core).dead ∧ wroteRecord 0x09 s t ∧
        (t.run? i.b (stepRun i.w)).map (·.payload) = (s.run? i.b (stepRun i.w)).map (·.payload) ∧ State.stepped core i s t ∧
        changesOnly ([.clusters, .cores, .group, .walk] ++ recordParts) s t)

/-- An END_STEP takes its core out of the batch: IDLE, or STOPPED in a drain, with no batch in hand, the batch done, and no capture armed on its sites (R140, R158). A TAB_BLOCK_FETCH whose first source is good lets the walk go on where it stands, with the block in the tab buffer; one whose first source fails and whose second is good rewrites the failed copy; one whose sources all fail marks each copy failed and writes record 0x0B, and the side of the core must be fetched again (R156). When the core rejoins is log 74. -/
def Obligations.EndAndBlocksOfATab : Prop :=
  (∀ (s : State) (core : Nat) (i : Issue), core < 256 → s.tablesOk = true → s.issue? core 0 = some i →
      ∃ t, exec (.endStep core) s = .next t ∧
        (t.core core).seq = (if (s.core core).seq = .draining then .stopped else .idle) ∧ (t.core core).cur = none ∧
        (t.core core).done = some i.b ∧ (∀ k, k < 5 → (t.site (core * 5 + k)).probes = []) ∧
        (∀ x, t.batch? i.b = some x → core ∈ x.ended) ∧ changesOnly [.capo, .cores, .group, .mem, .obs, .sites, .tx, .walk] s t) ∧
  (∀ (s : State) (core block b : Nat) (tab : Tab) (good : List Bool), core < 256 → s.tablesOk = true → s.fetches core block b tab →
      ((blockSources tab (s.firstFetch core block tab)).headD 1 = 0 → s.sourceHolds core block tab 0 = true) →
      ∃ t, exec (.tabBlockFetch core block (true :: good)) s = .next t ∧ (t.core core).next = (s.core core).next ∧
        (t.core core).flight = (s.core core).flight ∧ (t.core core).cur = some b ∧ block ∈ (t.core core).ring ∧ changesOnly [.cores, .obs] s t) ∧
  (∀ (s : State) (core block b x y : Nat) (l : List Nat) (tab : Tab), core < 256 → s.tablesOk = true → s.memOk = true →
      s.fetches core block b tab → blockSources tab (s.firstFetch core block tab) = x :: y :: l → x ≠ y →
      let at_ := tab.blockAt block
      let bytes := tab.blockBytes block
      at_ + bytes.length ≤ 2 ^ 23 →
      ∃ t, exec (.tabBlockFetch core block [false, true]) s = .next t ∧ (t.core core).next = (s.core core).next ∧
        (t.core core).cur = some b ∧ block ∈ (t.core core).ring ∧ (core * 2 + (s.core core).side, x) ∉ t.mem.tabBad ∧
        (x = 0 → t.load (.sb (core / 8)) at_ bytes.length = bytes) ∧ storesOnly (.sb (core / 8)) at_ (at_ + bytes.length) s t ∧
        changesOnly [.cores, .mem, .obs] s t) ∧
  (∀ (s : State) (core block b : Nat) (tab : Tab), core < 256 → s.tablesOk = true → s.fetches core block b tab →
      ∃ t, exec (.tabBlockFetch core block [false, false, false, false]) s = .next t ∧ (t.core core).refetch = true ∧
        (t.core core).cur = none ∧ (t.core core).seq = (if (s.core core).seq = .draining then .stopped else .idle) ∧
        wroteRecord 0x0B s t ∧ t.mem = { s.mem with tabBad := t.mem.tabBad } ∧
        (∀ x, x ∈ blockSources tab (s.firstFetch core block tab) → (core * 2 + (s.core core).side, x) ∈ t.mem.tabBad) ∧ t.planes = s.planes)

/-! ### Ordinals -/

/-- A CLUSTER_ORDINAL_ACCEPT of an opened ordinal above those accepted, with no opened batch passed over (R22) and whose last but one batch has ended on the cluster, puts it first among the accepted and opens the work counters' banks for it (R169). An ORDINAL_RECEIVED of an accepted ordinal of this boot and epoch, above every one the core holds and passing none over, puts it behind the core's ordinals. A CORE_BATCH_START of an idle core on the batch's side and in its mode epoch, with every plane that it uses at a switch sealed (R200) and no SIGNAL waiting for room in its channels, takes the first ordinal: the step counter is 0, no step is in flight, every predicate is true, every limit is 65,535 and every tile register is NONE (R139, R141). The epoch that a core reports is log 51; a start from STOPPED is log 86. -/
def Obligations.OrdinalsReachCores : Prop :=
  (∀ (s : State) (cl b : Nat), cl < 32 → s.tablesOk = true → s.frozen = false → s.clusterActive cl = true → (s.batch? b).isSome = true →
      (∀ x, x ∈ (s.cluster cl).accepted → x < b) → s.clusterSkipsNone cl b = true → (b < 2 ∨ s.clusterEnded cl (b - 2) = true) →
      ∃ t, exec (.clusterOrdinalAccept cl b) s = .next t ∧ (t.cluster cl).accepted = (b :: (s.cluster cl).accepted).take 4 ∧
        (∀ k, k < 16 → ceLimit (s.counterEntry cl (s.devSide b) k) ≠ 0 → t.ctrBank cl k b = { state := .opened, ordinal := b }) ∧
        (∀ m, m ≠ cl → t.cluster m = s.cluster m) ∧ changesOnly [.clusters, .obs] s t) ∧
  (∀ (s : State) (core b boot epoch : Nat) (x : Batch), core < 256 → s.tablesOk = true → s.frozen = false → s.batch? b = some x →
      s.coreActive core = true → b ∈ (s.cluster (core / 8)).accepted → x.epoch = epoch → boot = s.dev.bootCount →
      (∀ m, m ∈ (s.core core).ordinals → m.ordinal < b) → (∀ c, (s.core core).cur = some c → c < b) →
      (∀ c, (s.core core).done = some c → c < b) → s.coreSkipsNone core b = true →
      ∃ t, exec (.ordinalReceived core b boot epoch) s = .next t ∧
        t.core core = { s.core core with ordinals := (s.core core).ordinals ++ [⟨b, boot, epoch⟩] } ∧
        (∀ m, m ≠ core → t.core m = s.core m) ∧ changesOnly [.cores] s t) ∧
  (∀ (s : State) (core : Nat) (m : OrdinalMsg), core < 256 → s.tablesOk = true → s.startable core = some m → s.coreSealed core m.ordinal = true →
      s.blockedOn core = [] → (s.site (core * 5 + 4)).state ≠ .copying → (∀ k, k < 5 → (s.site (core * 5 + k)).leaving = false) →
      ∃ t, exec (.coreBatchStart core) s = .next t ∧ (t.core core).cur = some m.ordinal ∧ (t.core core).next = 0 ∧
        (t.core core).flight = [] ∧ (t.core core).ordinals = (s.core core).ordinals.tail ∧ (∀ k, (t.core core).pred k = true) ∧
        (∀ k, (t.core core).limit k = 65535) ∧ (∀ k, (t.core core).tile k = 65535) ∧ (t.core core).epoch = m.epoch ∧
        changesOnly [.capo, .cores, .flash, .keep, .obs, .sites] s t)

/-! ### Cameras and batches -/

/-- A CSI2_FRAME_START on lanes in use gives every stream of its port and VC the next frame number and a frame that fills, and one that begins a set with a free buffer opens the window with that buffer (R317, R322). A CSI2_LONG_PACKET of the right width adds a line to every frame that fills from its port, VC and data type (R312). A CSI2_FRAME_END of one complete frame that is in time normalises it, writes the rows to the frame buffer and nothing else in memory, and puts the frame with its digest into its set (R315, R316); one that loses its contention with the deadline is counted as late, and the deadline has expired (R31, R318). Frame numbers from 1 are log 53; the YUV order is log 29. -/
def Obligations.CameraPacketsFillFrames : Prop :=
  (∀ (s : State) (port vc : Nat) (early : Bool), port < 16 → vc < 16 → s.intakeOn = true → cfgLanes s.intakeNow port ≠ 0 →
      s.tablesOk = true →
      let cfg := s.intakeNow
      let streams := (cfgMembers cfg).filter fun k => cfgPort (cfgStream cfg k) == port && cfgVc (cfgStream cfg k) == vc
      ∃ t, exec (.csi2FrameStart port vc 0 early) s = .next t ∧
        (∀ k, k ∈ streams → tget0 0 t.walk.frameSeq k = (tget0 0 s.walk.frameSeq k + 1) % 2 ^ 32) ∧
        t.walk.filling.map (·.stream) = s.walk.filling.map (·.stream) ++ streams ∧
        (∀ k l j, streams = k :: l → s.walk.window = none → cfgNum cfg 0x3000 6 0 = 0 → cfgNum cfg 0x3000 5 0 = 0 → s.freeBuffer = some j →
          t.walk.window = some (k, (tget0 0 s.walk.frameSeq k + 1) % 2 ^ 32) ∧ t.walk.sets.map (·.buf) = j :: s.walk.sets.map (·.buf)) ∧
        changesOnly ([.walk] ++ recordParts) s t) ∧
  (∀ (s : State) (port vc dt : Nat) (samples : List Nat), port < 16 → vc < 16 → s.intakeOn = true → dtBits dt ≠ 0 →
      cfgLanes s.intakeNow port ≠ 0 →
      let mine (f : Frame) : Bool := cfgPort f.cfg == port && cfgVc f.cfg == vc && cfgDt f.cfg == dt
      (∀ f, f ∈ s.walk.filling → mine f = true → samples.length = if dt = 0x1E then 2 * cfgSrcW f.cfg else cfgSrcW f.cfg) →
      ∃ t, exec (.csi2LongPacket port vc dt 0 true samples) s = .next t ∧
        t.walk = { s.walk with filling := s.walk.filling.map (fun f =>
            if mine f = true then { f with lines := f.lines + 1, samples := f.samples ++ [samples] } else f) } ∧
        changesOnly [.walk] s t) ∧
  (∀ (s : State) (port vc : Nat) (f : Frame) (x : CapSet) (first : Nat × Nat), port < 16 → vc < 16 → s.memOk = true → s.intakeOn = true →
      s.walk.filling.filter (fun g => cfgPort g.cfg == port && cfgVc g.cfg == vc) = [f] → f.bad = false → f.lines = cfgSrcH f.cfg →
      s.walk.lost.contains f.stream = false → f.set = some first → s.walk.sets.find? (fun y => y.first == first) = some x →
      x.deadline = false → f.buf < 3 → (frameBytes (frameRows f.cfg f.samples)).length ≤ 2 ^ 24 →
      let b := frameBytes (frameRows f.cfg f.samples)
      ∃ t, exec (.csi2FrameEnd port vc 0 true) s = .next t ∧
        t.walk.filling = s.walk.filling.filter (fun g => !(cfgPort g.cfg == port && cfgVc g.cfg == vc)) ∧
        t.load (.frame f.stream f.buf) 0 b.length = b ∧ storesOnly (.frame f.stream f.buf) 0 b.length s t ∧
        (t.walk.sets.find? fun y => y.first == first).map (·.frames) = some (x.frames ++
          [{ f with complete := true, digest := frameDigest f.stream f.cfg (frameRows f.cfg f.samples), samples := [] }]) ∧
        changesOnly [.group, .mem, .obs, .tx, .walk] s t) ∧
  (∀ (s : State) (port vc : Nat) (f : Frame) (x : CapSet) (first : Nat × Nat), port < 16 → vc < 16 → s.intakeOn = true →
      s.walk.filling.filter (fun g => cfgPort g.cfg == port && cfgVc g.cfg == vc) = [f] → f.bad = false → f.lines = cfgSrcH f.cfg →
      s.walk.lost.contains f.stream = false → f.set = some first → s.walk.sets.find? (fun y => y.first == first) = some x →
      x.deadline = false →
      ∃ t, exec (.csi2FrameEnd port vc 0 false) s = .next t ∧
        (t.walk.sets.find? fun y => y.first == first).map (fun y => (y.frames, y.deadline)) = some (x.frames, true) ∧
        t.walk.csiLate = s.walk.csiLate + 1 ∧ changesOnly [.group, .obs, .tx, .walk] s t)

/-- A CAPTURE_WINDOW_CLOSE closes the window of the newest set. A BATCH_DEADLINE marks the oldest incomplete set. A STREAM_LOSS of an enabled member stream makes it LOST with record 0x23 (R320). A PERIODIC_BATCH with periodic source makes an opening due (R321). A FRAME_BUFFER_RELEASE of a batch that has ended on every core and is settled frees its buffers (R322). A lost period is log 30. -/
def Obligations.CaptureTimersAndBuffers : Prop :=
  (∀ s : State, ∃ t, exec .captureWindowClose s = .next t ∧ t.walk.window = none ∧
      t.walk.sets = s.walk.sets.map (fun x => if some x.first = s.walk.window then { x with windowOpen := false } else x) ∧
      t.walk.filling = s.walk.filling ∧ t.walk.batches = s.walk.batches ∧ changesOnly [.walk] s t) ∧
  (∀ (s : State) (x : CapSet), s.walk.replay = false → (s.walk.sets.filter fun y => !y.ready).getLast? = some x →
      ∃ t, exec .batchDeadline s = .next t ∧
        t.walk.sets = s.walk.sets.map (fun y => if y.first = x.first then { y with deadline := true } else y) ∧
        t.walk.batches = s.walk.batches ∧ changesOnly [.group, .obs, .tx, .walk] s t) ∧
  (∀ (s : State) (k : Nat), k < 32 → (s.dev.state = .ready ∨ s.dev.state = .serving ∨ s.dev.state = .degraded) → s.walk.replay = false →
      cfgEn (cfgStream s.walk.intakeCfg k) = true → k ∉ s.walk.lost →
      ∃ t, exec (.streamLoss k) s = .next t ∧ t.walk.lost = s.walk.lost ++ [k] ∧ t.walk.sets = s.walk.sets ∧ wroteRecord 0x23 s t ∧
        changesOnly (.walk :: recordParts) s t) ∧
  (∀ s : State, s.dev.batchOpening = true → s.walk.replay = false → cfgNum (s.intakeFor s.nextOrd) 0x3000 6 0 = 1 →
      s.walk.periodDue = false →
      ∃ t, exec .periodicBatch s = .next t ∧ t.walk = { s.walk with periodDue := true } ∧ changesOnly [.group, .obs, .tx, .walk] s t) ∧
  (∀ (s : State) (b : Nat) (x : Batch), s.batch? b = some x → (∀ k, k ∈ s.walkers b → k ∈ x.ended) → s.settled b none = true →
      ∃ t, exec (.frameBufferRelease b) s = .next t ∧ t.batch? b = some { x with released := true, buf := none } ∧
        t.walk.sets = s.walk.sets ∧ t.walk.runs = s.walk.runs ∧ changesOnly [.walk] s t)

/-- An IMPORT_DATAGRAM that its MAC takes, whose tag verifies (R325, R338), that passes the checks of R326 and carries, alone, a whole tensor of a stream without a gathered part completes it: the stream's latest tensor has the datagram's sequence number, the digest of its bytes as accepted, and the codes of R101, and a buffer of the stream that no batch in progress uses holds them (R326). A datagram whose tag fails changes no stream and writes record 0x26. No other memory changes. The configuration layout is log 16. -/
def Obligations.ImportDatagramsCompleteTensors : Prop :=
  (∀ (s : State) (addr data : Bytes) (port : Nat) (on : MacVia) (src tgt : Fmt), on.mac < 2 → s.macDrops on.mac on.secured = false → s.memOk = true → s.dev.state ≠ .boot → s.dev.state ≠ .halted → s.walk.replay = false →
      let i := num data 4 1
      let c := s.importCfg i
      let len := num data 20 2
      let first := num data 16 4
      let seq := num data 8 8
      let w := src.width
      let elems := len / (w / 8)
      let raw := assemble [(first * (w / 8), slice data 24 len)] (packedLen src c.count)
      let conv := (List.range c.count).map fun k => floatImport src tgt c.mant c.shift c.zp (elemRaw w raw k)
      let codes := packRaw tgt.width (conv.map fun v => unsext tgt.width v.1)
      let x := tget0 ({} : ImportStream) s.walk.imports i
      outFmt c.srcfmt = some src → outFmt c.target = some tgt → data.length = 24 + len + 16 → num data 0 4 = 0x4B52494D → i < 8 →
      c.count ≠ 0 → num data 5 1 = c.srcfmt → num data 6 2 = 0 → num data 22 2 = 0 → len ≤ 1024 → padTo 16 addr = c.addr → port = c.port →
      elems * (w / 8) = len → first = 0 → elems = c.count → (∀ q, q ∈ x.doneSeq → q < seq) → x.seq = none →
      packedLen src c.count ≤ len → s.importTagOk i len data = true →
      let k := s.importBuffer i
      ∃ t, exec (.importDatagram addr port data on) s = .next t ∧
        tget0 ({} : ImportStream) t.walk.imports i =
          { seq := none, parts := [], doneSeq := some seq, tensor := codes
            digest := digest32 raw, buf := k, firstUse := none } ∧
        t.load (.imports i k) 0 codes.length = codes ∧
        (∀ (a : Area) (y n : Nat), (∀ j k, a ≠ .imports j k) → t.load a y n = s.load a y n) ∧ changesOnly [.mem, .obs, .walk] s t) ∧
  (∀ (s : State) (addr data : Bytes) (port : Nat) (on : MacVia), on.mac < 2 → s.macDrops on.mac on.secured = false →
      s.importTagOk (num data 4 1) (num data 20 2) data = false → s.dev.state ≠ .boot → s.dev.state ≠ .halted → s.walk.replay = false →
      ∃ t, exec (.importDatagram addr port data on) s = .next t ∧ t.walk = s.walk ∧ wroteRecord 0x26 s t ∧ changesOnly recordParts s t)

/-- A BATCH_OPEN of a device that may open (R318, R321, Table 01-7) outside a group opens the batch after the latest one: it is the latest open batch, its record is the first of the batches kept, and the run of each number that its side's programme holds has a record of that batch. A device that may not open, or that another member leads, opens nothing. How long batch records are kept is log 50. -/
def Obligations.BatchesOpenInOrder : Prop :=
  (∀ (s : State) (temps : List Int) (dw : Bool), s.inGroup = false → s.mayOpen dw = true → s.walk.replay = false →
      ∃ t x l, exec (.batchOpen temps dw) s = .next t ∧ t.dev.bOpen = some s.nextOrd ∧ t.walk.batches = x :: l ∧ x.ordinal = s.nextOrd ∧
        x.temps = temps ∧ x.epoch = t.dev.modeEpoch ∧
        (∀ r, r ∈ t.runsOf (t.devSide s.nextOrd) → (t.run? s.nextOrd r).isSome = true) ∧ t.mem = s.mem ∧ t.planes = s.planes ∧
        t.flash.images = s.flash.images) ∧
  (∀ (s : State) (temps : List Int) (dw : Bool), s.mayOpen dw = false → exec (.batchOpen temps dw) s = .next s) ∧
  (∀ (s : State) (temps : List Int) (dw : Bool), s.notLeader = true → exec (.batchOpen temps dw) s = .next s)

/-! ### The dictionary -/

/-- A READ inside a session or outside one, of an object that may be read and fits into one answer, is answered OK with its bytes (R394). A DESCRIBE is answered with the object's type, access, length and kept flag. A SEG_READ from offset 0 without a transfer before it is answered with the first bytes and begins a transfer (R395). An ABORT ends the requester's transfer on the object, and bytes of it that took no effect are given up. Nothing but sessions, transfers, those bytes and what is sent changes; outside a session, for READ, nothing but what is sent. Answers outside a session are log 46. -/
def Obligations.ReadsAreAnswered : Prop :=
  (∀ (s : State) (r : Req) (x : Session) (idx sub : Nat) (o : Obj), s.takes r 1 → s.within r x →
      s.dict.outbox.any (fun a => a.ep == r.ep) = false → s.readable idx sub = .ok o → o.acc ≠ 2 → s.readLen o ≤ segMax r.ep r.sid →
      ∃ u, exec (.read r idx sub) s = .next (s.sent r x idx sub 0 0 (s.readPart o 0 (s.readLen o)) u) ∧ changesOnly [.dict] s u) ∧
  (∀ (s : State) (r : Req) (idx sub : Nat) (o : Obj), s.takes r 1 → r.sid = 0 →
      s.dict.outbox.any (fun a => a.ep == r.ep) = false → s.readable idx sub = .ok o → o.acc ≠ 2 → s.readLen o ≤ segMax r.ep 0 →
      ∃ u, exec (.read r idx sub) s = .next (s.sentPlain r idx sub 0 0 (s.readPart o 0 (s.readLen o)) u) ∧ changesOnly [] s u) ∧
  (∀ (s : State) (r : Req) (x : Session) (idx sub : Nat) (o : Obj), s.takes r 6 → s.within r x →
      s.dict.outbox.any (fun a => a.ep == r.ep) = false → s.obj? idx sub = some o →
      ∃ u, exec (.describe r idx sub) s = .next (s.sent r x idx sub 0 0 (leBytes 1 o.type ++ leBytes 1 o.acc ++ leBytes 4 (o.len.getD 0xFFFFFFFF) ++ leBytes 1 o.kept.toNat) u) ∧
        changesOnly [.dict] s u) ∧
  (∀ (s : State) (r : Req) (idx sub : Nat) (o : Obj), s.takes r 3 → r.sid = 0 →
      s.dict.outbox.any (fun a => a.ep == r.ep) = false → s.readable idx sub = .ok o → o.entry = 0 → s.transfer? r idx sub = none →
      s.transferBusy r idx sub false = false →
      let seg := (s.readObj o).take (min (segMax r.ep 0) (s.readObj o).length)
      ∃ u, exec (.segRead r idx sub 0) s = .next (u.sendAnswer r.ep (response [] r.ep (s.replyTo r) 131 r.tid idx sub 0 0 r.seq
          (decide ((s.readObj o).length ≤ seg.length)) 0 seg)) ∧
        (∃ y, u.transfer? r idx sub = some y ∧ y.writing = false ∧ y.offset = 0 ∧ y.seg = seg) ∧ changesOnly [.dict] s u) ∧
  (∀ (s : State) (r : Req) (x : Session) (idx sub : Nat) (o : Obj), s.takes r 5 → s.within r x →
      s.dict.outbox.any (fun a => a.ep == r.ep) = false → s.obj? idx sub = some o →
      ∃ u, exec (.abort r idx sub) s = .next (s.sent r x idx sub 0 0 [] u) ∧ u.transfer? r idx sub = none ∧
        changesOnly [.dict, .capo, .keep, .walk] s u)

/-- A WRITE inside a session that admits it, of a number in range to a setting that is not kept, puts the setting in force and is answered OK; to a kept setting it also asks the keep store for the record, and its answer waits for the append (R393). A SEG_WRITE that carries the whole number in one LAST segment does the same as the WRITE (R396). Nothing else changes. The order of the checks is log 57. -/
def Obligations.WritesSetTheirObjects : Prop :=
  (∀ (s : State) (r : Req) (x : Session) (idx sub : Nat) (d : Bytes) (o : Obj) (e : NumSet), s.admits r x 2 idx sub d →
      s.obj? idx sub = some o → o.len = some d.length → d.length ≤ segMax r.ep r.sid → numSetting? (idx * 256 + sub) = some e →
      d.length = typeLen e.type → (idx = 0xB010 → s.fixedVdd = false) → e.lo ≤ leNat d → leNat d ≤ e.hi →
      s.numOk (idx * 256 + sub) (leNat d) = true → e.kept = false →
      ∃ u, exec (.write r idx sub d) s = .next (s.sent r x idx sub 0 0 [] u) ∧ u.dict.settings = putSetting (idx * 256 + sub) d s.dict.settings ∧ changesOnly [.dict] s u) ∧
  (∀ (s : State) (r : Req) (x : Session) (idx sub : Nat) (d : Bytes) (o : Obj) (e : NumSet), s.admits r x 2 idx sub d →
      s.obj? idx sub = some o → o.len = some d.length → d.length ≤ segMax r.ep r.sid → numSetting? (idx * 256 + sub) = some e →
      d.length = typeLen e.type → (idx = 0xB010 → s.fixedVdd = false) → e.lo ≤ leNat d → leNat d ≤ e.hi →
      s.numOk (idx * 256 + sub) (leNat d) = true → e.kept = true →
      ∃ t, exec (.write r idx sub d) s = .next t ∧ t.dict.settings = putSetting (idx * 256 + sub) d s.dict.settings ∧
        (∃ q, t.keep.pending = s.keep.pending ++ [q] ∧ q.key = idx * 256 + sub ∧ q.answer = some s.dict.answerNo ∧ q.cls = 2) ∧
        t.tx = s.tx ∧ changesOnly [.dict, .keep] s t) ∧
  (∀ (s : State) (r : Req) (x : Session) (idx sub : Nat) (d : Bytes) (e : NumSet), s.admitsSegment r x idx sub →
      s.begins r idx sub → numSetting? (idx * 256 + sub) = some e →
      d.length = typeLen e.type → (idx = 0xB010 → s.fixedVdd = false) → e.lo ≤ leNat d → leNat d ≤ e.hi →
      s.numOk (idx * 256 + sub) (leNat d) = true → e.kept = false →
      ∃ u, exec (.segWrite r idx sub 0 d true) s = .next (s.sent r x idx sub 0 0 [] u) ∧ u.dict.settings = putSetting (idx * 256 + sub) d s.dict.settings ∧ changesOnly [.dict] s u)

/-- The first segment of SESSION_HELLO from an endpoint that is not locked begins a handshake; the LAST one of 1,249 bytes that name a slot with a key completes HELLO. SESSION_CHALLENGE then forms CHALLENGE, once the entropy source has passed its tests (R433), with the lowest free identifier. The LAST segment of SESSION_PROVE with 3,373 bytes and both signatures good opens the session under the key of R401; with a bad signature it opens none, is answered AUTH and writes record 0x4E. Which status a failed PROVE takes is log 54. -/
def Obligations.HandshakesOpenSessions : Prop :=
  (∀ (s : State) (r : Req) (data : Bytes) (idle : Bool), s.admitsPlain r 4 0x9020 1 → s.begins r 0x9020 1 → s.helloDenied r.ep idle = none → data.length ≤ 1024 →
      ∃ u, exec (.sessionHello r 0 data false idle) s = .next (s.sentPlain r 0x9020 1 0 0 [] u) ∧ u.dict.handshake = some ⟨r.ep, [], false, 0, 0, [], [], []⟩ ∧
        u.dict.sessions = s.dict.sessions ∧ changesOnly [.dict] s u) ∧
  (∀ (s : State) (r : Req) (data : Bytes) (y : Transfer) (offset : Nat) (idle : Bool), s.admitsPlain r 4 0x9020 1 →
      s.follows r 0x9020 1 offset y →
      (y.data ++ data).length = 1249 → num (y.data ++ data) 0 1 < 8 → s.slotRole (num (y.data ++ data) 0 1) ≠ 0 →
      ∃ u, exec (.sessionHello r offset data true idle) s = .next (s.sentPlain r 0x9020 1 offset 0 [] u) ∧
        u.dict.handshake = some ⟨r.ep, y.data ++ data, true, num (y.data ++ data) 0 1, 0, [], [], []⟩ ∧
        u.dict.sessions = s.dict.sessions ∧ changesOnly [.dict] s u) ∧
  (∀ (s : State) (nonce seed : Bytes) (h : Handshake), s.dict.handshake = some h → h.helloDone = true → h.challenge = [] →
      s.dictAnswers = true → s.dev.entropyBad = false →
      ∃ t, exec (.sessionChallenge nonce seed) s = .next t ∧
        t.dict.challenge.take 33 = leBytes 1 s.freeSid ++ padTo 32 (nonce.take 32) ∧
        t.dict.handshake = some { h with sid := s.freeSid, challenge := t.dict.challenge, seed := seed } ∧
        t.dict.sessions = s.dict.sessions ∧ changesOnly [.dict] s t) ∧
  (∀ (s : State) (r : Req) (data : Bytes) (y : Transfer) (offset : Nat) (h : Handshake), s.admitsPlain r 4 0x9020 3 →
      s.follows r 0x9020 3 offset y →
      (y.data ++ data).length = 3373 → s.dict.handshake = some h → h.ep = r.ep → h.challenge ≠ [] → s.slotRole h.slot ≠ 0 →
      ∃ u, exec (.sessionProve r offset data true true true) s = .next (s.sentPlain r 0x9020 3 offset 0 [] u) ∧
        u.dict.sessions = s.dict.sessions ++
          [⟨h.sid, h.slot, s.slotRole h.slot == 2, sessionK h.seed h.hello h.challenge, 0, false, [], r.ep⟩] ∧
        u.dict.handshake = none ∧ changesOnly [.dict] s u) ∧
  (∀ (s : State) (r : Req) (data : Bytes) (y : Transfer) (offset : Nat) (h : Handshake) (edOk mlOk : Bool), s.admitsPlain r 4 0x9020 3 →
      s.follows r 0x9020 3 offset y →
      (y.data ++ data).length = 3373 → s.dict.handshake = some h → h.ep = r.ep → h.challenge ≠ [] → (edOk && mlOk) = false →
      tget0 0 s.dict.fails r.ep < 4 →
      ∃ u, exec (.sessionProve r offset data true edOk mlOk) s = .next (s.sentPlain r 0x9020 3 offset 0xD [] u) ∧ u.dict.sessions = s.dict.sessions ∧ u.dict.handshake = none ∧
        wroteRecord 0x4E s u ∧ changesOnly answerParts s u)

/-- A SESSION_CLOSE that names its own session, and a SESSION_IDLE_TIMEOUT, end exactly that session and its transfers. A LOCK_EXPIRY unlocks its endpoint and forgets its failures. A TRANSFER_TIMEOUT ends the transfer without effect (R397). A BAD_PDU_DISCARD counts a bad PDU of an endpoint that is open and answers nothing. Who may close a session is log 47, which failures count log 48. -/
def Obligations.SessionsAndTransfersEnd : Prop :=
  (∀ (s : State) (r : Req) (x : Session), s.writes r x 0x9020 4 [BitVec.ofNat 8 r.sid] →
      ∃ u, exec (.sessionClose r r.sid) s = .next (s.sent r x 0x9020 4 0 0 [] u) ∧ u.session? r.sid = none ∧
        changesOnly [.dict] s u) ∧
  (∀ (s : State) (sid : Nat), ∃ t, exec (.sessionIdleTimeout sid) s = .next t ∧ t.session? sid = none ∧
      (∀ m, m ≠ sid → t.session? m = s.session? m) ∧ t.dict.settings = s.dict.settings ∧ changesOnly [.dict] s t) ∧
  (∀ (s : State) (ep : Nat), ep < 4 → ∃ t, exec (.lockExpiry ep) s = .next t ∧ t.dict.locked.contains ep = false ∧
      (∀ m, m ≠ ep → t.dict.locked.contains m = s.dict.locked.contains m) ∧ t.dict.sessions = s.dict.sessions ∧ changesOnly [.dict] s t) ∧
  (∀ (s : State) (ep sid idx sub : Nat), ep < 4 → ∃ t, exec (.transferTimeout ep sid idx sub) s = .next t ∧
      (∀ y, y ∈ t.dict.transfers → ¬ (y.ep = ep ∧ y.sid = sid ∧ y.idx = idx ∧ y.sub = sub)) ∧ t.dict.settings = s.dict.settings ∧
      t.dict.sessions = s.dict.sessions ∧ changesOnly [.capo, .dict, .keep, .walk] s t) ∧
  (∀ (s : State) (ep length len sid vlan : Nat), ep < 4 → s.dictAnswers = true → s.endpointOpen ep = true →
      s.badPdu ep length len sid vlan = true →
      ∃ t, exec (.badPduDiscard ep length len sid vlan) s = .next t ∧
        t.obs = { s.obs with proto := tmod0 {} (ep * 3) (Ctr.add 1) s.obs.proto } ∧ changesOnly [.obs] s t)

/-! ### The capo -/

/-- CAPO_ARM of a staged image outside a group, with no condition of R197 failed, arms the switch: state ARMED with B* of 2200.01, and every active core's capo registers name the free side from B* on. CAPO_WITHDRAW of an armed switch makes it STAGED, with outcome 2 and no B*. CAPO_DISCARD of a staged image, with no mirror asked for, makes the capo IDLE and gives the staged image up. An ARM_COMPLETE marks the arm complete and every active core acknowledged. Each command is answered OK. A SIDE_FENCE of a committed switch whose old side has ended puts every active core on the new side, fenced, IDLE where it has a tab there and UNLOADED where it has none (R133). An OLD_SIDE_RELEASE of a releasing switch whose old batches are judged and ended makes the capo IDLE and lets the capo registers of every active core rest on the selected side (R202). When 2200.05 shows a commit is log 78. -/
def Obligations.CapoCommandsSwitchSides : Prop :=
  (∀ (s : State) (r : Req) (x : Session), s.writes r x 0x2200 2 [1#8] → s.tablesOk = true → s.inGroup = false → s.noProgramme = false →
      s.armFault (s.setting 0x2200 1 0) = none →
      ∃ u, exec (.capoArm r) s = .next (s.sent r x 0x2200 2 0 0 [] u) ∧
        u.capo = { s.capo with state := .armed, bstar := s.setting 0x2200 1 0, armDone := false, refresh := false } ∧
        (∀ c, c ∈ s.activeCores → (u.core c).sideNew = s.freeSide ∧ (u.core c).bstar = s.setting 0x2200 1 0 ∧ (u.core c).acked = false) ∧ changesOnly [.dict, .capo, .cores, .flash] s u) ∧
  (∀ (s : State) (r : Req) (x : Session), s.writes r x 0x2200 2 [2#8] → s.notLeader = false → s.capo.state = .armed →
      s.armOf 0 = none →
      ∃ u, exec (.capoWithdraw r) s = .next (s.sent r x 0x2200 2 0 0 [] u) ∧ u.capo.state = .staged ∧
        u.capo.bstar = ord48 ∧ u.capo.outcome = 2 ∧ u.capo.staged = s.capo.staged ∧
        changesOnly [.dict, .capo, .cores, .flash] s u) ∧
  (∀ (s : State) (r : Req) (x : Session), s.writes r x 0x2200 2 [3#8] → s.notLeader = false → s.capo.state = .staged →
      s.setting 0x2230 4 1 = 0 →
      ∃ u, exec (.capoDiscard r) s = .next (s.sent r x 0x2200 2 0 0 [] u) ∧ u.capo.state = .idle ∧ u.capo.staged = none ∧ u.capo.selected = s.capo.selected ∧
        u.capo.side = s.capo.side ∧ changesOnly [.dict, .capo, .planes] s u) ∧
  (∀ s : State, s.tablesOk = true → s.frozen = false → s.capo.state = .armed →
      ∃ t, exec .armComplete s = .next t ∧ t.capo = { s.capo with armDone := true } ∧
        (∀ c, c ∈ s.activeCores → (t.core c).acked = true) ∧ changesOnly [.capo, .cores] s t) ∧
  (∀ (s : State) (o : Nat), s.tablesOk = true → s.inGroup = false → s.frozen = false → s.capo.state = .committed → s.oldSideEnded = true →
      s.dev.bOpen = some o → s.capo.bstar ≤ o + 1 →
      ∃ t, exec .sideFence s = .next t ∧
        (∀ c, c ∈ s.activeCores → (t.core c).side = s.freeSide ∧ (t.core c).fenced = true ∧ (t.core c).refetch = false ∧
          (t.core c).seq = if (s.tab? c s.freeSide).isSome = true then .idle else .unloaded) ∧
        (∀ c, c ∉ s.activeCores → t.core c = s.core c) ∧ t.capo = s.capo ∧ changesOnly [.cores, .mem] s t) ∧
  (∀ s : State, s.tablesOk = true → s.frozen = false → s.capo.state = .releasing → (∀ x, x ∈ s.walk.tiles → s.capo.bstar ≤ x.ordinal) →
      (∀ r, r ∈ s.walk.runs → s.capo.bstar ≤ r.ordinal ∨ (r.status.isSome = true ∧ r.final = true)) →
      (∀ k x, k ∈ s.walkers s.capo.bstar → s.batch? s.capo.bstar = some x → k ∈ x.ended) → s.setting 0x2230 4 1 = 0 →
      ∃ t, exec .oldSideRelease s = .next t ∧ t.capo.state = .idle ∧ t.capo.staged = none ∧ t.capo.side = s.capo.side ∧
        t.capo.selected = s.capo.selected ∧
        (∀ c, c ∈ s.activeCores → (t.core c).sideOld = s.capo.side ∧ (t.core c).sideNew = s.capo.side ∧ (t.core c).bstar = ord48) ∧
        changesOnly [.capo, .cores, .planes] s t)

/-- A segment of MANIFEST_DELIVERY that is not the last is added to the manifest's bytes. The last one of a manifest that R182 accepts begins staging: its entries, none verified, are the staged image, and what was delivered before is none of it (log 95). One that R182 rejects is answered REFUSED with reason 0x07 and record 0x13, and the staged image stays. A first segment of IMAGE_DATA_DELIVERY puts its bytes from the ninth on at the image offset that its first 8 bytes give. -/
def Obligations.DeliveriesStageAnImage : Prop :=
  (∀ (s : State) (r : Req) (x : Session) (data : Bytes) (ed ml : Bool), s.admitsSegment r x 0x2210 1 → s.begins r 0x2210 1 →
      s.capo.state ≠ .armed → s.capo.state ≠ .committed → s.capo.state ≠ .releasing → data.length ≤ 1024 →
      ∃ u, exec (.manifestDelivery r 0 data false ed ml) s = .next (s.sent r x 0x2210 1 0 0 [] u) ∧ u.capo = { s.capo with manifestBuf := data } ∧ changesOnly [.dict, .capo] s u) ∧
  (∀ (s : State) (r : Req) (x : Session) (y : Transfer) (offset : Nat) (data : Bytes) (ed ml : Bool), s.admitsSegment r x 0x2210 1 →
      s.follows r 0x2210 1 offset y → s.capo.state ≠ .armed → s.capo.state ≠ .committed → s.capo.state ≠ .releasing →
      let b := s.capo.manifestBuf.take offset ++ data
      s.manifestFault b ed ml = none →
      ∃ u, exec (.manifestDelivery r offset data true ed ml) s = .next (s.sent r x 0x2210 1 offset 0 [] u) ∧ u.capo.state = .staging ∧
        (u.capo.staged.map fun i => { i with entries := i.entries.map Entry.fresh }) =
          some { parseManifest b with entries := (parseManifest b).entries.map Entry.fresh } ∧
        (∀ i e, u.capo.staged = some i → e ∈ i.entries → e.verified = false ∧ e.source = none ∧ e.tried = []) ∧
        u.capo.delivery = [] ∧ u.capo.arrived = [] ∧ u.capo.selected = s.capo.selected ∧ u.capo.side = s.capo.side ∧
        changesOnly ([.dict, .capo, .group, .mem, .planes] ++ recordParts) s u) ∧
  (∀ (s : State) (r : Req) (x : Session) (y : Transfer) (offset reason : Nat) (data : Bytes) (ed ml : Bool), s.admitsSegment r x 0x2210 1 →
      s.follows r 0x2210 1 offset y → s.capo.state ≠ .armed → s.capo.state ≠ .committed → s.capo.state ≠ .releasing →
      s.manifestFault (s.capo.manifestBuf.take offset ++ data) ed ml = some reason →
      ∃ u, exec (.manifestDelivery r offset data true ed ml) s = .next (s.sent r x 0x2210 1 offset 8 [7#8, 0#8] u) ∧ u.capo = { s.capo with manifestBuf := [], rejected := true } ∧
        wroteRecord 0x13 s u ∧ changesOnly (.capo :: answerParts) s u) ∧
  (∀ (s : State) (r : Req) (x : Session) (data : Bytes), s.admitsSegment r x 0x2210 2 → s.begins r 0x2210 2 → 8 < data.length →
      ∃ u, exec (.imageDataDelivery r 0 data false) s = .next (s.sent r x 0x2210 2 0 0 [] u) ∧
        u.capo.delivery = mwrite (fun _ => 0#8) (leNat (data.take 8)) (data.drop 8) s.capo.delivery ∧
        u.capo.arrived = addRange s.capo.arrived (leNat (data.take 8)) (data.length - 8) ∧ u.capo.state = s.capo.state ∧ changesOnly [.dict, .capo] s u)

/-- An OBJECT_RECEIVED in time from the source that is asked, with the length and digest of its entry, verifies a slower-tier segment while a tab or counter table is still missing, and stores it in both copies of its lines in the free side's region and nowhere else (R187, R120). One that lost to its timeout is counted and has its source tried, with record 0x13 (R188). An OBJECT_FETCH_TIMEOUT marks the source as tried, with record 0x13. A SOURCE_RETRY after a first round without success begins the second round with no source tried; an object that no source can supply stops its staging with record 0x13 (R188). Source codes are log 25. -/
def Obligations.ObjectsOfAnImageAreFetched : Prop :=
  (∀ (s : State) (n m source : Nat) (obj : Bytes) (i : Image) (e f : Entry), s.memOk = true → s.entry? n = some (i, e) →
      s.capo.state = .staging → e.verified = false → e.source = none → s.sourceNow i e = some source → source ≠ 0 → objectFault i e obj = none →
      e.kind = 2 → m ≠ n → i.entries[m]? = some f → f.verified = false → f.kind ≠ 1 → f.kind ≠ 2 →
      e.target * 64 + (obj.length + 63) / 64 * 64 ≤ 2 ^ 35 → obj ≠ [] →
      ∃ t, exec (.objectReceived n source obj false) s = .next t ∧ (t.entry? n).map (·.2) = some { e with verified := true, asked := none } ∧
        t.object? s.freeSide n = some obj ∧ t.load (.slow s.freeSide) (e.target * 64) obj.length = obj ∧
        t.mem.slowBad = s.mem.slowBad.filter (fun x => x.1 != objKey s.freeSide n) ∧
        storesOnly (.slow s.freeSide) (e.target * 64) (e.target * 64 + (obj.length + 63) / 64 * 64) s t ∧ t.capo.state = .staging ∧
        changesOnly [.capo, .group, .mem, .obs, .tx] s t) ∧
  (∀ (s : State) (n source : Nat) (obj : Bytes) (i : Image) (e : Entry), s.entry? n = some (i, e) → s.capo.state = .staging →
      e.verified = false → e.source = none → s.sourceNow i e = some source →
      ∃ t, exec (.objectReceived n source obj true) s = .next t ∧ t.capo.late = s.capo.late + 1 ∧
        (t.entry? n).map (fun z => (z.2.tried, z.2.verified)) = some (insertNew source e.tried, false) ∧ wroteRecord 0x13 s t ∧
        changesOnly ([.capo, .group] ++ recordParts) s t) ∧
  (∀ (s : State) (n k : Nat) (i : Image) (e : Entry), s.entry? n = some (i, e) → s.capo.state = .staging → e.verified = false →
      e.source = none → s.sourceNow i e = some k →
      ∃ t, exec (.objectFetchTimeout n) s = .next t ∧ (t.entry? n).map (fun z => z.2.tried) = some (insertNew k e.tried) ∧
        wroteRecord 0x13 s t ∧ changesOnly ([.capo, .group] ++ recordParts) s t) ∧
  (∀ (s : State) (n : Nat) (i : Image) (e : Entry), s.entry? n = some (i, e) → s.capo.state = .staging → e.verified = false →
      e.source = none → e.round = 0 → s.sourceNow i e = none →
      ∃ t, exec (.sourceRetry n) s = .next t ∧ (t.entry? n).map (·.2) = some { e with tried := [], round := 1, asked := (s.sourcesOf i e).head? } ∧
        (s.sourcesOf i e = [] → wroteRecord 0x13 s t) ∧ (s.sourcesOf i e ≠ [] → t.faults = s.faults) ∧
        changesOnly ([.capo, .group] ++ recordParts) s t)

/-- A PROGRAM_LOOP_START of a plane that is being written and whose shard is here, unselected or of the substitution class, while the VPP_W rail carries the loop's declared current (R193), runs it; while the rail cannot, the loop waits; while a tuning pass runs on the site, an admitted loop keeps its admission and cannot complete (09 R251, log 89). A PROGRAM_LOOP_COMPLETE with no failing cell ends the row (R191). A SEAL_READBACK_DONE with the planned digest seals the plane under its shard, whose bitmap and scale table then stand in its cells and its scale bank (R194, R87). A PLANE_SCAN_DONE with the right scan sum and a count below both thresholds notes both, and the site leaves the scan slot (R207). The order of waiting loops is log 69, a loop that a pass holds log 89. -/
def Obligations.PlanesAreWrittenAndScanned : Prop :=
  (∀ (s : State) (site side row cells : Nat), site < 1280 → side < 2 → s.siteActive site = true → s.tablesOk = true → s.frozen = false →
      let pl := 2 * site + side
      let p := s.plane pl
      1 ≤ p.cls → p.cls ≤ 4 → p.running = 0 → p.awaits = false → (p.cls = 1 ∨ s.planeSelected site side = false) →
      (s.site site).state ≠ .retired → (s.site site).passing = none → s.capo.vppQueue = [] → 0 < cells → (p.loops = 0 ∨ p.row = row) → s.capo.vppBad = false →
      s.dev.pfailLow = false → s.vppLoad + loopCurrent cells ≤ 3000 →
      ∃ t, exec (.programLoopStart site side row cells) s = .next t ∧ t.plane pl = { p with row := row, running := loopCurrent cells } ∧
        (∀ m, m ≠ pl → t.plane m = s.plane m) ∧ t.capo = s.capo ∧ changesOnly [.capo, .planes] s t) ∧
  (∀ (s : State) (site side row cells : Nat), site < 1280 → side < 2 → s.siteActive site = true → s.tablesOk = true → s.frozen = false →
      let pl := 2 * site + side
      let p := s.plane pl
      p.cls ≠ 0 → p.running = 0 → p.awaits = false → (p.cls = 1 ∨ s.planeSelected site side = false) →
      (s.site site).state ≠ .retired → s.capo.vppQueue = [] → 0 < cells → (p.loops = 0 ∨ p.row = row) → 3000 < s.vppLoad + loopCurrent cells →
      ∃ t, exec (.programLoopStart site side row cells) s = .next t ∧ t.plane pl = { p with row := row } ∧
        t.capo = { s.capo with vppQueue := [(pl, loopCurrent cells)] } ∧ changesOnly [.capo, .planes] s t) ∧
  (∀ (s : State) (site side row : Nat), site < 1280 → side < 2 → s.siteActive site = true → s.tablesOk = true → s.frozen = false →
      let pl := 2 * site + side
      let p := s.plane pl
      p.running ≠ 0 → p.row = row → s.loopHeld pl = false → p.voided = false → p.dropped = none → s.capo.vppQueue = [] →
      ∃ t, exec (.programLoopComplete site side row 0) s = .next t ∧ (t.plane pl).running = 0 ∧ (t.plane pl).loops = 0 ∧
        (t.plane pl).pulsed = true ∧ (t.plane pl).writes = p.writes ∧ changesOnly [.obs, .planes] s t) ∧
  (∀ (s : State) (site side : Nat) (o : Bytes), site < 1280 → side < 2 → s.siteActive site = true → s.tablesOk = true → s.memOk = true → s.frozen = false →
      let pl := 2 * site + side
      let p := s.plane pl
      p.cls ≠ 0 → p.running = 0 → p.loops = 0 → (∀ w, w ∈ s.capo.vppQueue → w.1 ≠ pl) → p.want ≠ [] → p.awaits = false →
      s.keyShard side p.wantKey p.want = some o → (s.site site).state ≠ .retired → (s.site site).state ≠ .copying → s.capo.state ≠ .staging →
      ∃ t, exec (.sealReadbackDone site side p.want) s = .next t ∧ (t.plane pl).isSealed = true ∧ (t.plane pl).shard = p.want ∧
        (t.plane pl).cls = 0 ∧ mread planeDefault t.mem.planes (pl * 2 ^ 17) 69632 = slice o 0x80 69632 ∧
        mread scaleDefault t.mem.scales (pl * 4096) 4096 = shardScales o ∧
        (∀ (a : Area) (y n : Nat), t.load a y n = s.load a y n) ∧ changesOnly ([.mem, .planes] ++ recordParts) s t) ∧
  (∀ (s : State) (site side n : Nat) (d : Drone), site < 1280 → side < 2 → s.tablesOk = true → s.frozen = false →
      let pl := 2 * site + side
      let p := s.plane pl
      let b := (s.core (site / 5)).cur.getD (s.dev.bOpen.getD 0)
      let good := if p.shard = [] then dronePlaneDigest else p.shard
      (s.core (site / 5)).droneLive = some d → d.kind = 2 → bit d.sites (site % 5) = true → s.scanSide site = side →
      min n 65535 < s.setting 0x2230 1 64 → min n 65535 < s.setting 0x2230 2 1024 →
      ∃ t, exec (.planeScanDone site side good n) s = .next t ∧ (t.plane pl).scanSum = good ∧ (t.plane pl).scanAt = some b ∧
        (t.plane pl).matchAt = some b ∧ (t.plane pl).lastMargin = min n 65535 ∧ (t.plane pl).overScans = 0 ∧
        (∀ x, (t.core (site / 5)).droneLive = some x → bit x.sites (site % 5) = false) ∧
        changesOnly [.cores, .keep, .obs, .planes, .walk] s t) ∧
  (∀ (s : State) (site side row cells : Nat) (q : Passing), site < 1280 → side < 2 → s.siteActive site = true → s.tablesOk = true → s.frozen = false →
      let pl := 2 * site + side
      let p := s.plane pl
      1 ≤ p.cls → p.cls ≤ 4 → p.running = 0 → p.awaits = false → (p.cls = 1 ∨ s.planeSelected site side = false) →
      (s.site site).state ≠ .retired → (s.site site).passing = some q → s.capo.vppQueue = [] → 0 < cells → (p.loops = 0 ∨ p.row = row) →
      s.capo.vppBad = false → s.dev.pfailLow = false → s.vppLoad + loopCurrent cells ≤ 3000 →
      ∃ t, exec (.programLoopStart site side row cells) s = .next t ∧ t.plane pl = { p with row := row, running := loopCurrent cells } ∧
        t.loopHeld pl = true ∧ (∀ failing, exec (.programLoopComplete site side row failing) t = .next t) ∧
        t.capo = s.capo ∧ changesOnly [.capo, .planes, .sites] s t)

/-- A TUNING_PASS_COMPLETE whose results R253 accepts ends the pass with its candidates as targets, in force at once for an emergency, substitution or SELFTEST pass (R259), no cause pending, and an entry at the head of the pass log (R267). The first rejected pass of a tuning window, with the reference readback good, leaves pegs and targets as they were and makes a retry pending (R255). A TUNING_SET_PERIOD_END with an open tuning set closes it and asks the keep store for its record, and changes nothing without one. Which cause a window records is log 79. -/
def Obligations.TuningPassesEnd : Prop :=
  (∀ (s : State) (site : Nat) (res : PassResult) (p : Passing), site < 1280 → s.tablesOk = true → s.frozen = false →
      s.dev.state ≠ .selftest → (s.site site).passing = some p → passAccepts res = true →
      let c := passCandidates res
      ∃ t, exec (.tuningPassComplete site res) s = .next t ∧ (t.site site).passing = none ∧ (t.site site).pending = [] ∧
        (t.site site).targets = c ∧ (p.atOnce = true → (t.site site).off = c.off ∧ (t.site site).gain = c.gain ∧ (t.site site).drive = c.drive) ∧
        (t.site site).tref = p.temp ∧ (∀ m, m ≠ site → t.site m = s.site m) ∧
        (∃ q l, t.passLog = q :: l ∧ q.site = site ∧ q.ordinal = p.start ∧ q.passed = true) ∧ t.mem = s.mem ∧
        changesOnly [.cores, .keep, .obs, .passLog, .sites, .walk] s t) ∧
  (∀ (s : State) (site : Nat) (res : PassResult) (p : Passing), site < 1280 → s.tablesOk = true → s.frozen = false →
      s.dev.state ≠ .selftest → (s.site site).passing = some p → passAccepts res = false → refFailsOf res = [] → p.retry = false →
      (s.site site).retryLost = false → p.atOnce = false →
      ∃ t, exec (.tuningPassComplete site res) s = .next t ∧
        t.site site = { s.site site with
          outcome := 2, refFails := [], passing := none
          pending := if .retry ∈ (s.site site).pending then (s.site site).pending else (s.site site).pending ++ [.retry] } ∧
        (∀ m, m ≠ site → t.site m = s.site m) ∧
        (∃ q l, t.passLog = q :: l ∧ q.site = site ∧ q.ordinal = p.start ∧ q.passed = false) ∧
        changesOnly [.cores, .obs, .passLog, .sites, .walk] s t) ∧
  (∀ s : State, s.keep.setBuf ≠ [] →
      ∃ t q, exec .tuningSetPeriodEnd s = .next t ∧ t.keep = { s.keep with setBuf := [], pending := s.keep.pending ++ [q] } ∧ q.type = 0x11 ∧
        changesOnly [.keep] s t) ∧
  (∀ s : State, s.keep.setBuf = [] → exec .tuningSetPeriodEnd s = .next s)

/-! ### The scene -/

/-- An EGO_MOTION_MESSAGE on the selected carrier (R336), with a tag that verifies where 3200.05 asks for one (R338), that passes R337 is held, and decides the batch that waits for one: the batch then has ego-motion and no message is held (R339). An EGO_MOTION_WINDOW_END decides it without. A WARP_START begins the warp of the oldest batch not warped; after a switch to another programme the grid holds the entering value everywhere. A WARP_COMPLETE without bad or poisoned cells puts the grid of R341 in force and the batch is warped; here no SCENE step waits for it. Ego messages of the other carriage are log 64. -/
def Obligations.EgoMotionAndWarp : Prop :=
  (∀ (s : State) (on : EgoVia) (data : Bytes) (secured late : Bool), s.dev.state ≠ .boot → s.walk.replay = false → s.egoCarrier on = true →
      (on.can = false → s.macDrops on.unit secured = false) → (leNat (s.pubCfg 0x3200 5 [1#8]) = 1 → s.egoTagOk data = true) →
      data.length = 32 → num data 0 2 = 0x4B45 →
      (∀ q, s.scene.egoSeq = some q → q < num data 8 8) → (sext 16 (num data 4 2)).natAbs ≤ 64 → (sext 16 (num data 6 2)).natAbs ≤ 64 →
      (sext 16 (num data 2 2)).natAbs ≤ 1280 → late = false →
      let m : EgoMsg := { seq := num data 8 8, dyaw := sext 16 (num data 2 2), dx := sext 16 (num data 4 2), dy := sext 16 (num data 6 2)
                          digest := digest32 data }
      ∃ t, exec (.egoMotionMessage on data secured late) s = .next t ∧ t.scene.egoSeq = some m.seq ∧ t.scene.grid = s.scene.grid ∧
        (s.egoOpen = none → t.scene.held = s.scene.held ++ [m] ∧ t.walk = s.walk) ∧
        (∀ x, s.egoOpen = some x → t.scene.held = [] ∧ (t.batch? x.ordinal).map (·.ego) = some (some true) ∧
          (t.batch? x.ordinal).map (·.motion) = some (egoSum (s.scene.held ++ [m]))) ∧
        changesOnly ([.cores, .dev, .scene, .walk] ++ recordParts) s t) ∧
  (∀ (s : State) (x : Batch), s.egoOpen = some x → x.replayed = false →
      ∃ t, exec .egoMotionWindowEnd s = .next t ∧ (t.batch? x.ordinal).map (·.ego) = some (some false) ∧ t.scene.held = s.scene.held ∧
        t.scene.grid = s.scene.grid ∧ changesOnly ([.cores, .dev, .scene, .walk] ++ recordParts) s t) ∧
  (∀ (s : State) (x : Batch), s.frozen = false → s.warpNext = some x → s.scene.exports = [] →
      ∃ t, exec .warpStart s = .next t ∧ (t.batch? x.ordinal).map (·.warping) = some true ∧
        (x.fresh = true → (∀ c, t.context c = enteringCtx false false) ∧ t.poisonedCells = []) ∧
        (x.fresh = false → t.scene = s.scene ∧ t.mem = s.mem) ∧ changesOnly [.mem, .scene, .walk] s t) ∧
  (∀ (s : State) (x : Batch), (s.walk.batches.find? fun y => y.warping) = some x → s.poisonedCells = [] →
      (∀ c, c ∈ s.activeCores → (s.core c).scenes = []) →
      ∃ t, exec (.warpComplete []) s = .next t ∧ t.scene.grid = s.warpGrid x.motion (x.ego != some true) [] ∧
        t.scene.noEgoAll = (x.ego != some true) ∧ t.scene.warped = some x.ordinal ∧ (t.batch? x.ordinal).map (·.warped) = some true ∧
        changesOnly [.cores, .dev, .mem, .obs, .scene, .walk] s t)

/-- A SCENE_UPDATE_APPLY of the oldest batch that has ended, with one update of a live run, changes the context of its cell as R344 says and no other, and empties the batch's update buffer. A SCENE_EXPORT outside SAFE, with no result and no ledger due before it, sends the oldest export that is due, and the later ones stay due (R346). -/
def Obligations.SceneUpdatesAndExport : Prop :=
  (∀ (s : State) (x : Batch) (u : Update) (r : RunRec), s.frozen = false → s.applyNext = some x → x.updates = [u] →
      s.run? x.ordinal u.run = some r → r.cause = 0 → s.tablesOk = true →
      ∃ t, exec .sceneUpdateApply s = .next t ∧ t.context u.cell = applyUpdate x.ordinal u.record (s.context u.cell) ∧
        (∀ c, c ≠ u.cell → t.context c = s.context c) ∧ (t.batch? x.ordinal).map (fun y => (y.applied, y.updates)) = some (true, []) ∧
        changesOnly [.scene, .walk] s t) ∧
  (∀ (s : State) (b : Nat) (doc : Bytes) (rest : List (Nat × Bytes)), s.scene.exports = (b, doc) :: rest → s.dev.state ≠ .safe →
      s.frozen = false → s.sendsFirst = false →
      ∃ t, exec .sceneExport s = .next t ∧ t.scene = { s.scene with exports := rest } ∧
        changesOnly ([.pub, .scene, .walk] ++ recordParts) s t)

/-! ### Changes of intake and policy, replay -/

/-- INTAKE_ARM and POLICY_ARM outside a group, of a change that is not busy and fails no condition of R281 or R324, arm it with the staged settings and B* of its target object. INTAKE_WITHDRAW and POLICY_WITHDRAW of an armed change make it WITHDRAWN. Each is answered OK, and the settings in force stay. A refused arm reads REFUSED (log 65). -/
def Obligations.ChangesAreArmedAndWithdrawn : Prop :=
  (∀ (s : State) (r : Req) (x : Session), s.writes r x 0x3000 0xA [1#8] → s.inGroup = false → s.changeBusy .intake = false →
      s.changeFault .intake (s.setting 0x3000 9 0) = none →
      ∃ u, exec (.intakeArm r) s = .next (s.sent r x 0x3000 0xA 0 0 [] u) ∧
        u.walk = { s.walk with intake := { state := 1, bstar := s.setting 0x3000 9 0, staged := s.stagedFor .intake } } ∧ changesOnly [.dict, .walk] s u) ∧
  (∀ (s : State) (r : Req) (x : Session), s.writes r x 0x5000 8 [1#8] → s.inGroup = false → s.changeBusy .policy = false →
      s.changeFault .policy (s.setting 0x5000 7 0) = none →
      ∃ u, exec (.policyArm r) s = .next (s.sent r x 0x5000 8 0 0 [] u) ∧
        u.walk = { s.walk with policy := { state := 1, bstar := s.setting 0x5000 7 0, staged := s.stagedFor .policy } } ∧ changesOnly [.dict, .walk] s u) ∧
  (∀ (s : State) (r : Req) (x : Session), s.writes r x 0x3000 0xA [2#8] → s.notLeader = false → s.walk.intake.state = 1 →
      s.armOf 2 = none →
      ∃ u, exec (.intakeWithdraw r) s = .next (s.sent r x 0x3000 0xA 0 0 [] u) ∧ u.walk = { s.walk with intake := { s.walk.intake with state := 3 } } ∧ changesOnly [.dict, .walk] s u) ∧
  (∀ (s : State) (r : Req) (x : Session), s.writes r x 0x5000 8 [2#8] → s.notLeader = false → s.walk.policy.state = 1 →
      s.armOf 1 = none →
      ∃ u, exec (.policyWithdraw r) s = .next (s.sent r x 0x5000 8 0 0 [] u) ∧ u.walk = { s.walk with policy := { s.walk.policy with state := 3 } } ∧ changesOnly [.dict, .walk] s u)

/-- REPLAY_MODE_ENTER in READY with the grade and the selected image named enters replay mode with the recorded boot count and no set, frame or window left, and with no ordinal or sequence number of the live batches in the way; REPLAY_MODE_LEAVE leaves it, and live ordinals go on above both (R239, log 32). A REPLAY_BATCH_DESCRIPTOR in replay mode, of the recorded boot and above the last ordinal, waits for its inputs with one set and a free buffer (R240). A REPLAY_INPUT_DATA of a frame that the descriptor does not call absent stores it as intake would, in the set's buffer and nowhere else. Each is answered OK. The layout of replay inputs is log 32. -/
def Obligations.ReplayCommandsFeedBatches : Prop :=
  (∀ (s : State) (r : Req) (x : Session) (d : Bytes) (i : Image), s.writes r x 0x2040 1 d → d.length = 16 → num d 0 1 = 1 → num d 2 2 = 0 →
      s.dev.state = .ready → s.walk.replay = false → s.capo.selected = some i → num d 1 1 = s.gradeCode → num d 4 4 = i.progid →
      num d 8 4 = i.imgseq →
      ∃ u, exec (.replayModeEnter r d) s = .next (s.sent r x 0x2040 1 0 0 [] u) ∧
        u.walk = { s.walk with replay := true, replayBoot := num d 12 4, replayNext := none, replayIn := {}, replayLast := none, sets := []
                               filling := [], window := none, windowSet := none, liveOpen := s.dev.bOpen } ∧
        u.dev = { s.dev with bOpen := none } ∧ u.scene = { s.scene with egoSeq := none, held := [], liveSeq := s.scene.egoSeq } ∧ changesOnly [.dict, .clusters, .cores, .dev, .scene, .walk] s u) ∧
  (∀ (s : State) (r : Req) (x : Session) (d : Bytes), s.writes r x 0x2040 1 d → d.length = 16 → num d 0 1 = 0 → num d 2 2 = 0 →
      s.walk.replay = true →
      ∃ u, exec (.replayModeLeave r d) s = .next (s.sent r x 0x2040 1 0 0 [] u) ∧
        u.walk = { s.walk with replay := false, replayNext := none, replayIn := {}, replayLast := none, sets := [], liveOpen := none } ∧
        u.dev = { s.dev with bOpen := later s.dev.bOpen s.walk.liveOpen } ∧ u.scene.held = [] ∧ u.scene.grid = s.scene.grid ∧
        u.scene.egoSeq = later s.scene.egoSeq s.scene.liveSeq ∧
        changesOnly [.dict, .dev, .scene, .walk] s u) ∧
  (∀ (s : State) (r : Req) (x : Session) (d : Bytes), s.writes r x 0x2040 1 d → d.length = 16 → num d 0 1 = 0 → num d 2 2 = 0 →
      s.walk.replay = false →
      ∃ u, exec (.replayModeLeave r d) s = .next (s.sent r x 0x2040 1 0 0 [] u) ∧ changesOnly [.dict] s u) ∧
  (∀ (s : State) (r : Req) (x : Session) (d : Bytes) (k : Nat), s.writes r x 0x2040 2 d → 18 ≤ d.length →
      d.length = 18 + 8 * num d 14 4 → s.walk.replay = true → num d 0 4 = s.walk.replayBoot →
      (∀ l, s.walk.replayLast = some l → l < num d 4 6) → s.walk.replayNext = none → s.freeBuffer = some k →
      ∃ u, exec (.replayBatchDescriptor r d) s = .next (s.sent r x 0x2040 2 0 0 [] u) ∧
        (u.walk.replayNext.map fun y => (y.ordinal, y.absent, y.records.length)) = some (num d 4 6, num d 10 4, num d 14 4) ∧
        u.walk.sets.map (·.buf) = [k] ∧ u.walk.batches = s.walk.batches ∧
        changesOnly [.dict, .walk] s u) ∧
  (∀ (s : State) (r : Req) (x : Session) (d : Bytes) (y : CapSet) (n : ReplayBatch), s.writes r x 0x3050 1 d → s.memOk = true →
      s.walk.replay = true → 8 ≤ d.length → num d 0 1 = 1 → s.walk.replayNext = some n → s.walk.sets = [y] → y.buf < 3 →
      let k := num d 1 1
      let c := cfgStream y.cfg k
      let per := if cfgDt c = 0x1E then 2 * cfgSrcW c else cfgSrcW c
      let lines := (List.range (cfgSrcH c)).map fun l => unpackLine (cfgDt c) (((d.drop 8).drop (l * lineBytes c)).take (lineBytes c)) per
      let b := frameBytes (frameRows c lines)
      k < 32 → 0 < cfgSrcW c → cfgEn c = true → bit n.absent k = false → k ∉ y.taken → (d.drop 8).length = lineBytes c * cfgSrcH c → b.length ≤ 2 ^ 24 →
      ∃ u, exec (.replayInputData r d) s = .next (s.sent r x 0x3050 1 0 0 [] u) ∧ u.load (.frame k y.buf) 0 b.length = b ∧ storesOnly (.frame k y.buf) 0 b.length s u ∧
        u.walk.sets.map (·.taken) = [y.taken ++ [k]] ∧
        (∀ z, z ∈ u.walk.sets → ∃ f, f ∈ z.frames ∧ f.stream = k ∧ f.digest = frameDigest k c (frameRows c lines)) ∧ changesOnly [.dict, .mem, .walk] s u)

/-! ### Publication, ledgers and verdicts -/

/-- PUBLISH_RUN of a run that may be published and that this device publishes. A live run whose verdicts are done is VALID under the digest of its seal block, final, with a leaf of the ledger unless the device or its batch replays (R227, R231); one with verdicts open is HELD, not final and without a leaf (R228); a STALE one repeats the last VALID block with its own status, ordinal and boot count; a dead one is VOID with its cause, final. A RETRACTION_REPEAT of a retraction sent once or twice sends it again and counts it. -/
def Obligations.RunsArePublishedWithTheirSeals : Prop :=
  (∀ (s : State) (o n : Nat) (full : List (Nat × Nat)) (r : RunRec), s.run? o n = some r → s.mayPublish r = true → s.publishes n = true →
      let parts : List Part := [.walk, .pub, .tx, .faults, .keep, .macsec, .cores, .obs, .dev]
      (r.cause = 0 → r.stale = false →
        ∃ t, exec (.publishRun o n full) s = .next t ∧
          t.run? o n = some { r with
            status := some (if s.verdictsDone r = true then .valid else .held), block := s.validBlock r,
            sealBytes := digest32 (s.validBlock r), final := s.verdictsDone r } ∧
          t.pub.leaves = (if s.verdictsDone r = true ∧ s.walk.replay = false ∧ s.isReplayed o = false then
            s.pub.leaves ++ [(o, n, digest32 (s.validBlock r))] else s.pub.leaves) ∧
          t.pub.retracts = s.pub.retracts ∧ changesOnly parts s t) ∧
      (r.cause = 0 → r.stale = true → (o ≠ 0 → ∀ p, s.run? (o - 1) n = some p → p.status ≠ some .void) →
        let block := staleBlock (((s.pub.lastResult.find? fun e => e.1 == n).map (·.2.block)).getD []) (s.sealBoot o) o
        ∃ t, exec (.publishRun o n full) s = .next t ∧
          t.run? o n = some { r with
            status := some .stale, block := block, sealBytes := digest32 block,
            final := if o = 0 then true else ((s.run? (o - 1) n).map (·.final)).getD true } ∧
          t.pub.lastResult = s.pub.lastResult ∧ t.pub.retracts = s.pub.retracts ∧ changesOnly parts s t) ∧
      (r.cause ≠ 0 →
        ∃ t, exec (.publishRun o n full) s = .next t ∧
          t.run? o n = some { r with
            status := some .void, block := s.voidBlock o n r.cause, sealBytes := digest32 (s.voidBlock o n r.cause), final := true } ∧
          t.pub.lastResult = s.pub.lastResult ∧ t.pub.retracts = s.pub.retracts ∧ changesOnly parts s t)) ∧
  (∀ (s : State) (o n : Nat) (r : RunRec), s.run? o n = some r → 1 ≤ r.retracts → r.retracts < 3 → s.frozen = false →
      ∃ t, exec (.retractionRepeat o n) s = .next t ∧ t.run? o n = some { r with retracts := r.retracts + 1 } ∧
        t.pub.retracts = s.pub.retracts ∧ changesOnly ([.walk, .pub] ++ recordParts) s t)

/-- LINK_DOWN of a MAC that is up marks it down, and LINK_UP of one that is down, while the reference clock runs and no VDD_SD rail is in fault, marks it up, each with record 0x28 (R334). EXPORT_RATE_SUMMARY starts a new second of exports with nothing missed, and sums up what was missed in record 0x1C; STORE_ALLOWANCE_REFILL raises the allowance by one up to 32 (R305). LEDGER_PUBLISH of a due ledger forms it over the final seals up to its last ordinal in order, signs it, chains the next one to its signed part, and opens the next range (R230 to R233). Nothing else of the device changes. -/
def Obligations.LinksRatesAndLedgers : Prop :=
  (∀ (s : State) (mac : Nat), mac < 2 → mac ∉ s.pub.macDown →
      ∃ t, exec (.linkDown mac) s = .next t ∧ t.pub = { s.pub with macDown := s.pub.macDown ++ [mac] } ∧ wroteRecord 0x28 s t ∧
        changesOnly (.pub :: recordParts) s t) ∧
  (∀ (s : State) (mac : Nat), mac < 2 → mac ∈ s.pub.macDown → s.serdesOff = false →
      ∃ t, exec (.linkUp mac) s = .next t ∧ t.pub = { s.pub with macDown := s.pub.macDown.filter (· != mac) } ∧ wroteRecord 0x28 s t ∧
        changesOnly (.pub :: recordParts) s t) ∧
  (∀ s : State, ∃ t, exec .exportRateSummary s = .next t ∧ t.faults.missed = [] ∧
      (s.faults.missed = [] → t.faults = { s.faults with exported := 0 }) ∧ (s.faults.missed ≠ [] → wroteRecord 0x1C s t) ∧
      changesOnly (.flash :: recordParts) s t) ∧
  (∀ s : State, ∃ t, exec .storeAllowanceRefill s = .next t ∧
      t.faults = { s.faults with allowance := min (s.faults.allowance + 1) 32 } ∧ changesOnly [.faults] s t) ∧
  (∀ (s : State) (last : Nat) (isPartial : Bool), s.walk.replay = false → 2 ∉ s.dev.pairHalted → s.frozen = false →
      s.ledgerDue = some (last, isPartial) →
      let seals := ((s.pub.leaves.filter fun l => decide (l.1 ≤ last)).mergeSort leafLe).map (·.2.2)
      let root := if seals = [] then zeros 32 else ledgerRoot 14 (seals.map ledgerLeaf)
      let signed := ledgerSigned isPartial s.dev.bootCount (s.pub.ledgerFrom / 1024) s.pub.ledgerFrom last seals.length root
        s.pub.ledgerPrev (keyIdOf s.ledgerSeed)
      ∃ t, exec .ledgerPublish s = .next t ∧ t.pub.ledger = signed ++ signBoth s.ledgerSeed signed ∧ t.pub.ledgerPrev = digest32 signed ∧
        t.pub.ledgerFrom = last + 1 ∧ t.pub.partialDue = false ∧ t.pub.leaves = (s.pub.leaves.filter fun l => decide (last < l.1)) ∧
        changesOnly ([.pub] ++ recordParts) s t)

/-- A DUPLICATE_EXECUTION on a free unit, once no output code of the tile is due, that agrees with a captured tile ends it: no tile is left under its number, and both units have passed a check of its batch (R287, R301). One that differs, or that executes an escalated tile, hands the tile to a third unit while there is one. A THIRD_EXECUTION on a free array that agrees with the primary ends the tile with record 0x02 against the checker; one that agrees with the checker alone ends it with record 0x03 against the primary (R288). UNIT_BACK_TO_OK of a SUSPECT unit, not retired, whose failed checks are 1,024 ordinals old makes it OK with record 0x15 (R293). -/
def Obligations.VerdictsSettleCheckedTiles : Prop :=
  (∀ (s : State) (n margins : Nat) (x : CheckedTile) (faults : List (Nat × Int)) (bows : List BowEvents), s.tablesOk = true → s.frozen = false →
      s.tileNo? n = some x → s.unitFree x.checker 3 x.id = true → s.codesDue x = false → x.state = .captured →
      x.got = deviate faults x.cols (s.exactOf x) →
      ∃ t, exec (.duplicateExecution n ⟨faults, margins, bows⟩) s = .next t ∧ t.tileNo? n = none ∧
        (t.check x.primary).lastPass = some (max x.ordinal ((s.check x.primary).lastPass.getD 0)) ∧
        (∀ c, x.checker = .array c → (t.check (.array c)).lastPass = some (max x.ordinal ((s.check (.array c)).lastPass.getD 0))) ∧
        changesOnly [.obs, .sites, .clusters, .cores, .walk, .pub] s t) ∧
  (∀ (s : State) (n c margins : Nat) (x : CheckedTile) (faults : List (Nat × Int)) (bows : List BowEvents), s.frozen = false → s.tileNo? n = some x →
      s.unitFree x.checker 3 x.id = true → s.codesDue x = false →
      let dup := deviate faults x.cols (s.exactOf x)
      (x.state = .captured ∧ x.got ≠ dup ∨ x.state = .escalated) → s.thirdUnit x.cluster [x.cluster, unitCluster x.checker] = some c →
      ∃ t, exec (.duplicateExecution n ⟨faults, margins, bows⟩) s = .next t ∧
        t.tileNo? n = some { x with state := if x.state = .captured then .third else .escThird, dup := dup, third := some c } ∧
        changesOnly [.cores, .clusters, .obs, .sites, .walk] s t) ∧
  (∀ (s : State) (n c : Nat) (x : CheckedTile) (faults : List (Nat × Int)), s.frozen = false → s.tileNo? n = some x → x.state = .third →
      x.third = some c → s.arrayBusy c 2 x.id = false →
      let r := deviate faults x.cols (s.exactOf x)
      (r = x.got → ∃ t, exec (.thirdExecution n faults) s = .next t ∧ t.tileNo? n = none ∧
        ∃ y ∈ t.faults.recs, y.kind = 2 ∧ y.unit = x.checker ∧ s.faults.seq ≤ y.seq) ∧
      (r ≠ x.got → r = x.dup → ∃ t, exec (.thirdExecution n faults) s = .next t ∧ t.tileNo? n = none ∧
        ∃ y ∈ t.faults.recs, y.kind = 3 ∧ y.unit = x.primary ∧ s.faults.seq ≤ y.seq)) ∧
  (∀ (s : State) (u : UnitId), s.tablesOk = true → s.frozen = false → (s.check u).suspect = true → (s.check u).retired = false →
      recentFails (s.dev.bOpen.getD 0) (s.check u).fails = [] →
      ∃ t, exec (.unitBackToOk u) s = .next t ∧ t.check u = { s.check u with suspect := false, fails := [] } ∧ wroteRecord 0x15 s t ∧
        changesOnly ([.sites, .cores, .clusters] ++ recordParts) s t)

/-! ### The keep store -/

/-- KEEP_STORE_APPEND writes the append that is next, behind a closed sector when its read-back fails: it is the newest record of the log with the next SEQ, a kept value of that record is in force, and an answer that waited for it alone leaves, where its endpoint can send (R393, R442 to R444). COMPACTION of a victim whose erase verifies leaves no record in its sector and counts; a first failed erase is counted (R445, R446). COUNTER_INCREMENT programs the next unary bit of a counter with a waiting increment, and asks for its fold at 32,000 bits (R453). HISTOGRAM_SNAPSHOT in service asks for a record of the histograms (R460). No cell, memory, core or pin changes. A compaction is atomic (log 62). -/
def Obligations.KeepStoreWrites : Prop :=
  (∀ (s : State) (readbackOk : Bool) (a : Append) (k : Keep), s.dev.pfailLow = false → s.keep.nextAppend = some a →
      (if readbackOk then s.keep else s.keep.closeHead).put a.type a.key a.payload = some k →
      ∃ t h o, exec (.keepStoreAppend readbackOk) s = .next t ∧
        t.keep.log = s.keep.log ++ [⟨h, o, a.type, a.key, s.keep.seq + 1, a.payload⟩] ∧ t.keep.seq = s.keep.seq + 1 ∧
        t.keep.appendVol = s.keep.appendVol + recordSize a.payload.length ∧
        (∃ l, t.keep.pending = dropAppend a s.keep.pending ++ l) ∧
        ((a.type = 1 ∨ a.type = 2) → t.keep.kept.find? (fun e => e.1 == a.key) = some (a.key, a.payload)) ∧
        (∀ no ep x, a.answer = some no → s.dict.outbox = [⟨no, false, ep, x⟩] → ep < 2 ∨ s.canSend (ep - 2) = true →
          t.dict.outbox = [] ∧ ∃ l, t.tx = s.tx ++ l ∧ (x ∈ l ∨ ∃ m tag body, .secured m tag body x ∈ l)) ∧
        changesOnly answerParts s t) ∧
  (∀ (s : State) (v st : Nat), s.dev.pfailLow = false →
      (s.keep.compacting = some (v, st) ∨ (s.keep.compacting = none ∧ s.keep.erased < 64 ∧ s.keep.victim = some v)) →
      ∃ t, exec (.compaction true) s = .next t ∧ (∀ r ∈ t.keep.log, r.sector ≠ v) ∧ t.keep.compacting = none ∧ t.keep.eraseFails = 0 ∧
        t.keep.compactions = s.keep.compactions + 1 ∧ changesOnly recordParts s t) ∧
  (∀ (s : State) (v st : Nat), s.dev.pfailLow = false → s.keep.compacting = some (v, st) → s.keep.eraseFails = 0 →
      ∃ t, exec (.compaction false) s = .next t ∧ t.keep = { s.keep with eraseFails := 1 } ∧ changesOnly [.keep] s t) ∧
  (∀ (s : State) (n : Nat), n < 7 → s.dev.pfailLow = false → s.keep.folding n = false →
      let c : LifeCtr := tget0 {} s.keep.counters n
      c.pending ≠ 0 →
      ∃ t, exec (.counterIncrement n true) s = .next t ∧
        tget0 {} t.keep.counters n = { c with unary := c.unary + 1, pending := c.pending - 1 } ∧
        (c.headerGen = some c.gen → LifeCtr.value (tget0 {} t.keep.counters n) = c.value + 1) ∧
        (c.unary + 1 < 32000 → t.keep.pending = s.keep.pending) ∧
        (32000 ≤ c.unary + 1 → ∃ p, t.keep.pending = s.keep.pending ++ [⟨1, 0x41, n, p, none⟩]) ∧ changesOnly [.keep] s t) ∧
  (∀ s : State, (s.dev.state = .ready ∨ s.dev.state = .serving ∨ s.dev.state = .degraded) →
      ∃ t, exec .histogramSnapshot s = .next t ∧ t.keep.pending = s.keep.pending ++ [⟨4, 0x40, 0, t.histBytes, none⟩] ∧
        t.keep.hist = s.cycleHist ∧ changesOnly [.keep] s t)

/-- A WINDOW_PAGE_WRITE in range below the protected pages, while no page is being programmed, has its page programmed, and its answer waits (R455, R458); one of a protected page is answered ACCESS (R457). A first WINDOW_SEGMENT_WRITE of at most 64 bytes loads them, and position 63 has page 0 programmed (R456). WINDOW_PAGE_PROGRAMMED puts the loaded bytes into the page and no other, counts its write, and lets the answer leave (R459). A BLOCK_PROTECT_WRITE from 0 to 3 is in force at once and answered OK (R457). -/
def Obligations.WindowPagesAreProgrammed : Prop :=
  (∀ (s : State) (r : Req) (x : Session) (addr count : Nat) (data : Bytes), s.writes r x 0x6100 4 [] → data.length = 64 → addr ≤ 65535 →
      1 ≤ count → count ≤ 64 → (∀ b ∈ data.drop count, b = 0#8) →
      (addr / 64 * 64 < protectFrom s.keep.protect → s.dev.pfailLow = false → s.keep.page = none → s.keep.pageQueue = [] →
        ∃ t y, exec (.windowPageWrite r addr count 0 data) s = .next t ∧
          t.keep = { s.keep with page := some ⟨addr / 64, loadPage [] (addr % 64) (data.take count), some s.dict.answerNo⟩ } ∧
          t.dict.outbox = s.dict.outbox ++ [⟨s.dict.answerNo, false, r.ep, y⟩] ∧ t.tx = s.tx ∧ changesOnly [.keep, .dict] s t) ∧
      (protectFrom s.keep.protect ≤ addr / 64 * 64 →
        ∃ u, exec (.windowPageWrite r addr count 0 data) s = .next (s.sent r x 0x6100 4 0 3 [] u) ∧ changesOnly [.dict] s u)) ∧
  (∀ (s : State) (r : Req) (x : Session) (data : Bytes), s.admitsSegment r x 0x6100 1 → s.begins r 0x6100 1 → 1 ≤ data.length →
      data.length ≤ 64 → s.keep.protect % 4 ≠ 3 → s.dev.pfailLow = false → s.keep.page = none → s.keep.pageQueue = [] →
      ∃ u, exec (.windowSegmentWrite r 0 data false) s = .next (s.sent r x 0x6100 1 0 0 [] u) ∧
        (data.length < 64 → u.keep = { s.keep with segPage := loadPage [] 0 data }) ∧
        (data.length = 64 → u.keep = { s.keep with segPage := [], page := some ⟨0, loadPage [] 0 data, none⟩ }) ∧ changesOnly [.dict, .keep] s u) ∧
  (∀ (s : State) (j : PageJob), s.keep.page = some j → s.tablesOk = true → (∀ e ∈ j.bytes, e.1 < 64) →
      (j.bytes.map (·.1)).Nodup → s.keep.pageQueue = [] →
      ∃ t, exec .windowPageProgrammed s = .next t ∧ (∀ e ∈ j.bytes, tget0 0xFF#8 t.keep.window (j.page * 64 + e.1) = e.2) ∧
        (∀ a, (∀ e ∈ j.bytes, a ≠ j.page * 64 + e.1) → tget0 0xFF#8 t.keep.window a = tget0 0xFF#8 s.keep.window a) ∧
        tget0 0 t.keep.writeCounts j.page = min (tget0 0 s.keep.writeCounts j.page + 1) 0xFFFFFFFF ∧ t.keep.page = none ∧
        (∀ no ep x, j.answer = some no → s.dict.outbox = [⟨no, false, ep, x⟩] → tget0 0 s.keep.writeCounts j.page ≠ 999999 →
          ep < 2 ∨ s.canSend (ep - 2) = true →
          t.dict.outbox = [] ∧ ∃ l, t.tx = s.tx ++ l ∧ (x ∈ l ∨ ∃ m tag body, .secured m tag body x ∈ l)) ∧
        changesOnly answerParts s t) ∧
  (∀ (s : State) (r : Req) (x : Session) (v : Nat), s.writes r x 0x6100 2 [] → v ≤ 3 → s.dev.pfailLow = false →
      ∃ u, exec (.blockProtectWrite r v) s = .next (s.sent r x 0x6100 2 0 0 [] u) ∧ u.keep = { s.keep with protect := v, oldProtect := s.keep.protect, protectBusy := true } ∧
        changesOnly [.dict, .keep] s u)

/-! ### Boot and trust -/

/-- A RESET_RELEASE with good rails, crystal and flash, root keys whose SHAKE256 the fuse holds (R423), and STRAP0 low, runs the firmware of the slot that the directory names when it passes R418, with the version, the security version and the measurement of its header (R417); a trial counts its attempt, and after three attempts the other slot is ACTIVE and no trial (R419). With a bad rail or crystal the device is stuck in BOOT; with STRAP0 high, other root keys or a failed flash it is in ROM recovery. A ROM_RECOVERY_DELIVERY that passes R418 goes to slot 0 as a trial, and the device resets (R421). A TEST_UNLOCK with a good token for this serial number sets DEBUG, with record 0x4D but in ROM recovery (R421, R432). -/
def Obligations.ResetSelectsFirmware : Prop :=
  (∀ (s : State) (straps : Nat) (testEn : Bool) (rootKeys : Bytes) (slots : List FwSlot) (f : FwSlot), s.dev.resetHeld = true →
      bit straps 0 = false → digest32 rootKeys = s.flash.rootFuse → s.flash.dirs.length = 2 → s.flash.gen + 1 < 2 ^ 32 →
      let gaveUp := s.flash.trial && decide (3 ≤ s.flash.attempts)
      let a := if gaveUp then 1 - s.flash.active else s.flash.active
      let areas := (Flash.factory slots s.flash).slots
      areas[a]? = some f → FwSlot.accepted s.flash.arbValue (a == 2) f = true →
      ∃ t, exec (.resetRelease straps testEn true true rootKeys true slots) s = .next t ∧ t.dev.resetHeld = false ∧ t.dev.bootStuck = false ∧
        t.dev.straps = straps % 16 ∧ t.dev.testEn = testEn ∧ t.dev.bootPath = 0 ∧ t.dev.fwver = fwVersion f ∧ t.dev.secver = fwSecver f ∧
        t.dev.rollfwd = fwRollfwd f ∧ t.dev.measure = fwMeasure f ∧ t.dev.abandoned = gaveUp ∧ t.dev.state = s.dev.state ∧ t.flash.slots = areas ∧
        t.flash.active = a ∧
        t.flash.trial = (s.flash.trial && !gaveUp) ∧
        t.flash.attempts = (if gaveUp then 0 else if s.flash.trial then s.flash.attempts + 1 else s.flash.attempts) ∧
        changesOnly [.dev, .flash] s t) ∧
  (∀ (s : State) (straps : Nat) (testEn railsOk crystalOk flashOk : Bool) (rootKeys : Bytes) (slots : List FwSlot), s.dev.resetHeld = true →
      ((railsOk && crystalOk) = false →
        ∃ t, exec (.resetRelease straps testEn railsOk crystalOk rootKeys flashOk slots) s = .next t ∧ t.dev.resetHeld = false ∧
          t.dev.bootStuck = true ∧ t.dev.state = s.dev.state ∧ changesOnly [.dev] s t) ∧
      (railsOk = true → crystalOk = true → bit straps 0 = true ∨ digest32 rootKeys ≠ s.flash.rootFuse ∨ flashOk = false →
        ∃ t, exec (.resetRelease straps testEn railsOk crystalOk rootKeys flashOk slots) s = .next t ∧ t.dev.resetHeld = false ∧
          t.dev.bootPath = 3 ∧ t.dev.state = s.dev.state ∧ changesOnly [.dev] s t)) ∧
  (∀ (s : State) (slot : FwSlot), s.dev.state = .boot → s.dev.resetHeld = false → s.dev.bootStuck = false → s.dev.bootPath = 3 →
      FwSlot.accepted s.flash.arbValue false slot = true → s.flash.dirs.length = 2 → s.flash.gen + 1 < 2 ^ 32 →
      ∃ t, exec (.romRecoveryDelivery slot) s = .next t ∧ t.dev.resetHeld = true ∧ t.dev.state = .boot ∧
        t.flash.slots = s.flash.areas.set 0 slot ∧ t.flash.active = 0 ∧ t.flash.trial = true ∧ t.flash.attempts = 0 ∧
        t.flash.arb = s.flash.arb ∧ t.flash.imageKeys = s.flash.imageKeys ∧ t.mem.planes = s.mem.planes ∧ t.tx = s.tx) ∧
  (∀ s : State, s.dev.resetHeld = false → s.dev.debug = false →
      ∃ t, exec (.testUnlock s.dev.serial true true true) s = .next t ∧ t.dev = { s.dev with debug := true } ∧
        (s.dev.bootPath ≠ 3 → wroteRecord 0x4D s t) ∧ (s.dev.bootPath = 3 → t.faults = s.faults) ∧
        changesOnly (.dev :: recordParts) s t)

/-- BOOT_COMPLETE of a device in BOOT recovers the keep store: the dictionary answers (R404), the DIK is locked (R426), the boot count is one more than the lifetime counter 0 held, and the side and the identity of the selected image are those of the side-selected record (R409, R449). A device with TEST_EN low on firmware of a slot then begins SELFTEST; one with TEST_EN high stays in BOOT, and so does recovery firmware. SELFTEST_COMPLETE after the fifth round of passes, without an image whose objects verify or have come from a neighbour (R411), with nothing failed, no SAFE cause and no DEGRADED condition, is READY with record 0x45 and ends the trial of the slot that runs (R419); with SAFE_N low it is SAFE. With a verified image, the image of the side-selected record is the selected one, and the device serves only when its programme passed the load checks (R412). When 2000.03 starts the device is log 33. -/
def Obligations.BootReachesReady : Prop :=
  (∀ (s : State) (entropyOk : Bool), s.dev.state = .boot → s.dev.resetHeld = false → s.dev.bootStuck = false → s.dev.bootPath ≠ 3 →
      s.dev.recovered = false → s.tablesOk = true → s.dev.pairHalted.contains 2 = false →
      ∃ t, exec (.bootComplete entropyOk) s = .next t ∧ t.dev.recovered = true ∧
        t.dev.bootCount = (LifeCtr.value (tget0 {} s.keep.counters 0) + 1) % 2 ^ 32 ∧
        t.capo.side = (s.keep.sideRec.map (·.side)).getD 0 ∧
        t.capo.selected.map (fun i => (i.progid, i.imgseq)) = s.keep.sideRec.map (fun r => (r.progid, r.imgseq)) ∧
        t.capo.selDigest = (s.keep.sideRec.map (·.digest)).getD [] ∧ t.dictAnswers = true ∧ t.dev.dikLocked = true ∧
        (s.dev.testEn = true → t.dev.state = .boot ∧ t.dev.bootStuck = false) ∧
        (s.dev.testEn = false → s.dev.bootPath = 2 → t.dev.state = .boot ∧ t.dev.bootStuck = false) ∧
        (s.dev.testEn = false → s.dev.bootPath ≠ 2 → t.dev.state = .selftest) ∧
        (entropyOk = false → t.dev.entropyBad = true) ∧ t.flash.slots = s.flash.slots ∧ t.flash.arb = s.flash.arb ∧
        t.mem.slow = s.mem.slow ∧ t.dev.serial = s.dev.serial) ∧
  (∀ (s : State) (imageOk : Bool), s.dev.state = .selftest → 5 ≤ s.dev.selftestRound → s.noPassRuns = true → s.dev.safeCauses = [] →
      s.dev.entropyBad = false →
      (s.bootImage = none ∨ imageOk = false ∨ ∃ n i, s.bootImage = some (n, i) ∧ (i.entries.zipIdx.all fun e =>
        s.flashObjectOk n i e || (s.entryAt s.capo.side e.2).any fun x => x.2.verified) = false) →
      (s.dev.safeNLow = false → s.degradedCondition = false →
        ∃ t, exec (.selftestComplete imageOk [] ⟨[], [], []⟩) s = .next t ∧ t.dev.state = .ready ∧ t.dev.noImage = true ∧ t.dev.batchOpening = false ∧
          (s.dev.bootPath = 0 → s.flash.activateNext = false → s.flash.dirs.length = 2 → s.flash.gen + 1 < 2 ^ 32 → t.flash.trial = false) ∧
          wroteRecord 0x45 s t ∧ changesOnly ([.dev, .flash, .sites, .planes, .cores, .clusters] ++ recordParts) s t) ∧
      (s.dev.safeNLow = true →
        ∃ t, exec (.selftestComplete imageOk [] ⟨[], [], []⟩) s = .next t ∧ t.dev.state = .safe ∧ 1 ∈ t.dev.safeCauses ∧ t.dev.noImage = true ∧
          t.faultNLow = true ∧ t.mem = s.mem ∧ t.flash = s.flash)) ∧
  (∀ (s : State) (n : Nat) (i : Image), s.dev.state = .selftest → 5 ≤ s.dev.selftestRound → s.noPassRuns = true →
      s.bootImage = some (n, i) → i.entries.zipIdx.all (s.flashObjectOk n i) = true →
      ∃ t, exec (.selftestComplete true [] ⟨[], [], []⟩) s = .next t ∧ t.capo.selected.map (·.digest) = some i.digest ∧
        t.capo.selDigest = i.digest ∧ t.capo.side = s.capo.side ∧ t.dev.state ≠ .selftest ∧
        (t.dev.noImage = true → t.dev.state ≠ .serving))

/-! ### Firmware and keys -/

/-- A first FIRMWARE_DELIVERY segment, outside ROM recovery, is written to the spare slot, which is no image yet, and counted; the LAST one completes the slot's bytes and has it checked, with record 0x48, or 0x49 when R418 rejects it (R431). After a delivery that passed, FIRMWARE_ACTIVATE writes a directory copy that names the spare slot as a trial, FIRMWARE_DRAIN_RESET does so and begins a drain stop that ends in a reset, and FIRMWARE_CANCEL forgets the delivery; without one they are refused. The reason of a refusal without a delivery is log 61. -/
def Obligations.FirmwareIsDeliveredAndActivated : Prop :=
  (∀ (s : State) (r : Req) (x : Session) (data : Bytes) (slot : FwSlot), s.admitsSegment r x 0x9030 1 → s.begins r 0x9030 1 →
      s.romRecovery = false → data.length ≤ 4194304 →
      ∃ u, exec (.firmwareDelivery r 0 data false slot) s = .next (s.sent r x 0x9030 1 0 0 [] u) ∧ u.flash.deliveryAt = data.length ∧ u.flash.delivered = none ∧
        u.flash.slots[s.flash.spare]? = some { noSlot with bytes := data } ∧ u.flash.active = s.flash.active ∧
        (∀ n, n ≠ s.flash.spare → u.flash.slots[n]? = s.flash.areas[n]?) ∧ changesOnly [.dict, .flash] s u) ∧
  (∀ (s : State) (r : Req) (x : Session) (y : Transfer) (offset : Nat) (data : Bytes) (slot : FwSlot), s.admitsSegment r x 0x9030 1 →
      s.follows r 0x9030 1 offset y → s.romRecovery = false → offset + data.length ≤ 4194304 →
      let made := { slot with bytes := (s.flash.areas.getD s.flash.spare noSlot).bytes.take offset ++ data }
      let ok := FwSlot.accepted s.flash.arbValue false made
      ∃ u, exec (.firmwareDelivery r offset data true slot) s = .next (s.sent r x 0x9030 1 offset 0 [] u) ∧ u.flash.slots[s.flash.spare]? = some made ∧
        u.flash.delivered = some ok ∧ u.flash.active = s.flash.active ∧ wroteRecord (if ok then 0x48 else 0x49) s u ∧
        changesOnly (.flash :: answerParts) s u) ∧
  (∀ (s : State) (r : Req) (x : Session), s.writes r x 0x9030 2 [1#8] → s.flash.delivered = some true → s.flash.activateNext = false →
      s.flash.dirs.length = 2 → s.flash.gen + 1 < 2 ^ 32 →
      ∃ u, exec (.firmwareActivate r) s = .next (s.sent r x 0x9030 2 0 0 [] u) ∧ u.flash.active = s.flash.spare ∧ u.flash.trial = true ∧ u.flash.attempts = 0 ∧
        u.flash.gen = s.flash.gen + 1 ∧ u.flash.activateNext = true ∧ u.flash.slots = s.flash.slots ∧ u.dev = s.dev ∧
        (tget0 {} u.keep.counters 4).pending = (tget0 {} s.keep.counters 4 : LifeCtr).pending + 1 ∧ changesOnly [.dict, .flash, .keep] s u) ∧
  (∀ (s : State) (r : Req) (x : Session), s.writes r x 0x9030 2 [2#8] → s.flash.delivered = some true → s.flash.activateNext = false →
      s.flash.dirs.length = 2 → s.flash.gen + 1 < 2 ^ 32 →
      ∃ u, exec (.firmwareDrainReset r) s = .next (s.sent r x 0x9030 2 0 0 [] u) ∧ u.flash.active = s.flash.spare ∧ u.flash.trial = true ∧ u.dev.draining = true ∧
        u.dev.drainReset = true ∧ u.dev.batchOpening = false ∧ u.dev.state = s.dev.state ∧
        changesOnly [.dict, .flash, .dev, .cores, .keep] s u) ∧
  (∀ (s : State) (r : Req) (x : Session), s.writes r x 0x9030 2 [3#8] → s.flash.delivered = some true →
      s.flash.dirs.length = 2 → s.flash.gen + 1 < 2 ^ 32 →
      ∃ u, exec (.firmwareCancel r) s = .next (s.sent r x 0x9030 2 0 0 [] u) ∧ u.flash.delivered = none ∧ u.flash.activateNext = false ∧
        (s.flash.activateNext = true → u.flash.active = s.flash.spare ∧ u.flash.trial = false) ∧
        (s.flash.activateNext = false → u.flash.active = s.flash.active ∧ u.flash.trial = s.flash.trial) ∧
        u.flash.slots = s.flash.slots ∧ changesOnly [.dict, .flash] s u) ∧
  (∀ (s : State) (r : Req) (x : Session) (c : BitVec 8), s.writes r x 0x9030 2 [c] → s.flash.delivered ≠ some true →
      (c = 1#8 → ∃ u, exec (.firmwareActivate r) s = .next (s.sent r x 0x9030 2 0 8 [0xB#8, 0#8] u) ∧ changesOnly [.dict] s u) ∧
      (c = 2#8 → ∃ u, exec (.firmwareDrainReset r) s = .next (s.sent r x 0x9030 2 0 8 [0xB#8, 0#8] u) ∧ changesOnly [.dict] s u) ∧
      (c = 3#8 → ∃ u, exec (.firmwareCancel r) s = .next (s.sent r x 0x9030 2 0 8 [0xB#8, 0#8] u) ∧ changesOnly [.dict] s u))

/-- PROVISIONING of a READY device whose fuse is not blown puts an ADMIN record into client key slot 0 and an image key into image key slot 0, and blows the fuse (R429). A CLIENT_KEY_SLOT_WRITE of slots 1 to 7 with a well-formed record, not emptying the session's own slot, stores it and ends every session of the slot (R399); slot 0 is refused with reason 9. An IMAGE_KEY_WRITE of slots 1 to 7 stores the key with record 0x46 (R430), and a staged image whose key is gone is given up. Their answers wait for the append, whose payload is sealed under the key that the UDS gives (R436, log 91). Reason 9 for image key slot 0 is log 61. -/
def Obligations.KeysAreWritten : Prop :=
  (∀ (s : State) (r : Req) (data : Bytes), s.writesPlain r 0x9060 1 data → s.flash.provisioned = false → s.dev.state = .ready →
      data.length = 4096 → keyRecordOk 2 (data.take 2048) = true → num data 1984 1 = 2 → keyRecordOk 1 (data.drop 2048) = true →
      s.capo.staged = none →
      ∃ t, exec (.provisioning r data) s = .next t ∧ t.flash.provisioned = true ∧
        tget0 [] t.flash.clientKeys 0 = data.take 2048 ∧ tget0 [] t.flash.imageKeys 0 = data.drop 2048 ∧ wroteRecord 0x46 s t ∧
        (∃ q ∈ t.keep.pending, q.key = 0x904001 ∧ q.answer = some s.dict.answerNo ∧
          ∃ v : State, v.flash.uds = s.flash.uds ∧ q.payload = v.sealKept 0x904001 (data.drop 2048)) ∧
        changesOnly ([.flash] ++ answerParts) s t) ∧
  (∀ (s : State) (r : Req) (x : Session) (slot : Nat) (data : Bytes), s.writes r x 0x9010 1 data → data.length = 2048 →
      keyRecordOk 2 data = true →
      (1 ≤ slot → slot ≤ 7 → ¬(slot = x.slot ∧ num data 1984 1 = 0) →
        ∃ t, exec (.clientKeySlotWrite r slot data) s = .next t ∧ tget0 [] t.flash.clientKeys slot = data ∧
          t.slotRole slot = num data 1984 1 ∧ (∀ y ∈ t.dict.sessions, y.slot ≠ slot) ∧
          (∀ y ∈ s.dict.sessions, y.slot ≠ slot → ∃ z ∈ t.dict.sessions, z.sid = y.sid) ∧
          t.keep.pending = s.keep.pending ++ [⟨2, 2, 0x901001 + slot, s.sealKept (0x901001 + slot) data, some s.dict.answerNo⟩] ∧ t.tx = s.tx ∧
          changesOnly [.flash, .keep, .dict] s t) ∧
      (slot = 0 → ∃ u, exec (.clientKeySlotWrite r slot data) s = .next (s.sent r x 0x9010 1 0 8 [9#8, 0#8] u) ∧
        changesOnly [.dict] s u)) ∧
  (∀ (s : State) (r : Req) (x : Session) (slot : Nat) (data : Bytes), s.writes r x 0x9040 1 data → data.length = 2048 →
      keyRecordOk 1 data = true →
      (1 ≤ slot → slot ≤ 7 → s.capo.staged = none →
        ∃ t, exec (.imageKeyWrite r slot data) s = .next t ∧ tget0 [] t.flash.imageKeys slot = data ∧ wroteRecord 0x46 s t ∧
          (∃ q ∈ t.keep.pending, q = ⟨2, 2, 0x904001 + slot, s.sealKept (0x904001 + slot) data, some s.dict.answerNo⟩) ∧
          changesOnly ([.flash] ++ answerParts) s t) ∧
      (1 ≤ slot → slot ≤ 7 → ∀ i, s.capo.staged = some i → s.capo.state = .staged → s.capo.selected = none →
        ({ s with flash := { s.flash with imageKeys := tput0 [] slot data s.flash.imageKeys } }).imageKey? i.keyid = none →
        ∃ t, exec (.imageKeyWrite r slot data) s = .next t ∧ tget0 [] t.flash.imageKeys slot = data ∧ t.capo.state = .idle ∧
          t.capo.staged = none ∧ wroteRecord 0x46 s t ∧ (∀ (a : Area) (y n : Nat), t.load a y n = s.load a y n)) ∧
      (slot = 0 → ∃ u, exec (.imageKeyWrite r slot data) s = .next (s.sent r x 0x9040 1 0 8 [9#8, 0#8] u) ∧
        changesOnly [.dict] s u))

/-- A MACSEC_KEY_WRITE of one MAC installs the secure associations that it gives and leaves the other MAC's alone; its answer waits for the append (R434, R435). A MACSEC_FRAME_RECEIVED on a MAC with MACsec on, for an installed association, with a good tag and a packet number inside the replay window, is validated, counted and raises the expected number; with a bad tag it is discarded and counted, and nothing else changes. The mark written with a key is log 38. -/
def Obligations.MacsecKeysAndFrames : Prop :=
  (∀ (s : State) (r : Req) (x : Session) (mac an : Nat) (sci : Bytes) (sas : List SaWrite), s.writes r x 0x9050 2 [] → mac ≤ 1 → an ≤ 1 →
      sci.length = 8 → sas.length = 10 → (∀ a ∈ sas, a.sci.length = 8 ∧ a.sak.length = 32) →
      ∃ t, exec (.macsecKeyWrite r mac sci an sas) s = .next t ∧ tget0 [] t.macsec.txSci mac = sci ∧
        t.macsec.txAn = tput0 0 mac an s.macsec.txAn ∧
        (∀ n a, sas[n]? = some a → a.installed = true → (mac * 16 + n, (⟨a.sci, a.sak, a.pn, true⟩ : Sa)) ∈ t.macsec.sas) ∧
        (∀ e : Nat × Sa, e.1 / 16 ≠ mac → (e ∈ t.macsec.sas ↔ e ∈ s.macsec.sas)) ∧
        (∃ q ∈ t.keep.pending, q.key = 0x905002 ∧ q.answer = some s.dict.answerNo) ∧ t.tx = s.tx ∧
        changesOnly [.macsec, .keep, .dict] s t) ∧
  (∀ (s : State) (mac channel an pn : Nat) (a : Sa), mac < 2 → channel < 4 → an < 2 → s.macsecOn mac = true →
      let key := mac * 16 + 2 + channel * 2 + an
      s.macsec.sas.find? (fun e => e.1 == key) = some (key, a) →
      (a.pn ≤ pn + s.setting 0x9050 3 64 →
        ∃ t, exec (.macsecFrameReceived mac channel an pn true true) s = .next t ∧
          t.macsec.sas.find? (fun e => e.1 == key) = some (key, { a with pn := max a.pn (pn + 1) }) ∧
          tget0 {} t.obs.macsec (mac * 3 + 1) = (tget0 {} s.obs.macsec (mac * 3 + 1)).add 1 ∧ changesOnly [.macsec, .obs] s t) ∧
      (∀ present : Bool, ∃ t, exec (.macsecFrameReceived mac channel an pn present false) s = .next t ∧
        tget0 {} t.obs.macsec (mac * 3 + 2) = (tget0 {} s.obs.macsec (mac * 3 + 2)).add 1 ∧ changesOnly [.obs] s t))

/-! ### Exham ports -/

/-- PORT_TRAINING_COMPLETE of a port in TRAINING, with an entropy source that has passed (R433), begins ATTEST with this device's HELLO, which goes out in BRINGUP flits; TRAINING_TIMEOUT makes it ABSENT with record 0x30; ABSENT_RETRY trains an ABSENT or DOWN port again while the links have their clock and supply (R360, R361). LOCK_LOSS and STARVE_LIMIT of an UP port, a REKEY_TIMEOUT at its key boundary, and a BRINGUP_TIMEOUT in ATTEST or KEYX take the port DOWN with records 0x32, 0x33, 0x3C and 0x32, while every other member still has a route. QUARANTINE_RELEASE of a port with fewer than three quarantines takes it DOWN and is answered OK; a third quarantine is refused. The refusal of a third release is log 61. -/
def Obligations.PortsTrainAndFall : Prop :=
  (∀ (s : State) (port : Nat) (nonce : Bytes), port < 6 → (s.port port).state = .training → s.dev.entropyBad = false →
      let m := msgBytes s.group.devno (s.neighbour port) 1 (s.helloFields port) nonce
      ∃ t, exec (.portTrainingComplete port nonce) s = .next t ∧
        t.port port = { s.port port with
          state := .attest, helloTx := m, helloRx := [], evidenceOk := false, partner := none } ∧
        t.tx = s.tx ++ .message 1 (s.neighbour port) (s.helloFields port) nonce ::
          (payloads (m.length / 256 + 1) m).map (fun b => .flit port (bringupWire b)) ∧ changesOnly [.group, .obs, .tx] s t) ∧
  (∀ (s : State) (port : Nat), port < 6 → (s.port port).state = .training →
      ∃ t, exec (.trainingTimeout port) s = .next t ∧ t.port port = { s.port port with state := .absent } ∧ wroteRecord 0x30 s t ∧
        changesOnly (.group :: recordParts) s t) ∧
  (∀ (s : State) (port : Nat), port < 6 → s.serdesOff = false → ((s.port port).state = .absent ∨ (s.port port).state = .down) →
      ∃ t, exec (.absentRetry port) s = .next t ∧ t.port port = { s.port port with state := .training } ∧ changesOnly [.group] s t) ∧
  (∀ (s : State) (port cls : Nat), port < 6 →
      (∀ m ∈ s.group.members, m ≠ s.group.devno → (s.onPort port fun x => { x with state := .down }).routePort m ≠ none) →
      let p := s.port port
      let fallen (kind : Nat) (t : State) : Prop :=
        t.port port = { quarantines := p.quarantines, state := .down } ∧ wroteRecord kind s t ∧
          tget0 {} t.obs.link (port * 8 + 6) = (tget0 {} s.obs.link (port * 8 + 6)).add 1 ∧ t.group.members = s.group.members ∧
          changesOnly ([.group, .obs] ++ recordParts) s t
      (p.state = .up → ∃ t, exec (.lockLoss port) s = .next t ∧ fallen 0x32 t) ∧
      (p.starves cls = true → ∃ t, exec (.starveLimit port cls) s = .next t ∧ fallen 0x33 t) ∧
      (p.state = .up → p.nextTx = [] → atBoundary p.txSeq = true → ∃ t, exec (.rekeyTimeout port) s = .next t ∧ fallen 0x3C t) ∧
      ((p.state = .attest ∨ p.state = .keyx) → ∃ t, exec (.bringupTimeout port) s = .next t ∧ fallen 0x32 t)) ∧
  (∀ (s : State) (r : Req) (x : Session) (port : Nat), s.writes r x 0xA000 4 [] → port < 6 → (s.port port).state = .quarantined →
      ((s.port port).quarantines < 3 →
        ∃ u, exec (.quarantineRelease r port) s = .next (s.sent r x 0xA000 4 0 0 [] u) ∧ u.port port = { s.port port with state := .down } ∧ changesOnly [.dict, .group] s u) ∧
      ((s.port port).quarantines = 3 →
        ∃ u, exec (.quarantineRelease r port) s = .next (s.sent r x 0xA000 4 0 8 [0xB#8, 3#8] u) ∧ changesOnly [.dict] s u))

/-- HELLO of the partner that the cabling rule calls for is kept, and evidence goes out; a HELLO that breaks the rule quarantines the port with record 0x34 (R361, R364). Accepted EVIDENCE takes the port to KEYX, where the initiator sends its key share. A good KEYSHARE-I at the responder, or KEYSHARE-R at the initiator, takes the port UP with the keys of R362, sequence numbers 0, all credits and record 0x31. REKEY_START near the boundary sends REKEY-I; a good REKEY-I is answered, and it and a good REKEY-R give both directions their next keys (R363). The order of the HELLOs and T are log 43. -/
def Obligations.PortsExchangeKeys : Prop :=
  (∀ (s : State) (port dev partnerPort arrange progid imgseq : Nat) (nonce : Bytes), port < 6 → (s.port port).state = .attest →
      (s.port port).helloRx = [] →
      (dev ≠ s.group.devno → dev = s.neighbour port → partnerPort = partnerOf port →
        ∃ t e l, exec (.hello port dev partnerPort arrange progid imgseq nonce) s = .next t ∧
          t.port port = { s.port port with
            partner := some (dev, partnerPort),
            helloRx := msgBytes dev s.group.devno 1 [dev, partnerPort, arrange, progid, imgseq] nonce } ∧
          t.tx = s.tx ++ .message 2 dev [] e :: l ∧ changesOnly [.group, .obs, .tx] s t) ∧
      ((dev = s.group.devno ∨ dev ≠ s.neighbour port ∨ partnerPort ≠ partnerOf port) →
        (∀ m ∈ s.group.members, m ≠ s.group.devno → s.routePort m ≠ none) →
        ∃ t, exec (.hello port dev partnerPort arrange progid imgseq nonce) s = .next t ∧
          t.port port = { quarantines := min ((s.port port).quarantines + 1) 3, state := .quarantined } ∧ wroteRecord 0x34 s t ∧
          changesOnly (.group :: recordParts) s t)) ∧
  (∀ (s : State) (port secver : Nat) (seed : Bytes), port < 6 → (s.port port).state = .attest → (s.port port).helloRx ≠ [] →
      s.flash.arbValue ≤ secver →
      ∃ t, exec (.evidence port true true true secver false seed) s = .next t ∧
        t.port port = { s.port port with state := .keyx, evidenceOk := true, seed := seed } ∧
        (s.initiates port = true → ∃ d b l, t.tx = s.tx ++ .message 3 d [] (shareI seed ++ b) :: l) ∧
        (s.initiates port = false → t.tx = s.tx) ∧ changesOnly [.group, .obs, .tx] s t) ∧
  (∀ (s : State) (port : Nat) (x e seed : Bytes), port < 6 → (s.port port).state = .keyx → s.initiates port = false →
      let content := shareR seed e
      let k := exhamKeys (Config.x25519Shared (ephX seed) x) (Config.mlkemShared e (ephM seed)) (s.transcript port content)
      ∃ t d b l, exec (.keyshareI port x e true true seed) s = .next t ∧ (t.port port).state = .up ∧ (t.port port).keyTx = k.2 ∧
        (t.port port).keyRx = k.1 ∧ (t.port port).txSeq = 0 ∧ (t.port port).rxSeq = 0 ∧ (t.port port).credits = [64, 64, 64, 64] ∧
        t.tx = s.tx ++ .message 4 d [] (content ++ b) :: l ∧ wroteRecord 0x31 s t ∧ changesOnly (.group :: recordParts) s t) ∧
  (∀ (s : State) (port : Nat) (x c : Bytes), port < 6 → (s.port port).state = .keyx → s.initiates port = true →
      let p := s.port port
      let k := exhamKeys (Config.x25519Shared (ephX p.seed) x) (Config.mlkemOpen (ephM p.seed) c) (s.transcript port (x ++ c))
      ∃ t, exec (.keyshareR port x c true true true) s = .next t ∧ (t.port port).state = .up ∧ (t.port port).keyTx = k.1 ∧
        (t.port port).keyRx = k.2 ∧ (t.port port).txSeq = 0 ∧ (t.port port).rxSeq = 0 ∧ (t.port port).credits = [64, 64, 64, 64] ∧
        wroteRecord 0x31 s t ∧ changesOnly (.group :: recordParts) s t) ∧
  (∀ (s : State) (port : Nat) (seed : Bytes), port < 6 → (s.port port).state = .up → nearBoundary (s.port port).txSeq = true →
      (s.port port).rekeying = false → (s.port port).nextTx = [] →
      ∃ t d b l, exec (.rekeyStart port seed) s = .next t ∧ (t.port port).rekeying = true ∧ (t.port port).seed = seed ∧
        (t.port port).state = .up ∧ t.tx = s.tx ++ .message 5 d [] (shareI seed ++ b) :: l ∧ changesOnly [.group, .tx, .obs] s t) ∧
  (∀ (s : State) (port : Nat) (x e seed : Bytes), port < 6 → (s.port port).state = .up →
      let content := shareR seed e
      let k := exhamKeys (Config.x25519Shared (ephX seed) x) (Config.mlkemShared e (ephM seed)) (s.transcript port content)
      ∃ t d b l, exec (.rekeyI port x e true true seed) s = .next t ∧ (t.port port).nextRx = k.1 ∧
        ((t.port port).nextTx = k.2 ∨ (t.port port).keyTx = k.2) ∧ t.tx = s.tx ++ .message 6 d [] (content ++ b) :: l ∧
        changesOnly [.group, .tx, .obs] s t) ∧
  (∀ (s : State) (port : Nat) (x c : Bytes), port < 6 → (s.port port).state = .up → (s.port port).rekeying = true →
      let p := s.port port
      let k := exhamKeys (Config.x25519Shared (ephX p.seed) x) (Config.mlkemOpen (ephM p.seed) c) (s.transcript port (x ++ c))
      ∃ t, exec (.rekeyR port x c true true true) s = .next t ∧ (t.port port).nextRx = k.2 ∧
        ((t.port port).nextTx = k.1 ∨ (t.port port).keyTx = k.1) ∧ (t.port port).seed = [] ∧ changesOnly [.group, .tx, .obs] s t)

/-- A FLIT_RECEIVED in turn with good CRC and tag, with nothing queued and no NAK, is accepted: the next sequence number is expected, what it acknowledges leaves the replay buffer, its credits are added, and a MESSAGE flit, or a DATA flit that one announced, for this device leaves a credit owed; one of a reserved type, or DATA that nothing announced, quarantines the port with record 0x36 (R375); a flit out of turn or with a bad CRC asks for a NAK, and one with a bad tag quarantines the port with record 0x35 (R354 to R357). IDLE_FLIT sends one flit of kind 0. REPLAY_TIMEOUT resends every held flit in order, up to eight times (R358). STARVATION_EVENT counts a class that starves, once in its starvation (R359). The class order of credits is log 41. -/
def Obligations.FlitsAreExchanged : Prop :=
  (∀ (s : State) (port : Nat) (f : Flit), port < 6 → (s.port port).state = .up → f.crcOk = true →
      f.seqlo % 64 = (s.port port).rxSeq % 64 →
      let p := s.port port
      let n := ackCount p.unacked f.ackseq
      let c := p.credits.getD f.crclass 0 + f.credits
      let left := p.fwdLeft.getD f.cls 0
      let reserved := left = 0 ∧ (f.kind = 1 ∨ num f.payload 0 2 ∉ messageTypes)
      (f.tagOk = true → f.kind ≤ 2 → (f.kind = 0 ∨ f.here = true ∧ ¬ reserved) → f.nak = false → c ≤ 64 → p.queue = [] →
        ∃ t, exec (.flitReceived port f) s = .next t ∧
          t.port port = { p with
            rxSeq := p.rxSeq + 1, unacked := p.unacked.drop n, replays := if 0 < n then 0 else p.replays
            credits := p.credits.set f.crclass c
            starving := if f.credits = 0 then p.starving else p.starving.filter (· != f.crclass)
            fwdLeft := if f.kind = 0 then p.fwdLeft else p.fwdLeft.set f.cls (if left = 0 then flitsAfter f.payload else left - 1)
            keyRx := if atBoundary p.rxSeq = true then p.nextRx else p.keyRx
            nextRx := if atBoundary p.rxSeq = true then [] else p.nextRx
            owed := if f.kind = 0 then p.owed else p.owed.set f.cls (p.owed.getD f.cls 0 + 1) } ∧
          tget0 {} t.obs.link (port * 8 + 1) = (tget0 {} s.obs.link (port * 8 + 1)).add 1 ∧ changesOnly [.group, .obs] s t) ∧
      (f.tagOk = true → 1 ≤ f.kind → f.kind ≤ 2 → f.here = true → reserved → f.nak = false → c ≤ 64 → p.queue = [] →
        (∀ m ∈ s.group.members, m ≠ s.group.devno → (s.onPort port fun x => { x with state := .down }).routePort m ≠ none) →
        ∃ t, exec (.flitReceived port f) s = .next t ∧ (t.port port).state = .quarantined ∧
          (t.port port).quarantines = min (p.quarantines + 1) 3 ∧ wroteRecord 0x36 s t ∧ changesOnly ([.group, .obs] ++ recordParts) s t) ∧
      (f.tagOk = false → (∀ m ∈ s.group.members, m ≠ s.group.devno → (s.onPort port fun x => { x with state := .down }).routePort m ≠ none) →
        ∃ t, exec (.flitReceived port f) s = .next t ∧
          t.port port = { quarantines := min (p.quarantines + 1) 3, state := .quarantined } ∧ wroteRecord 0x35 s t ∧
          changesOnly ([.group, .obs] ++ recordParts) s t)) ∧
  (∀ (s : State) (port : Nat) (f : Flit), port < 6 → (s.port port).state = .up →
      (f.crcOk = false ∨ f.seqlo % 64 ≠ (s.port port).rxSeq % 64) →
      ∃ t, exec (.flitReceived port f) s = .next t ∧ t.port port = { s.port port with nak := true } ∧
        tget0 {} t.obs.link (port * 8 + 2) = (tget0 {} s.obs.link (port * 8 + 2)).add 1 ∧ changesOnly [.group, .obs] s t) ∧
  (∀ (s : State) (port : Nat), port < 6 → (s.port port).maySend = true → (s.port port).nextFlit = none →
      ∃ t w, exec (.idleFlit port) s = .next t ∧ t.tx = s.tx ++ [.flit port w] ∧ (t.port port).txSeq = (s.port port).txSeq + 1 ∧
        (t.port port).unacked = (s.port port).unacked ++ [⟨(s.port port).txSeq, 0, 0, 0, s.neighbour port, padTo 256 [], w⟩] ∧
        (t.port port).nak = false ∧ (t.port port).credits = (s.port port).credits ∧ (t.port port).queue = (s.port port).queue ∧
        changesOnly [.group, .tx, .obs] s t) ∧
  (∀ (s : State) (port : Nat), port < 6 → (s.port port).state = .up → (s.port port).unacked ≠ [] → (s.port port).replays < 8 →
      ∃ t, exec (.replayTimeout port) s = .next t ∧ t.tx = s.tx ++ (s.port port).unacked.map (fun h => .flit port h.wire) ∧
        t.port port = { s.port port with replays := (s.port port).replays + 1 } ∧ changesOnly [.group, .tx, .obs] s t) ∧
  (∀ (s : State) (port cls : Nat), port < 6 → (s.port port).starves cls = true → cls ∉ (s.port port).starving →
      ∃ t, exec (.starvationEvent port cls) s = .next t ∧
        t.port port = { s.port port with starving := insertNew cls (s.port port).starving } ∧
        tget0 {} t.obs.link (port * 8 + 4) = (tget0 {} s.obs.link (port * 8 + 4)).add 1 ∧ changesOnly [.group, .obs] s t) ∧
  (∀ (s : State) (port cls : Nat), port < 6 → cls ∈ (s.port port).starving → exec (.starvationEvent port cls) s = .next s)

/-! ### The group -/

/-- On a port that is UP, in its turn, into a window of its run: a REMOTE_WRITE of whole lines stores them there and nowhere else, and one line with REDUCE is added exactly to what stands there (R368, R369), or poisons it, with record 0x08, when a container's sign is bad (10 R270); a REMOTE_READ is answered by a WRITE of the lines that it asks for; a REMOTE_TOKEN goes to its core, and waits at the handshake while its channel holds eight (05 R147). A WRITE whose number was complete already changes nothing, wherever its lines would lie. An OFFER notes what its sender can supply, and only an image that it is for may then ask for objects; a REQUEST is answered by the object when one with that digest is held, and by nothing otherwise (R382); an OBJECT that one staged entry names acts as OBJECT_RECEIVED of that entry from its sender. The token layout is log 42, the fields of READ log 15. -/
def Obligations.MessagesMoveDataAndImages : Prop :=
  (∀ (s : State) (src : From) (ordinal run unit space line lines : Nat) (data : Bytes), src.port < 6 → s.memOk = true → s.tablesOk = true →
      s.hears src = true → run ≤ 15 → data.length = 64 * lines → s.inWindow run space unit line lines = true →
      s.awaitedRead src ordinal run unit space line lines = none → (s.peer src.dev).lines = 0 → (s.peer src.dev).early = [] →
      let a := s.windowMem run space unit line lines
      a.holds ((line + lines) * 64 - 1) = true →
      (1 ≤ lines →
        ∃ t, exec (.remoteWrite src (s.peer src.dev).next ordinal run 0 unit space line lines 0 data ⟨[], []⟩) s = .next t ∧
          t.load a (line * 64) (lines * 64) = data ∧ storesOnly a (line * 64) ((line + lines) * 64) s t ∧
          t.peer src.dev = { s.peer src.dev with next := ((s.peer src.dev).next + 1) % 2 ^ 32 } ∧ changesOnly [.group, .mem, .obs] s t) ∧
      (lines = 1 → signBadWords data = [] → s.poisoned a line = false → s.badWords a line = [] →
        lineSignsOk (s.load a (line * 64) 64) = true →
        ∃ t, exec (.remoteWrite src (s.peer src.dev).next ordinal run 1 unit space line lines 0 data ⟨[], []⟩) s = .next t ∧
          t.load a (line * 64) 64 = addContainers data (s.load a (line * 64) 64) ∧ t.poisoned a line = false ∧
          storesOnly a (line * 64) ((line + 1) * 64) s t ∧ changesOnly [.group, .mem, .obs] s t) ∧
      (lines = 1 → signBadWords data ≠ [] →
        ∃ t, exec (.remoteWrite src (s.peer src.dev).next ordinal run 1 unit space line lines 0 data ⟨[], []⟩) s = .next t ∧
          t.poisoned a line = true ∧ storesOnly a (line * 64) ((line + 1) * 64) s t ∧ wroteRecord 0x08 s t ∧
          changesOnly ([.group, .mem, .obs] ++ recordParts) s t)) ∧
  (∀ (s : State) (src : From) (eseq ordinal run unit space line lines : Nat) (data : Bytes), src.port < 6 → s.hears src = true → run ≤ 15 →
      data.length = 64 * lines → eseq ≠ (s.peer src.dev).next →
      ((s.peer src.dev).next + 2 ^ 32 - eseq) % 2 ^ 32 < 2 ^ 31 →
      exec (.remoteWrite src eseq ordinal run 0 unit space line lines 0 data ⟨[], []⟩) s = .next s) ∧
  (∀ (s : State) (src : From) (eseq ordinal run unit space line lines replyUnit replySpace replyLine : Nat), src.port < 6 →
      s.tablesOk = true → s.hears src = true → eseq < 2 ^ 32 → run ≤ 15 → s.inWindow run space unit line lines = true →
      let a := s.windowMem run space unit line lines
      (∀ k, k < lines → s.badWords a (line + k) = []) →
      ∃ t l, exec (.remoteRead src eseq ordinal run unit space line ⟨lines, []⟩ replyUnit replySpace replyLine) s = .next t ∧
        t.tx = s.tx ++ .message 0x10 src.dev
          ([(s.peer src.dev).sent, ordinal, run, 0, replyUnit, replySpace, replyLine, lines, 0] ++
            (List.range lines).filter fun k => s.poisoned a (line + k)) (s.load a (line * 64) (lines * 64)) :: l ∧
        (t.peer src.dev).sent = ((s.peer src.dev).sent + 1) % 2 ^ 32 ∧ changesOnly [.group, .tx, .obs] s t) ∧
  (∀ (s : State) (src : From) (k : Token) (unit : Nat), src.port < 6 → s.tablesOk = true → s.hears src = true →
      (k.run, src.dev) ∈ s.group.depends → k.chan ≤ 15 → unit / 256 = s.group.devno → (s.peer src.dev).early = [] →
      let c := s.core (unit % 256)
      let waits := 8 ≤ c.channelLoad k.chan ∨ c.crossing.any (fun x => x.chan == k.chan) = true
      ∃ t, exec (.remoteToken src (s.peer src.dev).next k unit) s = .next t ∧
        (¬ waits → t.core (unit % 256) = { c with inbound := c.inbound ++ [k] }) ∧
        (waits → t.core (unit % 256) = { c with crossing := c.crossing ++ [k] }) ∧
        (t.peer src.dev).next = ((s.peer src.dev).next + 1) % 2 ^ 32 ∧ changesOnly [.group, .cores] s t) ∧
  (∀ (s : State) (src : From) (progid imgseq : Nat) (digests : List Bytes), src.port < 6 → s.fromMember src = true →
      ∃ t, exec (.offer src progid imgseq digests) s = .next t ∧
        (∀ x, x ∈ t.capo.neighbours ↔ x ∈ s.capo.neighbours ∨ (x.1 = src.dev ∧ x.2 ∈ digests)) ∧ changesOnly [.capo, .group, .obs, .tx] s t ∧
        ((∀ side i, s.sideImage side = some i → i.progid ≠ progid ∨ i.imgseq ≠ imgseq) →
          t.capo = { s.capo with neighbours := t.capo.neighbours } ∧ changesOnly [.capo] s t)) ∧
  (∀ (s : State) (src : From) (digest : Bytes), src.port < 6 → s.fromMember src = true →
      (∀ e, s.capo.objects.find? (fun e => digest32 e.2 == digest) = some e →
        ∃ t l, exec (.request src digest) s = .next t ∧
          t.tx = s.tx ++ .message 0x32 src.dev [] (padTo 32 digest ++ leBytes 4 e.2.length ++ e.2) :: l ∧ changesOnly [.group, .tx, .obs] s t) ∧
      ((∀ e ∈ s.capo.objects, digest32 e.2 ≠ digest) → exec (.request src digest) s = .next s)) ∧
  (∀ (s : State) (src : From) (n : Nat) (i : Image) (e : Entry) (obj : Bytes) (late : Bool), src.port < 6 → s.fromMember src = true →
      s.capo.state = .staging → s.wanted s.freeSide n = some (i, e) →
      (∀ m x, m ≠ n → s.entryAt s.freeSide m = some x → x.2.digest ≠ e.digest) → s.capo.selected = none → s.setting 0x2230 4 1 = 0 →
      ∃ t, exec (.object src e.digest obj late) s = .next t ∧ exec (.objectReceived n (src.dev + 1) obj late) s = .next t)

/-- From a member on a port that is UP: READY is kept, one of a kind for each set (R373); OPEN from the leader, with an ordinal that follows, opens that batch under its epoch on a member that serves, and nothing on one that does not; COMPLETE adds its sender, its decision records and its flags to a run that is not published; DEATH gives the run its cause, the lowest of two; STALE makes an unpublished run STALE; FENCE for the armed B* is kept (R374, R377). Nothing else changes. -/
def Obligations.BatchesOfAGroup : Prop :=
  (∀ (s : State) (src : From) (set absent : Nat) (aftercare : Bool), src.port < 6 → s.fromMember src = true →
      ∃ t, exec (.ready src set absent aftercare) s = .next t ∧
        t.group = { s.group with
          readyFor := (s.group.readyFor.filter fun r => !(r.member == src.dev && r.set == set && r.aftercare == aftercare)) ++
            [⟨src.dev, set, absent, aftercare⟩] } ∧ changesOnly [.group] s t) ∧
  (∀ (s : State) (src : From) (ordinal epoch decision : Nat), src.port < 6 → s.fromMember src = true → src.dev = s.group.leader →
      s.notLeader = true → s.nextOrd ≤ ordinal → decision ≤ 2 → s.group.formed = true →
      ((s.dev.state = .serving ∨ s.dev.state = .degraded) →
        ∃ t x l, exec (.openMsg src ordinal epoch decision) s = .next t ∧ t.dev.bOpen = some ordinal ∧ t.dev.modeEpoch = epoch ∧
          t.walk.batches = x :: l ∧ x.ordinal = ordinal ∧ x.epoch = epoch ∧ x.temps = s.power.temps ∧
          (∀ r, r ∈ t.runsOf (t.devSide ordinal) → (t.run? ordinal r).isSome = true)) ∧
      (s.dev.state ≠ .serving → s.dev.state ≠ .degraded → exec (.openMsg src ordinal epoch decision) s = .next s)) ∧
  (∀ (s : State) (src : From) (o n status : Nat) (corrected done : Bool) (recs : List Decision) (r : RunRec), src.port < 6 →
      s.fromMember src = true → status ≤ 1 → n ≤ 15 → s.run? o n = some r → r.status = none →
      ∃ t, exec (.complete src o n status corrected done recs) s = .next t ∧
        t.run? o n = some { r with
          completes := insertNew src.dev r.completes, corrected := r.corrected || corrected
          settledBy := if done = true then insertNew src.dev r.settledBy else r.settledBy
          decisions := r.decisions ++ recs.filter fun d => !r.decisions.contains d, stale := r.stale || status == 1 } ∧
        changesOnly [.walk] s t) ∧
  (∀ (s : State) (src : From) (o n cause : Nat) (r : RunRec), src.port < 6 → s.fromMember src = true → 1 ≤ cause → cause ≤ 7 → n ≤ 15 →
      s.run? o n = some r → r.status = none →
      ∃ t, exec (.death src o n cause) s = .next t ∧
        t.run? o n = some { r with cause := if r.cause = 0 then cause else min r.cause cause } ∧ changesOnly [.walk, .clusters, .obs] s t) ∧
  (∀ (s : State) (src : From) (o n cause : Nat) (r : RunRec), src.port < 6 → s.fromMember src = true → cause ≤ 7 → n ≤ 15 →
      s.run? o n = some r → r.status = none →
      ∃ t, exec (.stale src o n cause) s = .next t ∧ t.run? o n = some { r with stale := true } ∧ changesOnly [.walk] s t) ∧
  (∀ (s : State) (src : From), src.port < 6 → s.fromMember src = true →
      ∃ t, exec (.fence src s.capo.bstar) s = .next t ∧ t.group = { s.group with fences := insertNew src.dev s.group.fences } ∧
        changesOnly [.group] s t)

/-- ARM from the leader is answered by ARMACK with what this member decides, and an accepted policy change is armed here (R376). ARMACK of acceptance is noted at the leader; one of refusal leaves the change without an acceptance until its decision, which withdraws it (log 102), with record 0x3B, and a policy change reads refused. SEALLOST is noted while a switch is armed. A DIGEST that agrees with every replica's digest held for its epoch changes nothing but the digests held, and a replica's that differs from this device's alone is recorded as 0x12 (R298, 07 R210). REPLICA_DIGEST_SEND of a replica in a group sends its latest complete epoch digest. Result codes and change kinds are logs 31 and 65; REPLSET of another member is log 2. -/
def Obligations.GroupChangesAndReplicas : Prop :=
  (∀ (s : State) (src : From) (kind b epoch : Nat), src.port < 6 → s.fromMember src = true → src.dev = s.group.leader → s.inGroup = true →
      kind ≤ 3 →
      let r := s.armHere kind b
      ∃ t l, exec (.arm src kind b epoch) s = .next t ∧
        t.tx = r.2.tx ++ .message 0x27 src.dev [kind, b, epoch, if r.1 = true then 0 else 1] [] :: l ∧
        t.walk = r.2.walk ∧ t.capo = r.2.capo ∧ t.cores = r.2.cores ∧
        (r.1 = false → t.walk = s.walk ∧ t.capo = s.capo) ∧
        (kind = 1 → r.1 = true → t.walk.policy.state = 1 ∧ t.walk.policy.bstar = b) ∧
        (kind = 2 → r.1 = true → t.walk.intake.state = 1 ∧ t.walk.intake.bstar = b)) ∧
  (∀ (s : State) (src : From) (kind : Nat) (a : GroupArm), src.port < 6 → s.fromMember src = true → s.group.leader = s.group.devno →
      kind ≤ 3 → s.armOf kind = some a → a.acks ≠ [] →
      ((kind = 0 → s.noProgramme = false) → ∃ t, exec (.armack src kind a.bstar a.epoch 0) s = .next t ∧
        (t.armOf kind).map (fun x => (x.bstar, x.epoch, x.acks)) = some (a.bstar, a.epoch, insertNew src.dev a.acks) ∧
        changesOnly ([.group] ++ answerParts) s t) ∧
      (∃ t, exec (.armack src kind a.bstar a.epoch 1) s = .next t ∧ (t.armOf kind).map (fun x => (x.answer, x.acks)) = some (none, []) ∧
        wroteRecord 0x3B s t ∧
        (kind = 1 → s.walk.policy.state = 1 → t.walk.policy.state = 4))) ∧
  (∀ (s : State) (src : From) (site : Nat), src.port < 6 → s.fromMember src = true → site < 1280 → (s.armOf 0).isSome = true →
      ∃ t, exec (.seallost src site) s = .next t ∧ t.group = { s.group with sealLost := true } ∧ changesOnly [.group] s t) ∧
  (∀ (s : State) (src : From) (epoch : Nat) (value : Bytes), src.port < 6 → s.fromMember src = true →
      let held := (s.group.digests.filter fun d => d.1 != src.dev) ++ [(src.dev, epoch, padTo 32 value)]
      ((∀ d ∈ s.digestsFor epoch, d.1 ≠ src.dev → d.2 = padTo 32 value) →
        ∃ t, exec (.digest src epoch value) s = .next t ∧ t.group = { s.group with digests := held } ∧ changesOnly [.group] s t) ∧
      (∀ (v : Bytes), s.capo.epochDigest = some (epoch, v) → v ≠ padTo 32 value → (∀ d ∈ s.group.digests, d.1 = src.dev ∨ d.2.1 ≠ epoch) →
        ∃ t, exec (.digest src epoch value) s = .next t ∧ t.group = { s.group with digests := held } ∧
          (s.replicaOf src.dev = true → wroteRecord 0x12 s t) ∧ (s.replicaOf src.dev = false → changesOnly [.group] s t) ∧
          changesOnly (.group :: recordParts) s t)) ∧
  (∀ (s : State) (i : Image) (e : Nat × Bytes), s.capo.selected = some i → s.capo.epochDigest = some e → i.replset ≠ 0 →
      s.dev.bOpen ≠ none → s.inGroup = true → s.group.devno ≠ 255 →
      ∃ t l, exec .replicaDigestSend s = .next t ∧ t.tx = s.tx ++ .message 0x29 255 [e.1] e.2 :: l ∧ changesOnly [.group, .tx, .obs] s t)

/-- SAFE from a member is answered by the leader with its DROP: it is no member any more, with its state in A010.06 and record 0x38 (R379, R382); a DROP from the leader takes the member out here, and so does a MEMBER_TIMEOUT of a late one. JOIN at the leader with A010.03 is armed for B* 16 batches on, and another member notes it (R378). GROUP_FORMATION with members of the same image, good publishers and good windows forms the group of those present with the lowest one as its leader, under their run tables; a device that joins a formed group sends JOIN and waits (R372), and one that is all that is left of its part forms none anew (R380). Member states after a drop are log 66, JOIN at formation log 44, the formation tables log 87. -/
def Obligations.MembersLeaveAndJoin : Prop :=
  (∀ (s : State) (src : From) (o cause : Nat), src.port < 6 → s.fromMember src = true → s.leadsWithout [src.dev] = true →
      ∃ t, exec (.safe src src.dev o cause) s = .next t ∧ src.dev ∉ t.group.members ∧
        (∀ m, m ≠ src.dev → (m ∈ t.group.members ↔ m ∈ s.group.members)) ∧
        tget0 0 t.group.memberStates src.dev = (if cause = 3 then 4 else 3) ∧ wroteRecord 0x38 s t) ∧
  (∀ (s : State) (src : From) (m o cause : Nat), src.port < 6 → m < 24 → s.fromMember src = true →
      (src.dev = s.group.leader ∨ m = s.group.leader) → m ∈ s.group.members → m ≠ s.group.devno →
      ∃ t, exec (.dropMsg src m o cause) s = .next t ∧ m ∉ t.group.members ∧
        (∀ k, k ≠ m → (k ∈ t.group.members ↔ k ∈ s.group.members)) ∧
        tget0 0 t.group.memberStates m = (if cause = 0 then 2 else if cause = 3 then 4 else 3)) ∧
  (∀ (s : State) (m : Nat), s.frozen = false → m ∈ s.group.members → m ≠ s.group.devno → s.memberLate m = true → s.leadsWithout [m] = true →
      ∃ t, exec (.memberTimeout m) s = .next t ∧ m ∉ t.group.members ∧ (∀ k, k ≠ m → (k ∈ t.group.members ↔ k ∈ s.group.members)) ∧
        tget0 0 t.group.memberStates m = 2 ∧ wroteRecord 0x38 s t) ∧
  (∀ (s : State) (src : From) (o cause : Nat), src.port < 6 → src.dev < 24 → o ≤ ord48 → cause ≤ 255 → s.hears src = true →
      s.group.formed = true → src.dev ∉ s.group.members → (∀ j ∈ s.group.joinPending, j.1 ≠ src.dev) →
      s.mayJoin src.dev o = true →
      (s.group.leader = s.group.devno → s.setting 0xA010 3 1 = 1 → s.armOf 3 = none → s.inGroup = true → s.group.devno ≠ 255 →
        ∃ t l, exec (.joinMsg src src.dev o cause) s = .next t ∧
          t.group.joinPending = s.group.joinPending ++ [(src.dev, (s.openOrd + 16).toNat)] ∧
          t.armOf 3 = some ⟨3, (s.openOrd + 16).toNat, s.dev.modeEpoch + 1, none, [s.group.devno]⟩ ∧
          t.tx = s.tx ++ .message 0x26 255 [3, (s.openOrd + 16).toNat, s.dev.modeEpoch + 1, 0] [] :: l ∧
          changesOnly [.group, .tx, .obs] s t) ∧
      (s.group.leader ≠ s.group.devno →
        ∃ t, exec (.joinMsg src src.dev o cause) s = .next t ∧
          t.group = { s.group with joinPending := s.group.joinPending ++ [(src.dev, ord48)] } ∧ changesOnly [.group] s t)) ∧
  (∀ (s : State) (joining : Bool) (ids : List MemberId) (rows : List RunRow) (publishers windows : List (List Nat)) (depends : List (Nat × Nat)),
      1 < arrSize s.group.arrange → s.frozen = false → s.dev.state ≠ .boot → s.group.formed = false →
      let here := (List.range (arrSize s.group.arrange)).filter fun m => m == s.group.devno || ids.any fun x => x.dev == m
      (∀ x ∈ ids, x.dev = s.group.devno ∨ s.sameImage x = true) → s.publishersOk publishers = true → (∀ w ∈ windows, s.windowOk (windowOf w) = true) →
      ∃ t, exec (.groupFormation joining ids rows publishers windows depends) s = .next t ∧ t.group.members = here ∧
        t.group.formed = !joining ∧ t.group.windows = windows.map windowOf ∧ t.group.depends = depends.eraseDups ∧
        (joining = false → t.group.leader = here.headD s.group.devno ∧ ∀ m ∈ here, tget0 0 t.group.memberStates m = 1) ∧
        (joining = true → ∃ l, t.tx = s.tx ++ .message 0x2C 255 [s.group.devno, s.dev.bOpen.getD 0, 0] [] :: l)) ∧
  (∀ (s : State) (joining : Bool) (ids : List MemberId) (rows : List RunRow) (publishers windows : List (List Nat)) (depends : List (Nat × Nat)),
      s.group.formed = true → s.inGroup = false → exec (.groupFormation joining ids rows publishers windows depends) s = .next s)
end

