-- ==== Sys2Proof/Laws/State.lean ====
section
/-!
SUPPORT. Updates of one part of the state, read through each projection. Every lemma is true by unfolding; later proofs rewrite with
them and never open a record update.
-/

namespace Sys2Proof.Machine

variable (s : State)

/-! ### onDev -/

@[simp] theorem State.onDev_pending (f) : (s.onDev f).pending = s.pending := rfl
@[simp] theorem State.onDev_dev (f) : (s.onDev f).dev = f s.dev := rfl
@[simp] theorem State.onDev_dict (f) : (s.onDev f).dict = s.dict := rfl
@[simp] theorem State.onDev_obs (f) : (s.onDev f).obs = s.obs := rfl
@[simp] theorem State.onDev_sites (f) : (s.onDev f).sites = s.sites := rfl
@[simp] theorem State.onDev_planes (f) : (s.onDev f).planes = s.planes := rfl
@[simp] theorem State.onDev_cores (f) : (s.onDev f).cores = s.cores := rfl
@[simp] theorem State.onDev_clusters (f) : (s.onDev f).clusters = s.clusters := rfl
@[simp] theorem State.onDev_walk (f) : (s.onDev f).walk = s.walk := rfl
@[simp] theorem State.onDev_capo (f) : (s.onDev f).capo = s.capo := rfl
@[simp] theorem State.onDev_mem (f) : (s.onDev f).mem = s.mem := rfl
@[simp] theorem State.onDev_scene (f) : (s.onDev f).scene = s.scene := rfl
@[simp] theorem State.onDev_pub (f) : (s.onDev f).pub = s.pub := rfl
@[simp] theorem State.onDev_faults (f) : (s.onDev f).faults = s.faults := rfl
@[simp] theorem State.onDev_keep (f) : (s.onDev f).keep = s.keep := rfl
@[simp] theorem State.onDev_flash (f) : (s.onDev f).flash = s.flash := rfl
@[simp] theorem State.onDev_macsec (f) : (s.onDev f).macsec = s.macsec := rfl
@[simp] theorem State.onDev_group (f) : (s.onDev f).group = s.group := rfl
@[simp] theorem State.onDev_power (f) : (s.onDev f).power = s.power := rfl
@[simp] theorem State.onDev_passLog (f) : (s.onDev f).passLog = s.passLog := rfl
@[simp] theorem State.onDev_tx (f) : (s.onDev f).tx = s.tx := rfl

/-! ### onDict -/

@[simp] theorem State.onDict_pending (f) : (s.onDict f).pending = s.pending := rfl
@[simp] theorem State.onDict_dev (f) : (s.onDict f).dev = s.dev := rfl
@[simp] theorem State.onDict_dict (f) : (s.onDict f).dict = f s.dict := rfl
@[simp] theorem State.onDict_obs (f) : (s.onDict f).obs = s.obs := rfl
@[simp] theorem State.onDict_sites (f) : (s.onDict f).sites = s.sites := rfl
@[simp] theorem State.onDict_planes (f) : (s.onDict f).planes = s.planes := rfl
@[simp] theorem State.onDict_cores (f) : (s.onDict f).cores = s.cores := rfl
@[simp] theorem State.onDict_clusters (f) : (s.onDict f).clusters = s.clusters := rfl
@[simp] theorem State.onDict_walk (f) : (s.onDict f).walk = s.walk := rfl
@[simp] theorem State.onDict_capo (f) : (s.onDict f).capo = s.capo := rfl
@[simp] theorem State.onDict_mem (f) : (s.onDict f).mem = s.mem := rfl
@[simp] theorem State.onDict_scene (f) : (s.onDict f).scene = s.scene := rfl
@[simp] theorem State.onDict_pub (f) : (s.onDict f).pub = s.pub := rfl
@[simp] theorem State.onDict_faults (f) : (s.onDict f).faults = s.faults := rfl
@[simp] theorem State.onDict_keep (f) : (s.onDict f).keep = s.keep := rfl
@[simp] theorem State.onDict_flash (f) : (s.onDict f).flash = s.flash := rfl
@[simp] theorem State.onDict_macsec (f) : (s.onDict f).macsec = s.macsec := rfl
@[simp] theorem State.onDict_group (f) : (s.onDict f).group = s.group := rfl
@[simp] theorem State.onDict_power (f) : (s.onDict f).power = s.power := rfl
@[simp] theorem State.onDict_passLog (f) : (s.onDict f).passLog = s.passLog := rfl
@[simp] theorem State.onDict_tx (f) : (s.onDict f).tx = s.tx := rfl

/-! ### onObs -/

@[simp] theorem State.onObs_pending (f) : (s.onObs f).pending = s.pending := rfl
@[simp] theorem State.onObs_dev (f) : (s.onObs f).dev = s.dev := rfl
@[simp] theorem State.onObs_dict (f) : (s.onObs f).dict = s.dict := rfl
@[simp] theorem State.onObs_obs (f) : (s.onObs f).obs = f s.obs := rfl
@[simp] theorem State.onObs_sites (f) : (s.onObs f).sites = s.sites := rfl
@[simp] theorem State.onObs_planes (f) : (s.onObs f).planes = s.planes := rfl
@[simp] theorem State.onObs_cores (f) : (s.onObs f).cores = s.cores := rfl
@[simp] theorem State.onObs_clusters (f) : (s.onObs f).clusters = s.clusters := rfl
@[simp] theorem State.onObs_walk (f) : (s.onObs f).walk = s.walk := rfl
@[simp] theorem State.onObs_capo (f) : (s.onObs f).capo = s.capo := rfl
@[simp] theorem State.onObs_mem (f) : (s.onObs f).mem = s.mem := rfl
@[simp] theorem State.onObs_scene (f) : (s.onObs f).scene = s.scene := rfl
@[simp] theorem State.onObs_pub (f) : (s.onObs f).pub = s.pub := rfl
@[simp] theorem State.onObs_faults (f) : (s.onObs f).faults = s.faults := rfl
@[simp] theorem State.onObs_keep (f) : (s.onObs f).keep = s.keep := rfl
@[simp] theorem State.onObs_flash (f) : (s.onObs f).flash = s.flash := rfl
@[simp] theorem State.onObs_macsec (f) : (s.onObs f).macsec = s.macsec := rfl
@[simp] theorem State.onObs_group (f) : (s.onObs f).group = s.group := rfl
@[simp] theorem State.onObs_power (f) : (s.onObs f).power = s.power := rfl
@[simp] theorem State.onObs_passLog (f) : (s.onObs f).passLog = s.passLog := rfl
@[simp] theorem State.onObs_tx (f) : (s.onObs f).tx = s.tx := rfl

/-! ### onSites -/

@[simp] theorem State.onSites_pending (f) : (s.onSites f).pending = s.pending := rfl
@[simp] theorem State.onSites_dev (f) : (s.onSites f).dev = s.dev := rfl
@[simp] theorem State.onSites_dict (f) : (s.onSites f).dict = s.dict := rfl
@[simp] theorem State.onSites_obs (f) : (s.onSites f).obs = s.obs := rfl
@[simp] theorem State.onSites_sites (f) : (s.onSites f).sites = f s.sites := rfl
@[simp] theorem State.onSites_planes (f) : (s.onSites f).planes = s.planes := rfl
@[simp] theorem State.onSites_cores (f) : (s.onSites f).cores = s.cores := rfl
@[simp] theorem State.onSites_clusters (f) : (s.onSites f).clusters = s.clusters := rfl
@[simp] theorem State.onSites_walk (f) : (s.onSites f).walk = s.walk := rfl
@[simp] theorem State.onSites_capo (f) : (s.onSites f).capo = s.capo := rfl
@[simp] theorem State.onSites_mem (f) : (s.onSites f).mem = s.mem := rfl
@[simp] theorem State.onSites_scene (f) : (s.onSites f).scene = s.scene := rfl
@[simp] theorem State.onSites_pub (f) : (s.onSites f).pub = s.pub := rfl
@[simp] theorem State.onSites_faults (f) : (s.onSites f).faults = s.faults := rfl
@[simp] theorem State.onSites_keep (f) : (s.onSites f).keep = s.keep := rfl
@[simp] theorem State.onSites_flash (f) : (s.onSites f).flash = s.flash := rfl
@[simp] theorem State.onSites_macsec (f) : (s.onSites f).macsec = s.macsec := rfl
@[simp] theorem State.onSites_group (f) : (s.onSites f).group = s.group := rfl
@[simp] theorem State.onSites_power (f) : (s.onSites f).power = s.power := rfl
@[simp] theorem State.onSites_passLog (f) : (s.onSites f).passLog = s.passLog := rfl
@[simp] theorem State.onSites_tx (f) : (s.onSites f).tx = s.tx := rfl

/-! ### onPlanes -/

@[simp] theorem State.onPlanes_pending (f) : (s.onPlanes f).pending = s.pending := rfl
@[simp] theorem State.onPlanes_dev (f) : (s.onPlanes f).dev = s.dev := rfl
@[simp] theorem State.onPlanes_dict (f) : (s.onPlanes f).dict = s.dict := rfl
@[simp] theorem State.onPlanes_obs (f) : (s.onPlanes f).obs = s.obs := rfl
@[simp] theorem State.onPlanes_sites (f) : (s.onPlanes f).sites = s.sites := rfl
@[simp] theorem State.onPlanes_planes (f) : (s.onPlanes f).planes = f s.planes := rfl
@[simp] theorem State.onPlanes_cores (f) : (s.onPlanes f).cores = s.cores := rfl
@[simp] theorem State.onPlanes_clusters (f) : (s.onPlanes f).clusters = s.clusters := rfl
@[simp] theorem State.onPlanes_walk (f) : (s.onPlanes f).walk = s.walk := rfl
@[simp] theorem State.onPlanes_capo (f) : (s.onPlanes f).capo = s.capo := rfl
@[simp] theorem State.onPlanes_mem (f) : (s.onPlanes f).mem = s.mem := rfl
@[simp] theorem State.onPlanes_scene (f) : (s.onPlanes f).scene = s.scene := rfl
@[simp] theorem State.onPlanes_pub (f) : (s.onPlanes f).pub = s.pub := rfl
@[simp] theorem State.onPlanes_faults (f) : (s.onPlanes f).faults = s.faults := rfl
@[simp] theorem State.onPlanes_keep (f) : (s.onPlanes f).keep = s.keep := rfl
@[simp] theorem State.onPlanes_flash (f) : (s.onPlanes f).flash = s.flash := rfl
@[simp] theorem State.onPlanes_macsec (f) : (s.onPlanes f).macsec = s.macsec := rfl
@[simp] theorem State.onPlanes_group (f) : (s.onPlanes f).group = s.group := rfl
@[simp] theorem State.onPlanes_power (f) : (s.onPlanes f).power = s.power := rfl
@[simp] theorem State.onPlanes_passLog (f) : (s.onPlanes f).passLog = s.passLog := rfl
@[simp] theorem State.onPlanes_tx (f) : (s.onPlanes f).tx = s.tx := rfl

/-! ### onCores -/

@[simp] theorem State.onCores_pending (f) : (s.onCores f).pending = s.pending := rfl
@[simp] theorem State.onCores_dev (f) : (s.onCores f).dev = s.dev := rfl
@[simp] theorem State.onCores_dict (f) : (s.onCores f).dict = s.dict := rfl
@[simp] theorem State.onCores_obs (f) : (s.onCores f).obs = s.obs := rfl
@[simp] theorem State.onCores_sites (f) : (s.onCores f).sites = s.sites := rfl
@[simp] theorem State.onCores_planes (f) : (s.onCores f).planes = s.planes := rfl
@[simp] theorem State.onCores_cores (f) : (s.onCores f).cores = f s.cores := rfl
@[simp] theorem State.onCores_clusters (f) : (s.onCores f).clusters = s.clusters := rfl
@[simp] theorem State.onCores_walk (f) : (s.onCores f).walk = s.walk := rfl
@[simp] theorem State.onCores_capo (f) : (s.onCores f).capo = s.capo := rfl
@[simp] theorem State.onCores_mem (f) : (s.onCores f).mem = s.mem := rfl
@[simp] theorem State.onCores_scene (f) : (s.onCores f).scene = s.scene := rfl
@[simp] theorem State.onCores_pub (f) : (s.onCores f).pub = s.pub := rfl
@[simp] theorem State.onCores_faults (f) : (s.onCores f).faults = s.faults := rfl
@[simp] theorem State.onCores_keep (f) : (s.onCores f).keep = s.keep := rfl
@[simp] theorem State.onCores_flash (f) : (s.onCores f).flash = s.flash := rfl
@[simp] theorem State.onCores_macsec (f) : (s.onCores f).macsec = s.macsec := rfl
@[simp] theorem State.onCores_group (f) : (s.onCores f).group = s.group := rfl
@[simp] theorem State.onCores_power (f) : (s.onCores f).power = s.power := rfl
@[simp] theorem State.onCores_passLog (f) : (s.onCores f).passLog = s.passLog := rfl
@[simp] theorem State.onCores_tx (f) : (s.onCores f).tx = s.tx := rfl

/-! ### onClusters -/

@[simp] theorem State.onClusters_pending (f) : (s.onClusters f).pending = s.pending := rfl
@[simp] theorem State.onClusters_dev (f) : (s.onClusters f).dev = s.dev := rfl
@[simp] theorem State.onClusters_dict (f) : (s.onClusters f).dict = s.dict := rfl
@[simp] theorem State.onClusters_obs (f) : (s.onClusters f).obs = s.obs := rfl
@[simp] theorem State.onClusters_sites (f) : (s.onClusters f).sites = s.sites := rfl
@[simp] theorem State.onClusters_planes (f) : (s.onClusters f).planes = s.planes := rfl
@[simp] theorem State.onClusters_cores (f) : (s.onClusters f).cores = s.cores := rfl
@[simp] theorem State.onClusters_clusters (f) : (s.onClusters f).clusters = f s.clusters := rfl
@[simp] theorem State.onClusters_walk (f) : (s.onClusters f).walk = s.walk := rfl
@[simp] theorem State.onClusters_capo (f) : (s.onClusters f).capo = s.capo := rfl
@[simp] theorem State.onClusters_mem (f) : (s.onClusters f).mem = s.mem := rfl
@[simp] theorem State.onClusters_scene (f) : (s.onClusters f).scene = s.scene := rfl
@[simp] theorem State.onClusters_pub (f) : (s.onClusters f).pub = s.pub := rfl
@[simp] theorem State.onClusters_faults (f) : (s.onClusters f).faults = s.faults := rfl
@[simp] theorem State.onClusters_keep (f) : (s.onClusters f).keep = s.keep := rfl
@[simp] theorem State.onClusters_flash (f) : (s.onClusters f).flash = s.flash := rfl
@[simp] theorem State.onClusters_macsec (f) : (s.onClusters f).macsec = s.macsec := rfl
@[simp] theorem State.onClusters_group (f) : (s.onClusters f).group = s.group := rfl
@[simp] theorem State.onClusters_power (f) : (s.onClusters f).power = s.power := rfl
@[simp] theorem State.onClusters_passLog (f) : (s.onClusters f).passLog = s.passLog := rfl
@[simp] theorem State.onClusters_tx (f) : (s.onClusters f).tx = s.tx := rfl

/-! ### onWalk -/

@[simp] theorem State.onWalk_pending (f) : (s.onWalk f).pending = s.pending := rfl
@[simp] theorem State.onWalk_dev (f) : (s.onWalk f).dev = s.dev := rfl
@[simp] theorem State.onWalk_dict (f) : (s.onWalk f).dict = s.dict := rfl
@[simp] theorem State.onWalk_obs (f) : (s.onWalk f).obs = s.obs := rfl
@[simp] theorem State.onWalk_sites (f) : (s.onWalk f).sites = s.sites := rfl
@[simp] theorem State.onWalk_planes (f) : (s.onWalk f).planes = s.planes := rfl
@[simp] theorem State.onWalk_cores (f) : (s.onWalk f).cores = s.cores := rfl
@[simp] theorem State.onWalk_clusters (f) : (s.onWalk f).clusters = s.clusters := rfl
@[simp] theorem State.onWalk_walk (f) : (s.onWalk f).walk = f s.walk := rfl
@[simp] theorem State.onWalk_capo (f) : (s.onWalk f).capo = s.capo := rfl
@[simp] theorem State.onWalk_mem (f) : (s.onWalk f).mem = s.mem := rfl
@[simp] theorem State.onWalk_scene (f) : (s.onWalk f).scene = s.scene := rfl
@[simp] theorem State.onWalk_pub (f) : (s.onWalk f).pub = s.pub := rfl
@[simp] theorem State.onWalk_faults (f) : (s.onWalk f).faults = s.faults := rfl
@[simp] theorem State.onWalk_keep (f) : (s.onWalk f).keep = s.keep := rfl
@[simp] theorem State.onWalk_flash (f) : (s.onWalk f).flash = s.flash := rfl
@[simp] theorem State.onWalk_macsec (f) : (s.onWalk f).macsec = s.macsec := rfl
@[simp] theorem State.onWalk_group (f) : (s.onWalk f).group = s.group := rfl
@[simp] theorem State.onWalk_power (f) : (s.onWalk f).power = s.power := rfl
@[simp] theorem State.onWalk_passLog (f) : (s.onWalk f).passLog = s.passLog := rfl
@[simp] theorem State.onWalk_tx (f) : (s.onWalk f).tx = s.tx := rfl

/-! ### onCapo -/

@[simp] theorem State.onCapo_pending (f) : (s.onCapo f).pending = s.pending := rfl
@[simp] theorem State.onCapo_dev (f) : (s.onCapo f).dev = s.dev := rfl
@[simp] theorem State.onCapo_dict (f) : (s.onCapo f).dict = s.dict := rfl
@[simp] theorem State.onCapo_obs (f) : (s.onCapo f).obs = s.obs := rfl
@[simp] theorem State.onCapo_sites (f) : (s.onCapo f).sites = s.sites := rfl
@[simp] theorem State.onCapo_planes (f) : (s.onCapo f).planes = s.planes := rfl
@[simp] theorem State.onCapo_cores (f) : (s.onCapo f).cores = s.cores := rfl
@[simp] theorem State.onCapo_clusters (f) : (s.onCapo f).clusters = s.clusters := rfl
@[simp] theorem State.onCapo_walk (f) : (s.onCapo f).walk = s.walk := rfl
@[simp] theorem State.onCapo_capo (f) : (s.onCapo f).capo = f s.capo := rfl
@[simp] theorem State.onCapo_mem (f) : (s.onCapo f).mem = s.mem := rfl
@[simp] theorem State.onCapo_scene (f) : (s.onCapo f).scene = s.scene := rfl
@[simp] theorem State.onCapo_pub (f) : (s.onCapo f).pub = s.pub := rfl
@[simp] theorem State.onCapo_faults (f) : (s.onCapo f).faults = s.faults := rfl
@[simp] theorem State.onCapo_keep (f) : (s.onCapo f).keep = s.keep := rfl
@[simp] theorem State.onCapo_flash (f) : (s.onCapo f).flash = s.flash := rfl
@[simp] theorem State.onCapo_macsec (f) : (s.onCapo f).macsec = s.macsec := rfl
@[simp] theorem State.onCapo_group (f) : (s.onCapo f).group = s.group := rfl
@[simp] theorem State.onCapo_power (f) : (s.onCapo f).power = s.power := rfl
@[simp] theorem State.onCapo_passLog (f) : (s.onCapo f).passLog = s.passLog := rfl
@[simp] theorem State.onCapo_tx (f) : (s.onCapo f).tx = s.tx := rfl

/-! ### onMem -/

@[simp] theorem State.onMem_pending (f) : (s.onMem f).pending = s.pending := rfl
@[simp] theorem State.onMem_dev (f) : (s.onMem f).dev = s.dev := rfl
@[simp] theorem State.onMem_dict (f) : (s.onMem f).dict = s.dict := rfl
@[simp] theorem State.onMem_obs (f) : (s.onMem f).obs = s.obs := rfl
@[simp] theorem State.onMem_sites (f) : (s.onMem f).sites = s.sites := rfl
@[simp] theorem State.onMem_planes (f) : (s.onMem f).planes = s.planes := rfl
@[simp] theorem State.onMem_cores (f) : (s.onMem f).cores = s.cores := rfl
@[simp] theorem State.onMem_clusters (f) : (s.onMem f).clusters = s.clusters := rfl
@[simp] theorem State.onMem_walk (f) : (s.onMem f).walk = s.walk := rfl
@[simp] theorem State.onMem_capo (f) : (s.onMem f).capo = s.capo := rfl
@[simp] theorem State.onMem_mem (f) : (s.onMem f).mem = f s.mem := rfl
@[simp] theorem State.onMem_scene (f) : (s.onMem f).scene = s.scene := rfl
@[simp] theorem State.onMem_pub (f) : (s.onMem f).pub = s.pub := rfl
@[simp] theorem State.onMem_faults (f) : (s.onMem f).faults = s.faults := rfl
@[simp] theorem State.onMem_keep (f) : (s.onMem f).keep = s.keep := rfl
@[simp] theorem State.onMem_flash (f) : (s.onMem f).flash = s.flash := rfl
@[simp] theorem State.onMem_macsec (f) : (s.onMem f).macsec = s.macsec := rfl
@[simp] theorem State.onMem_group (f) : (s.onMem f).group = s.group := rfl
@[simp] theorem State.onMem_power (f) : (s.onMem f).power = s.power := rfl
@[simp] theorem State.onMem_passLog (f) : (s.onMem f).passLog = s.passLog := rfl
@[simp] theorem State.onMem_tx (f) : (s.onMem f).tx = s.tx := rfl

/-! ### onScene -/

@[simp] theorem State.onScene_pending (f) : (s.onScene f).pending = s.pending := rfl
@[simp] theorem State.onScene_dev (f) : (s.onScene f).dev = s.dev := rfl
@[simp] theorem State.onScene_dict (f) : (s.onScene f).dict = s.dict := rfl
@[simp] theorem State.onScene_obs (f) : (s.onScene f).obs = s.obs := rfl
@[simp] theorem State.onScene_sites (f) : (s.onScene f).sites = s.sites := rfl
@[simp] theorem State.onScene_planes (f) : (s.onScene f).planes = s.planes := rfl
@[simp] theorem State.onScene_cores (f) : (s.onScene f).cores = s.cores := rfl
@[simp] theorem State.onScene_clusters (f) : (s.onScene f).clusters = s.clusters := rfl
@[simp] theorem State.onScene_walk (f) : (s.onScene f).walk = s.walk := rfl
@[simp] theorem State.onScene_capo (f) : (s.onScene f).capo = s.capo := rfl
@[simp] theorem State.onScene_mem (f) : (s.onScene f).mem = s.mem := rfl
@[simp] theorem State.onScene_scene (f) : (s.onScene f).scene = f s.scene := rfl
@[simp] theorem State.onScene_pub (f) : (s.onScene f).pub = s.pub := rfl
@[simp] theorem State.onScene_faults (f) : (s.onScene f).faults = s.faults := rfl
@[simp] theorem State.onScene_keep (f) : (s.onScene f).keep = s.keep := rfl
@[simp] theorem State.onScene_flash (f) : (s.onScene f).flash = s.flash := rfl
@[simp] theorem State.onScene_macsec (f) : (s.onScene f).macsec = s.macsec := rfl
@[simp] theorem State.onScene_group (f) : (s.onScene f).group = s.group := rfl
@[simp] theorem State.onScene_power (f) : (s.onScene f).power = s.power := rfl
@[simp] theorem State.onScene_passLog (f) : (s.onScene f).passLog = s.passLog := rfl
@[simp] theorem State.onScene_tx (f) : (s.onScene f).tx = s.tx := rfl

/-! ### onPub -/

@[simp] theorem State.onPub_pending (f) : (s.onPub f).pending = s.pending := rfl
@[simp] theorem State.onPub_dev (f) : (s.onPub f).dev = s.dev := rfl
@[simp] theorem State.onPub_dict (f) : (s.onPub f).dict = s.dict := rfl
@[simp] theorem State.onPub_obs (f) : (s.onPub f).obs = s.obs := rfl
@[simp] theorem State.onPub_sites (f) : (s.onPub f).sites = s.sites := rfl
@[simp] theorem State.onPub_planes (f) : (s.onPub f).planes = s.planes := rfl
@[simp] theorem State.onPub_cores (f) : (s.onPub f).cores = s.cores := rfl
@[simp] theorem State.onPub_clusters (f) : (s.onPub f).clusters = s.clusters := rfl
@[simp] theorem State.onPub_walk (f) : (s.onPub f).walk = s.walk := rfl
@[simp] theorem State.onPub_capo (f) : (s.onPub f).capo = s.capo := rfl
@[simp] theorem State.onPub_mem (f) : (s.onPub f).mem = s.mem := rfl
@[simp] theorem State.onPub_scene (f) : (s.onPub f).scene = s.scene := rfl
@[simp] theorem State.onPub_pub (f) : (s.onPub f).pub = f s.pub := rfl
@[simp] theorem State.onPub_faults (f) : (s.onPub f).faults = s.faults := rfl
@[simp] theorem State.onPub_keep (f) : (s.onPub f).keep = s.keep := rfl
@[simp] theorem State.onPub_flash (f) : (s.onPub f).flash = s.flash := rfl
@[simp] theorem State.onPub_macsec (f) : (s.onPub f).macsec = s.macsec := rfl
@[simp] theorem State.onPub_group (f) : (s.onPub f).group = s.group := rfl
@[simp] theorem State.onPub_power (f) : (s.onPub f).power = s.power := rfl
@[simp] theorem State.onPub_passLog (f) : (s.onPub f).passLog = s.passLog := rfl
@[simp] theorem State.onPub_tx (f) : (s.onPub f).tx = s.tx := rfl

/-! ### onFaults -/

@[simp] theorem State.onFaults_pending (f) : (s.onFaults f).pending = s.pending := rfl
@[simp] theorem State.onFaults_dev (f) : (s.onFaults f).dev = s.dev := rfl
@[simp] theorem State.onFaults_dict (f) : (s.onFaults f).dict = s.dict := rfl
@[simp] theorem State.onFaults_obs (f) : (s.onFaults f).obs = s.obs := rfl
@[simp] theorem State.onFaults_sites (f) : (s.onFaults f).sites = s.sites := rfl
@[simp] theorem State.onFaults_planes (f) : (s.onFaults f).planes = s.planes := rfl
@[simp] theorem State.onFaults_cores (f) : (s.onFaults f).cores = s.cores := rfl
@[simp] theorem State.onFaults_clusters (f) : (s.onFaults f).clusters = s.clusters := rfl
@[simp] theorem State.onFaults_walk (f) : (s.onFaults f).walk = s.walk := rfl
@[simp] theorem State.onFaults_capo (f) : (s.onFaults f).capo = s.capo := rfl
@[simp] theorem State.onFaults_mem (f) : (s.onFaults f).mem = s.mem := rfl
@[simp] theorem State.onFaults_scene (f) : (s.onFaults f).scene = s.scene := rfl
@[simp] theorem State.onFaults_pub (f) : (s.onFaults f).pub = s.pub := rfl
@[simp] theorem State.onFaults_faults (f) : (s.onFaults f).faults = f s.faults := rfl
@[simp] theorem State.onFaults_keep (f) : (s.onFaults f).keep = s.keep := rfl
@[simp] theorem State.onFaults_flash (f) : (s.onFaults f).flash = s.flash := rfl
@[simp] theorem State.onFaults_macsec (f) : (s.onFaults f).macsec = s.macsec := rfl
@[simp] theorem State.onFaults_group (f) : (s.onFaults f).group = s.group := rfl
@[simp] theorem State.onFaults_power (f) : (s.onFaults f).power = s.power := rfl
@[simp] theorem State.onFaults_passLog (f) : (s.onFaults f).passLog = s.passLog := rfl
@[simp] theorem State.onFaults_tx (f) : (s.onFaults f).tx = s.tx := rfl

/-! ### onKeep -/

@[simp] theorem State.onKeep_pending (f) : (s.onKeep f).pending = s.pending := rfl
@[simp] theorem State.onKeep_dev (f) : (s.onKeep f).dev = s.dev := rfl
@[simp] theorem State.onKeep_dict (f) : (s.onKeep f).dict = s.dict := rfl
@[simp] theorem State.onKeep_obs (f) : (s.onKeep f).obs = s.obs := rfl
@[simp] theorem State.onKeep_sites (f) : (s.onKeep f).sites = s.sites := rfl
@[simp] theorem State.onKeep_planes (f) : (s.onKeep f).planes = s.planes := rfl
@[simp] theorem State.onKeep_cores (f) : (s.onKeep f).cores = s.cores := rfl
@[simp] theorem State.onKeep_clusters (f) : (s.onKeep f).clusters = s.clusters := rfl
@[simp] theorem State.onKeep_walk (f) : (s.onKeep f).walk = s.walk := rfl
@[simp] theorem State.onKeep_capo (f) : (s.onKeep f).capo = s.capo := rfl
@[simp] theorem State.onKeep_mem (f) : (s.onKeep f).mem = s.mem := rfl
@[simp] theorem State.onKeep_scene (f) : (s.onKeep f).scene = s.scene := rfl
@[simp] theorem State.onKeep_pub (f) : (s.onKeep f).pub = s.pub := rfl
@[simp] theorem State.onKeep_faults (f) : (s.onKeep f).faults = s.faults := rfl
@[simp] theorem State.onKeep_keep (f) : (s.onKeep f).keep = f s.keep := rfl
@[simp] theorem State.onKeep_flash (f) : (s.onKeep f).flash = s.flash := rfl
@[simp] theorem State.onKeep_macsec (f) : (s.onKeep f).macsec = s.macsec := rfl
@[simp] theorem State.onKeep_group (f) : (s.onKeep f).group = s.group := rfl
@[simp] theorem State.onKeep_power (f) : (s.onKeep f).power = s.power := rfl
@[simp] theorem State.onKeep_passLog (f) : (s.onKeep f).passLog = s.passLog := rfl
@[simp] theorem State.onKeep_tx (f) : (s.onKeep f).tx = s.tx := rfl

/-! ### onFlash -/

@[simp] theorem State.onFlash_pending (f) : (s.onFlash f).pending = s.pending := rfl
@[simp] theorem State.onFlash_dev (f) : (s.onFlash f).dev = s.dev := rfl
@[simp] theorem State.onFlash_dict (f) : (s.onFlash f).dict = s.dict := rfl
@[simp] theorem State.onFlash_obs (f) : (s.onFlash f).obs = s.obs := rfl
@[simp] theorem State.onFlash_sites (f) : (s.onFlash f).sites = s.sites := rfl
@[simp] theorem State.onFlash_planes (f) : (s.onFlash f).planes = s.planes := rfl
@[simp] theorem State.onFlash_cores (f) : (s.onFlash f).cores = s.cores := rfl
@[simp] theorem State.onFlash_clusters (f) : (s.onFlash f).clusters = s.clusters := rfl
@[simp] theorem State.onFlash_walk (f) : (s.onFlash f).walk = s.walk := rfl
@[simp] theorem State.onFlash_capo (f) : (s.onFlash f).capo = s.capo := rfl
@[simp] theorem State.onFlash_mem (f) : (s.onFlash f).mem = s.mem := rfl
@[simp] theorem State.onFlash_scene (f) : (s.onFlash f).scene = s.scene := rfl
@[simp] theorem State.onFlash_pub (f) : (s.onFlash f).pub = s.pub := rfl
@[simp] theorem State.onFlash_faults (f) : (s.onFlash f).faults = s.faults := rfl
@[simp] theorem State.onFlash_keep (f) : (s.onFlash f).keep = s.keep := rfl
@[simp] theorem State.onFlash_flash (f) : (s.onFlash f).flash = f s.flash := rfl
@[simp] theorem State.onFlash_macsec (f) : (s.onFlash f).macsec = s.macsec := rfl
@[simp] theorem State.onFlash_group (f) : (s.onFlash f).group = s.group := rfl
@[simp] theorem State.onFlash_power (f) : (s.onFlash f).power = s.power := rfl
@[simp] theorem State.onFlash_passLog (f) : (s.onFlash f).passLog = s.passLog := rfl
@[simp] theorem State.onFlash_tx (f) : (s.onFlash f).tx = s.tx := rfl

/-! ### onMacsec -/

@[simp] theorem State.onMacsec_pending (f) : (s.onMacsec f).pending = s.pending := rfl
@[simp] theorem State.onMacsec_dev (f) : (s.onMacsec f).dev = s.dev := rfl
@[simp] theorem State.onMacsec_dict (f) : (s.onMacsec f).dict = s.dict := rfl
@[simp] theorem State.onMacsec_obs (f) : (s.onMacsec f).obs = s.obs := rfl
@[simp] theorem State.onMacsec_sites (f) : (s.onMacsec f).sites = s.sites := rfl
@[simp] theorem State.onMacsec_planes (f) : (s.onMacsec f).planes = s.planes := rfl
@[simp] theorem State.onMacsec_cores (f) : (s.onMacsec f).cores = s.cores := rfl
@[simp] theorem State.onMacsec_clusters (f) : (s.onMacsec f).clusters = s.clusters := rfl
@[simp] theorem State.onMacsec_walk (f) : (s.onMacsec f).walk = s.walk := rfl
@[simp] theorem State.onMacsec_capo (f) : (s.onMacsec f).capo = s.capo := rfl
@[simp] theorem State.onMacsec_mem (f) : (s.onMacsec f).mem = s.mem := rfl
@[simp] theorem State.onMacsec_scene (f) : (s.onMacsec f).scene = s.scene := rfl
@[simp] theorem State.onMacsec_pub (f) : (s.onMacsec f).pub = s.pub := rfl
@[simp] theorem State.onMacsec_faults (f) : (s.onMacsec f).faults = s.faults := rfl
@[simp] theorem State.onMacsec_keep (f) : (s.onMacsec f).keep = s.keep := rfl
@[simp] theorem State.onMacsec_flash (f) : (s.onMacsec f).flash = s.flash := rfl
@[simp] theorem State.onMacsec_macsec (f) : (s.onMacsec f).macsec = f s.macsec := rfl
@[simp] theorem State.onMacsec_group (f) : (s.onMacsec f).group = s.group := rfl
@[simp] theorem State.onMacsec_power (f) : (s.onMacsec f).power = s.power := rfl
@[simp] theorem State.onMacsec_passLog (f) : (s.onMacsec f).passLog = s.passLog := rfl
@[simp] theorem State.onMacsec_tx (f) : (s.onMacsec f).tx = s.tx := rfl

/-! ### onGroup -/

@[simp] theorem State.onGroup_pending (f) : (s.onGroup f).pending = s.pending := rfl
@[simp] theorem State.onGroup_dev (f) : (s.onGroup f).dev = s.dev := rfl
@[simp] theorem State.onGroup_dict (f) : (s.onGroup f).dict = s.dict := rfl
@[simp] theorem State.onGroup_obs (f) : (s.onGroup f).obs = s.obs := rfl
@[simp] theorem State.onGroup_sites (f) : (s.onGroup f).sites = s.sites := rfl
@[simp] theorem State.onGroup_planes (f) : (s.onGroup f).planes = s.planes := rfl
@[simp] theorem State.onGroup_cores (f) : (s.onGroup f).cores = s.cores := rfl
@[simp] theorem State.onGroup_clusters (f) : (s.onGroup f).clusters = s.clusters := rfl
@[simp] theorem State.onGroup_walk (f) : (s.onGroup f).walk = s.walk := rfl
@[simp] theorem State.onGroup_capo (f) : (s.onGroup f).capo = s.capo := rfl
@[simp] theorem State.onGroup_mem (f) : (s.onGroup f).mem = s.mem := rfl
@[simp] theorem State.onGroup_scene (f) : (s.onGroup f).scene = s.scene := rfl
@[simp] theorem State.onGroup_pub (f) : (s.onGroup f).pub = s.pub := rfl
@[simp] theorem State.onGroup_faults (f) : (s.onGroup f).faults = s.faults := rfl
@[simp] theorem State.onGroup_keep (f) : (s.onGroup f).keep = s.keep := rfl
@[simp] theorem State.onGroup_flash (f) : (s.onGroup f).flash = s.flash := rfl
@[simp] theorem State.onGroup_macsec (f) : (s.onGroup f).macsec = s.macsec := rfl
@[simp] theorem State.onGroup_group (f) : (s.onGroup f).group = f s.group := rfl
@[simp] theorem State.onGroup_power (f) : (s.onGroup f).power = s.power := rfl
@[simp] theorem State.onGroup_passLog (f) : (s.onGroup f).passLog = s.passLog := rfl
@[simp] theorem State.onGroup_tx (f) : (s.onGroup f).tx = s.tx := rfl

/-! ### onPower -/

@[simp] theorem State.onPower_pending (f) : (s.onPower f).pending = s.pending := rfl
@[simp] theorem State.onPower_dev (f) : (s.onPower f).dev = s.dev := rfl
@[simp] theorem State.onPower_dict (f) : (s.onPower f).dict = s.dict := rfl
@[simp] theorem State.onPower_obs (f) : (s.onPower f).obs = s.obs := rfl
@[simp] theorem State.onPower_sites (f) : (s.onPower f).sites = s.sites := rfl
@[simp] theorem State.onPower_planes (f) : (s.onPower f).planes = s.planes := rfl
@[simp] theorem State.onPower_cores (f) : (s.onPower f).cores = s.cores := rfl
@[simp] theorem State.onPower_clusters (f) : (s.onPower f).clusters = s.clusters := rfl
@[simp] theorem State.onPower_walk (f) : (s.onPower f).walk = s.walk := rfl
@[simp] theorem State.onPower_capo (f) : (s.onPower f).capo = s.capo := rfl
@[simp] theorem State.onPower_mem (f) : (s.onPower f).mem = s.mem := rfl
@[simp] theorem State.onPower_scene (f) : (s.onPower f).scene = s.scene := rfl
@[simp] theorem State.onPower_pub (f) : (s.onPower f).pub = s.pub := rfl
@[simp] theorem State.onPower_faults (f) : (s.onPower f).faults = s.faults := rfl
@[simp] theorem State.onPower_keep (f) : (s.onPower f).keep = s.keep := rfl
@[simp] theorem State.onPower_flash (f) : (s.onPower f).flash = s.flash := rfl
@[simp] theorem State.onPower_macsec (f) : (s.onPower f).macsec = s.macsec := rfl
@[simp] theorem State.onPower_group (f) : (s.onPower f).group = s.group := rfl
@[simp] theorem State.onPower_power (f) : (s.onPower f).power = f s.power := rfl
@[simp] theorem State.onPower_passLog (f) : (s.onPower f).passLog = s.passLog := rfl
@[simp] theorem State.onPower_tx (f) : (s.onPower f).tx = s.tx := rfl

/-! ### onPassLog -/

@[simp] theorem State.onPassLog_pending (f) : (s.onPassLog f).pending = s.pending := rfl
@[simp] theorem State.onPassLog_dev (f) : (s.onPassLog f).dev = s.dev := rfl
@[simp] theorem State.onPassLog_dict (f) : (s.onPassLog f).dict = s.dict := rfl
@[simp] theorem State.onPassLog_obs (f) : (s.onPassLog f).obs = s.obs := rfl
@[simp] theorem State.onPassLog_sites (f) : (s.onPassLog f).sites = s.sites := rfl
@[simp] theorem State.onPassLog_planes (f) : (s.onPassLog f).planes = s.planes := rfl
@[simp] theorem State.onPassLog_cores (f) : (s.onPassLog f).cores = s.cores := rfl
@[simp] theorem State.onPassLog_clusters (f) : (s.onPassLog f).clusters = s.clusters := rfl
@[simp] theorem State.onPassLog_walk (f) : (s.onPassLog f).walk = s.walk := rfl
@[simp] theorem State.onPassLog_capo (f) : (s.onPassLog f).capo = s.capo := rfl
@[simp] theorem State.onPassLog_mem (f) : (s.onPassLog f).mem = s.mem := rfl
@[simp] theorem State.onPassLog_scene (f) : (s.onPassLog f).scene = s.scene := rfl
@[simp] theorem State.onPassLog_pub (f) : (s.onPassLog f).pub = s.pub := rfl
@[simp] theorem State.onPassLog_faults (f) : (s.onPassLog f).faults = s.faults := rfl
@[simp] theorem State.onPassLog_keep (f) : (s.onPassLog f).keep = s.keep := rfl
@[simp] theorem State.onPassLog_flash (f) : (s.onPassLog f).flash = s.flash := rfl
@[simp] theorem State.onPassLog_macsec (f) : (s.onPassLog f).macsec = s.macsec := rfl
@[simp] theorem State.onPassLog_group (f) : (s.onPassLog f).group = s.group := rfl
@[simp] theorem State.onPassLog_power (f) : (s.onPassLog f).power = s.power := rfl
@[simp] theorem State.onPassLog_passLog (f) : (s.onPassLog f).passLog = f s.passLog := rfl
@[simp] theorem State.onPassLog_tx (f) : (s.onPassLog f).tx = s.tx := rfl

/-! ### onTx -/

@[simp] theorem State.onTx_pending (f) : (s.onTx f).pending = s.pending := rfl
@[simp] theorem State.onTx_dev (f) : (s.onTx f).dev = s.dev := rfl
@[simp] theorem State.onTx_dict (f) : (s.onTx f).dict = s.dict := rfl
@[simp] theorem State.onTx_obs (f) : (s.onTx f).obs = s.obs := rfl
@[simp] theorem State.onTx_sites (f) : (s.onTx f).sites = s.sites := rfl
@[simp] theorem State.onTx_planes (f) : (s.onTx f).planes = s.planes := rfl
@[simp] theorem State.onTx_cores (f) : (s.onTx f).cores = s.cores := rfl
@[simp] theorem State.onTx_clusters (f) : (s.onTx f).clusters = s.clusters := rfl
@[simp] theorem State.onTx_walk (f) : (s.onTx f).walk = s.walk := rfl
@[simp] theorem State.onTx_capo (f) : (s.onTx f).capo = s.capo := rfl
@[simp] theorem State.onTx_mem (f) : (s.onTx f).mem = s.mem := rfl
@[simp] theorem State.onTx_scene (f) : (s.onTx f).scene = s.scene := rfl
@[simp] theorem State.onTx_pub (f) : (s.onTx f).pub = s.pub := rfl
@[simp] theorem State.onTx_faults (f) : (s.onTx f).faults = s.faults := rfl
@[simp] theorem State.onTx_keep (f) : (s.onTx f).keep = s.keep := rfl
@[simp] theorem State.onTx_flash (f) : (s.onTx f).flash = s.flash := rfl
@[simp] theorem State.onTx_macsec (f) : (s.onTx f).macsec = s.macsec := rfl
@[simp] theorem State.onTx_group (f) : (s.onTx f).group = s.group := rfl
@[simp] theorem State.onTx_power (f) : (s.onTx f).power = s.power := rfl
@[simp] theorem State.onTx_passLog (f) : (s.onTx f).passLog = s.passLog := rfl
@[simp] theorem State.onTx_tx (f) : (s.onTx f).tx = f s.tx := rfl

/-! ### Updates of one unit -/

@[simp] theorem State.onSite_pending (n f) : (s.onSite n f).pending = s.pending := rfl
@[simp] theorem State.onSite_dev (n f) : (s.onSite n f).dev = s.dev := rfl
@[simp] theorem State.onSite_dict (n f) : (s.onSite n f).dict = s.dict := rfl
@[simp] theorem State.onSite_obs (n f) : (s.onSite n f).obs = s.obs := rfl
@[simp] theorem State.onSite_planes (n f) : (s.onSite n f).planes = s.planes := rfl
@[simp] theorem State.onSite_cores (n f) : (s.onSite n f).cores = s.cores := rfl
@[simp] theorem State.onSite_clusters (n f) : (s.onSite n f).clusters = s.clusters := rfl
@[simp] theorem State.onSite_walk (n f) : (s.onSite n f).walk = s.walk := rfl
@[simp] theorem State.onSite_capo (n f) : (s.onSite n f).capo = s.capo := rfl
@[simp] theorem State.onSite_mem (n f) : (s.onSite n f).mem = s.mem := rfl
@[simp] theorem State.onSite_scene (n f) : (s.onSite n f).scene = s.scene := rfl
@[simp] theorem State.onSite_pub (n f) : (s.onSite n f).pub = s.pub := rfl
@[simp] theorem State.onSite_faults (n f) : (s.onSite n f).faults = s.faults := rfl
@[simp] theorem State.onSite_keep (n f) : (s.onSite n f).keep = s.keep := rfl
@[simp] theorem State.onSite_flash (n f) : (s.onSite n f).flash = s.flash := rfl
@[simp] theorem State.onSite_macsec (n f) : (s.onSite n f).macsec = s.macsec := rfl
@[simp] theorem State.onSite_group (n f) : (s.onSite n f).group = s.group := rfl
@[simp] theorem State.onSite_power (n f) : (s.onSite n f).power = s.power := rfl
@[simp] theorem State.onSite_passLog (n f) : (s.onSite n f).passLog = s.passLog := rfl
@[simp] theorem State.onSite_tx (n f) : (s.onSite n f).tx = s.tx := rfl

@[simp] theorem State.onPlane_pending (n f) : (s.onPlane n f).pending = s.pending := rfl
@[simp] theorem State.onPlane_dev (n f) : (s.onPlane n f).dev = s.dev := rfl
@[simp] theorem State.onPlane_dict (n f) : (s.onPlane n f).dict = s.dict := rfl
@[simp] theorem State.onPlane_obs (n f) : (s.onPlane n f).obs = s.obs := rfl
@[simp] theorem State.onPlane_sites (n f) : (s.onPlane n f).sites = s.sites := rfl
@[simp] theorem State.onPlane_cores (n f) : (s.onPlane n f).cores = s.cores := rfl
@[simp] theorem State.onPlane_clusters (n f) : (s.onPlane n f).clusters = s.clusters := rfl
@[simp] theorem State.onPlane_walk (n f) : (s.onPlane n f).walk = s.walk := rfl
@[simp] theorem State.onPlane_capo (n f) : (s.onPlane n f).capo = s.capo := rfl
@[simp] theorem State.onPlane_mem (n f) : (s.onPlane n f).mem = s.mem := rfl
@[simp] theorem State.onPlane_scene (n f) : (s.onPlane n f).scene = s.scene := rfl
@[simp] theorem State.onPlane_pub (n f) : (s.onPlane n f).pub = s.pub := rfl
@[simp] theorem State.onPlane_faults (n f) : (s.onPlane n f).faults = s.faults := rfl
@[simp] theorem State.onPlane_keep (n f) : (s.onPlane n f).keep = s.keep := rfl
@[simp] theorem State.onPlane_flash (n f) : (s.onPlane n f).flash = s.flash := rfl
@[simp] theorem State.onPlane_macsec (n f) : (s.onPlane n f).macsec = s.macsec := rfl
@[simp] theorem State.onPlane_group (n f) : (s.onPlane n f).group = s.group := rfl
@[simp] theorem State.onPlane_power (n f) : (s.onPlane n f).power = s.power := rfl
@[simp] theorem State.onPlane_passLog (n f) : (s.onPlane n f).passLog = s.passLog := rfl
@[simp] theorem State.onPlane_tx (n f) : (s.onPlane n f).tx = s.tx := rfl

@[simp] theorem State.onCore_pending (n f) : (s.onCore n f).pending = s.pending := rfl
@[simp] theorem State.onCore_dev (n f) : (s.onCore n f).dev = s.dev := rfl
@[simp] theorem State.onCore_dict (n f) : (s.onCore n f).dict = s.dict := rfl
@[simp] theorem State.onCore_obs (n f) : (s.onCore n f).obs = s.obs := rfl
@[simp] theorem State.onCore_sites (n f) : (s.onCore n f).sites = s.sites := rfl
@[simp] theorem State.onCore_planes (n f) : (s.onCore n f).planes = s.planes := rfl
@[simp] theorem State.onCore_clusters (n f) : (s.onCore n f).clusters = s.clusters := rfl
@[simp] theorem State.onCore_walk (n f) : (s.onCore n f).walk = s.walk := rfl
@[simp] theorem State.onCore_capo (n f) : (s.onCore n f).capo = s.capo := rfl
@[simp] theorem State.onCore_mem (n f) : (s.onCore n f).mem = s.mem := rfl
@[simp] theorem State.onCore_scene (n f) : (s.onCore n f).scene = s.scene := rfl
@[simp] theorem State.onCore_pub (n f) : (s.onCore n f).pub = s.pub := rfl
@[simp] theorem State.onCore_faults (n f) : (s.onCore n f).faults = s.faults := rfl
@[simp] theorem State.onCore_keep (n f) : (s.onCore n f).keep = s.keep := rfl
@[simp] theorem State.onCore_flash (n f) : (s.onCore n f).flash = s.flash := rfl
@[simp] theorem State.onCore_macsec (n f) : (s.onCore n f).macsec = s.macsec := rfl
@[simp] theorem State.onCore_group (n f) : (s.onCore n f).group = s.group := rfl
@[simp] theorem State.onCore_power (n f) : (s.onCore n f).power = s.power := rfl
@[simp] theorem State.onCore_passLog (n f) : (s.onCore n f).passLog = s.passLog := rfl
@[simp] theorem State.onCore_tx (n f) : (s.onCore n f).tx = s.tx := rfl

@[simp] theorem State.onCluster_pending (n f) : (s.onCluster n f).pending = s.pending := rfl
@[simp] theorem State.onCluster_dev (n f) : (s.onCluster n f).dev = s.dev := rfl
@[simp] theorem State.onCluster_dict (n f) : (s.onCluster n f).dict = s.dict := rfl
@[simp] theorem State.onCluster_obs (n f) : (s.onCluster n f).obs = s.obs := rfl
@[simp] theorem State.onCluster_sites (n f) : (s.onCluster n f).sites = s.sites := rfl
@[simp] theorem State.onCluster_planes (n f) : (s.onCluster n f).planes = s.planes := rfl
@[simp] theorem State.onCluster_cores (n f) : (s.onCluster n f).cores = s.cores := rfl
@[simp] theorem State.onCluster_walk (n f) : (s.onCluster n f).walk = s.walk := rfl
@[simp] theorem State.onCluster_capo (n f) : (s.onCluster n f).capo = s.capo := rfl
@[simp] theorem State.onCluster_mem (n f) : (s.onCluster n f).mem = s.mem := rfl
@[simp] theorem State.onCluster_scene (n f) : (s.onCluster n f).scene = s.scene := rfl
@[simp] theorem State.onCluster_pub (n f) : (s.onCluster n f).pub = s.pub := rfl
@[simp] theorem State.onCluster_faults (n f) : (s.onCluster n f).faults = s.faults := rfl
@[simp] theorem State.onCluster_keep (n f) : (s.onCluster n f).keep = s.keep := rfl
@[simp] theorem State.onCluster_flash (n f) : (s.onCluster n f).flash = s.flash := rfl
@[simp] theorem State.onCluster_macsec (n f) : (s.onCluster n f).macsec = s.macsec := rfl
@[simp] theorem State.onCluster_group (n f) : (s.onCluster n f).group = s.group := rfl
@[simp] theorem State.onCluster_power (n f) : (s.onCluster n f).power = s.power := rfl
@[simp] theorem State.onCluster_passLog (n f) : (s.onCluster n f).passLog = s.passLog := rfl
@[simp] theorem State.onCluster_tx (n f) : (s.onCluster n f).tx = s.tx := rfl

@[simp] theorem State.onPort_pending (n f) : (s.onPort n f).pending = s.pending := rfl
@[simp] theorem State.onPort_dev (n f) : (s.onPort n f).dev = s.dev := rfl
@[simp] theorem State.onPort_dict (n f) : (s.onPort n f).dict = s.dict := rfl
@[simp] theorem State.onPort_obs (n f) : (s.onPort n f).obs = s.obs := rfl
@[simp] theorem State.onPort_sites (n f) : (s.onPort n f).sites = s.sites := rfl
@[simp] theorem State.onPort_planes (n f) : (s.onPort n f).planes = s.planes := rfl
@[simp] theorem State.onPort_cores (n f) : (s.onPort n f).cores = s.cores := rfl
@[simp] theorem State.onPort_clusters (n f) : (s.onPort n f).clusters = s.clusters := rfl
@[simp] theorem State.onPort_walk (n f) : (s.onPort n f).walk = s.walk := rfl
@[simp] theorem State.onPort_capo (n f) : (s.onPort n f).capo = s.capo := rfl
@[simp] theorem State.onPort_mem (n f) : (s.onPort n f).mem = s.mem := rfl
@[simp] theorem State.onPort_scene (n f) : (s.onPort n f).scene = s.scene := rfl
@[simp] theorem State.onPort_pub (n f) : (s.onPort n f).pub = s.pub := rfl
@[simp] theorem State.onPort_faults (n f) : (s.onPort n f).faults = s.faults := rfl
@[simp] theorem State.onPort_keep (n f) : (s.onPort n f).keep = s.keep := rfl
@[simp] theorem State.onPort_flash (n f) : (s.onPort n f).flash = s.flash := rfl
@[simp] theorem State.onPort_macsec (n f) : (s.onPort n f).macsec = s.macsec := rfl
@[simp] theorem State.onPort_power (n f) : (s.onPort n f).power = s.power := rfl
@[simp] theorem State.onPort_passLog (n f) : (s.onPort n f).passLog = s.passLog := rfl
@[simp] theorem State.onPort_tx (n f) : (s.onPort n f).tx = s.tx := rfl

@[simp] theorem State.onPeer_pending (n f) : (s.onPeer n f).pending = s.pending := rfl
@[simp] theorem State.onPeer_dev (n f) : (s.onPeer n f).dev = s.dev := rfl
@[simp] theorem State.onPeer_dict (n f) : (s.onPeer n f).dict = s.dict := rfl
@[simp] theorem State.onPeer_obs (n f) : (s.onPeer n f).obs = s.obs := rfl
@[simp] theorem State.onPeer_sites (n f) : (s.onPeer n f).sites = s.sites := rfl
@[simp] theorem State.onPeer_planes (n f) : (s.onPeer n f).planes = s.planes := rfl
@[simp] theorem State.onPeer_cores (n f) : (s.onPeer n f).cores = s.cores := rfl
@[simp] theorem State.onPeer_clusters (n f) : (s.onPeer n f).clusters = s.clusters := rfl
@[simp] theorem State.onPeer_walk (n f) : (s.onPeer n f).walk = s.walk := rfl
@[simp] theorem State.onPeer_capo (n f) : (s.onPeer n f).capo = s.capo := rfl
@[simp] theorem State.onPeer_mem (n f) : (s.onPeer n f).mem = s.mem := rfl
@[simp] theorem State.onPeer_scene (n f) : (s.onPeer n f).scene = s.scene := rfl
@[simp] theorem State.onPeer_pub (n f) : (s.onPeer n f).pub = s.pub := rfl
@[simp] theorem State.onPeer_faults (n f) : (s.onPeer n f).faults = s.faults := rfl
@[simp] theorem State.onPeer_keep (n f) : (s.onPeer n f).keep = s.keep := rfl
@[simp] theorem State.onPeer_flash (n f) : (s.onPeer n f).flash = s.flash := rfl
@[simp] theorem State.onPeer_macsec (n f) : (s.onPeer n f).macsec = s.macsec := rfl
@[simp] theorem State.onPeer_power (n f) : (s.onPeer n f).power = s.power := rfl
@[simp] theorem State.onPeer_passLog (n f) : (s.onPeer n f).passLog = s.passLog := rfl
@[simp] theorem State.onPeer_tx (n f) : (s.onPeer n f).tx = s.tx := rfl

@[simp] theorem State.send_pending (m : Tx) : (s.send m).pending = s.pending := rfl
@[simp] theorem State.send_dev (m : Tx) : (s.send m).dev = s.dev := rfl
@[simp] theorem State.send_dict (m : Tx) : (s.send m).dict = s.dict := rfl
@[simp] theorem State.send_obs (m : Tx) : (s.send m).obs = s.obs := rfl
@[simp] theorem State.send_sites (m : Tx) : (s.send m).sites = s.sites := rfl
@[simp] theorem State.send_planes (m : Tx) : (s.send m).planes = s.planes := rfl
@[simp] theorem State.send_cores (m : Tx) : (s.send m).cores = s.cores := rfl
@[simp] theorem State.send_clusters (m : Tx) : (s.send m).clusters = s.clusters := rfl
@[simp] theorem State.send_walk (m : Tx) : (s.send m).walk = s.walk := rfl
@[simp] theorem State.send_capo (m : Tx) : (s.send m).capo = s.capo := rfl
@[simp] theorem State.send_mem (m : Tx) : (s.send m).mem = s.mem := rfl
@[simp] theorem State.send_scene (m : Tx) : (s.send m).scene = s.scene := rfl
@[simp] theorem State.send_pub (m : Tx) : (s.send m).pub = s.pub := rfl
@[simp] theorem State.send_faults (m : Tx) : (s.send m).faults = s.faults := rfl
@[simp] theorem State.send_keep (m : Tx) : (s.send m).keep = s.keep := rfl
@[simp] theorem State.send_flash (m : Tx) : (s.send m).flash = s.flash := rfl
@[simp] theorem State.send_macsec (m : Tx) : (s.send m).macsec = s.macsec := rfl
@[simp] theorem State.send_group (m : Tx) : (s.send m).group = s.group := rfl
@[simp] theorem State.send_power (m : Tx) : (s.send m).power = s.power := rfl
@[simp] theorem State.send_passLog (m : Tx) : (s.send m).passLog = s.passLog := rfl

end Sys2Proof.Machine
end

