-- ==== Sys2Proof/Laws/Frames.lean ====
section
/-!
SUPPORT. Frames: how they compose, and what each shared operation may change. A proof about a command chains these and opens no
operation.
-/

namespace Sys2Proof.Machine

/-! ### Composition -/

theorem changesOnly_refl (l : List Part) (s : State) : changesOnly l s s := fun p _ => by cases p <;> rfl

theorem Part.same_trans (p : Part) (s t u : State) (h : p.same s t) (k : p.same t u) : p.same s u := by
  cases p <;> exact Eq.trans k h

theorem changesOnly_trans (l : List Part) (s t u : State) (h : changesOnly l s t) (k : changesOnly l t u) : changesOnly l s u :=
  fun p hp => p.same_trans s t u (h p hp) (k p hp)

theorem changesOnly_mono (l m : List Part) (s t : State) (h : changesOnly l s t) (hl : ∀ p, p ∈ l → p ∈ m) : changesOnly m s t :=
  fun p hp => h p fun h' => hp (hl p h')

theorem changesOnly_foldl {α : Type} (l : List Part) (f : State → α → State) (h : ∀ s x, changesOnly l s (f s x)) (xs : List α)
    (s : State) : changesOnly l s (xs.foldl f s) := by
  induction xs generalizing s with
  | nil => exact changesOnly_refl l s
  | cons x xs ih => exact changesOnly_trans l s (f s x) _ (h s x) (ih (f s x))

theorem changesOnly_ite (l : List Part) (s a b : State) (c : Prop) [Decidable c] (h : changesOnly l s a) (k : changesOnly l s b) :
    changesOnly l s (if c then a else b) := by
  split
  · exact h
  · exact k

/-- A part that a command leaves alone is as it was. -/
theorem changesOnly_same (l : List Part) (s t : State) (h : changesOnly l s t) (p : Part) (hp : p ∉ l) : p.same s t := h p hp

/-! ### Updates of one part -/

section
variable (s : State)

theorem onDev_frame (f) : changesOnly [.dev] s (s.onDev f) := fun p hp => by cases p <;> first | rfl | exact absurd (by decide) hp
theorem onDict_frame (f) : changesOnly [.dict] s (s.onDict f) := fun p hp => by cases p <;> first | rfl | exact absurd (by decide) hp
theorem onObs_frame (f) : changesOnly [.obs] s (s.onObs f) := fun p hp => by cases p <;> first | rfl | exact absurd (by decide) hp
theorem onSites_frame (f) : changesOnly [.sites] s (s.onSites f) := fun p hp => by cases p <;> first | rfl | exact absurd (by decide) hp
theorem onPlanes_frame (f) : changesOnly [.planes] s (s.onPlanes f) := fun p hp => by cases p <;> first | rfl | exact absurd (by decide) hp
theorem onCores_frame (f) : changesOnly [.cores] s (s.onCores f) := fun p hp => by cases p <;> first | rfl | exact absurd (by decide) hp
theorem onClusters_frame (f) : changesOnly [.clusters] s (s.onClusters f) :=
  fun p hp => by cases p <;> first | rfl | exact absurd (by decide) hp
theorem onWalk_frame (f) : changesOnly [.walk] s (s.onWalk f) := fun p hp => by cases p <;> first | rfl | exact absurd (by decide) hp
theorem onCapo_frame (f) : changesOnly [.capo] s (s.onCapo f) := fun p hp => by cases p <;> first | rfl | exact absurd (by decide) hp
theorem onMem_frame (f) : changesOnly [.mem] s (s.onMem f) := fun p hp => by cases p <;> first | rfl | exact absurd (by decide) hp
theorem onScene_frame (f) : changesOnly [.scene] s (s.onScene f) := fun p hp => by cases p <;> first | rfl | exact absurd (by decide) hp
theorem onPub_frame (f) : changesOnly [.pub] s (s.onPub f) := fun p hp => by cases p <;> first | rfl | exact absurd (by decide) hp
theorem onFaults_frame (f) : changesOnly [.faults] s (s.onFaults f) := fun p hp => by cases p <;> first | rfl | exact absurd (by decide) hp
theorem onKeep_frame (f) : changesOnly [.keep] s (s.onKeep f) := fun p hp => by cases p <;> first | rfl | exact absurd (by decide) hp
theorem onFlash_frame (f) : changesOnly [.flash] s (s.onFlash f) := fun p hp => by cases p <;> first | rfl | exact absurd (by decide) hp
theorem onMacsec_frame (f) : changesOnly [.macsec] s (s.onMacsec f) := fun p hp => by cases p <;> first | rfl | exact absurd (by decide) hp
theorem onGroup_frame (f) : changesOnly [.group] s (s.onGroup f) := fun p hp => by cases p <;> first | rfl | exact absurd (by decide) hp
theorem onPower_frame (f) : changesOnly [.power] s (s.onPower f) := fun p hp => by cases p <;> first | rfl | exact absurd (by decide) hp
theorem onPassLog_frame (f) : changesOnly [.passLog] s (s.onPassLog f) := fun p hp => by cases p <;> first | rfl | exact absurd (by decide) hp
theorem onTx_frame (f) : changesOnly [.tx] s (s.onTx f) := fun p hp => by cases p <;> first | rfl | exact absurd (by decide) hp

/-! ### Units, counters, answers, appends -/

theorem send_frame (t : Tx) : changesOnly [.tx] s (s.send t) := onTx_frame s _
theorem onSite_frame (n : Nat) (f) : changesOnly [.sites] s (s.onSite n f) := onSites_frame s _
theorem onPlane_frame (n : Nat) (f) : changesOnly [.planes] s (s.onPlane n f) := onPlanes_frame s _
theorem onCore_frame (n : Nat) (f) : changesOnly [.cores] s (s.onCore n f) := onCores_frame s _
theorem onCluster_frame (n : Nat) (f) : changesOnly [.clusters] s (s.onCluster n f) := onClusters_frame s _
theorem onPort_frame (n : Nat) (f) : changesOnly [.group] s (s.onPort n f) := onGroup_frame s _
theorem onPeer_frame (n : Nat) (f) : changesOnly [.group] s (s.onPeer n f) := onGroup_frame s _
theorem useFree_frame : changesOnly [.dev] s s.useFree := onDev_frame s _
theorem countEvent_frame (cl code n : Nat) : changesOnly [.obs] s (s.countEvent cl code n) := onObs_frame s _

theorem countEngine_frame (site k n : Nat) : changesOnly [.obs] s (s.countEngine site k n) := by
  unfold State.countEngine
  exact changesOnly_ite _ _ _ _ _ (changesOnly_refl _ s) (changesOnly_trans _ _ _ _ (onObs_frame s _) (onObs_frame _ _))

theorem countCore_frame (core k n : Nat) : changesOnly [.obs] s (s.countCore core k n) :=
  changesOnly_trans _ _ _ _ (onObs_frame s _) (countEvent_frame _ _ _ _)

theorem countLink_frame (port k n : Nat) : changesOnly [.obs] s (s.countLink port k n) := onObs_frame s _
theorem countProto_frame (ep k : Nat) : changesOnly [.obs] s (s.countProto ep k) := onObs_frame s _
theorem countMacsec_frame (mac k : Nat) : changesOnly [.obs] s (s.countMacsec mac k) := onObs_frame s _
theorem countImport_frame (k n : Nat) : changesOnly [.obs] s (s.countImport k n) := onObs_frame s _

theorem onCheck_frame (u : UnitId) (f) : changesOnly [.sites, .cores, .clusters] s (s.onCheck u f) := by
  cases u
  case site n => exact changesOnly_mono _ _ _ _ (onSite_frame s n _) (by decide)
  case core n => exact changesOnly_mono _ _ _ _ (onCore_frame s n _) (by decide)
  case array n => exact changesOnly_mono _ _ _ _ (onCluster_frame s n _) (by decide)
  case shared n => exact changesOnly_mono _ _ _ _ (onCluster_frame s n _) (by decide)
  all_goals exact changesOnly_refl _ s

theorem holdAnswer_frame (ep : Nat) (t : Tx) : changesOnly [.dict] s (s.holdAnswer ep t) := onDict_frame s _

theorem append_frame (cls type key : Nat) (p : Bytes) : changesOnly [.keep] s (s.append cls type key p) := onKeep_frame s _

theorem appendKept_frame (idx sub : Nat) (v : Bytes) (a : Option Nat) : changesOnly [.keep] s (s.appendKept idx sub v a) := onKeep_frame s _

theorem lifeCount_frame (n : Nat) : changesOnly [.keep] s (s.lifeCount n) := onKeep_frame s _
theorem histogram_frame (n b : Nat) : changesOnly [.keep] s (s.histogram n b) := onKeep_frame s _

theorem snapshot_frame : changesOnly [.keep] s s.snapshot :=
  changesOnly_trans _ _ _ _ (onKeep_frame s _) (append_frame _ _ _ _ _)

/-! ### Frames of a MAC, fault records and answers -/

theorem takePn_frame (mac key : Nat) (sa : Sa) : changesOnly [.macsec, .obs, .keep] s (s.takePn mac key sa) := by
  unfold State.takePn
  extract_lets pn s1
  have h : changesOnly [.macsec, .obs, .keep] s s1 := changesOnly_trans _ _ _ _ (changesOnly_mono _ _ _ _ (onMacsec_frame s _) (by decide))
    (changesOnly_mono _ _ _ _ (countMacsec_frame _ mac 0) (by decide))
  exact changesOnly_ite _ _ _ _ _ (changesOnly_trans _ _ _ _ h (changesOnly_trans _ _ _ _
    (changesOnly_mono _ _ _ _ (onMacsec_frame _ _) (by decide)) (changesOnly_mono _ _ _ _ (append_frame _ _ _ _ _) (by decide)))) h

theorem frame_frame (mac : Nat) (t : Tx) : changesOnly [.tx, .macsec, .obs, .keep] s (s.frame mac t) := by
  unfold State.frame
  refine changesOnly_ite _ _ _ _ _ ?_ (changesOnly_mono _ _ _ _ (send_frame s t) (by decide))
  split
  · exact changesOnly_trans _ _ _ _ (changesOnly_mono _ _ _ _ (takePn_frame s _ _ _) (by decide))
      (changesOnly_mono _ _ _ _ (send_frame _ _) (by decide))
  · exact changesOnly_refl _ s

theorem exportOn_frame (macs : List Nat) (b : Bytes) : changesOnly sendParts s (s.exportOn macs b) :=
  changesOnly_foldl _ _ (fun t _ => changesOnly_ite _ _ _ _ _ (changesOnly_mono _ _ _ _ (frame_frame t _ _) (by decide))
    (changesOnly_mono _ _ _ _ (onFaults_frame t _) (by decide))) macs s

theorem exportRec_frame (r : Rec) : changesOnly sendParts s (s.exportRec r) := by
  unfold State.exportRec
  refine changesOnly_ite _ _ _ _ _ (changesOnly_ite _ _ _ _ _ ?_ ?_) (changesOnly_refl _ s)
  · exact changesOnly_trans _ _ _ _ (exportOn_frame s _ _) (changesOnly_mono _ _ _ _ (onFaults_frame _ _) (by decide))
  · exact changesOnly_mono _ _ _ _ (onFaults_frame s _) (by decide)

theorem storeRec_frame (r : Rec) : changesOnly [.faults, .keep] s (s.storeRec r) := by
  unfold State.storeRec
  refine changesOnly_ite _ _ _ _ _ ?_ (changesOnly_ite _ _ _ _ _ ?_ (changesOnly_refl _ s))
  · exact changesOnly_mono _ _ _ _ (append_frame s _ _ _ _) (by decide)
  · exact changesOnly_trans _ _ _ _ (changesOnly_mono _ _ _ _ (append_frame s _ _ _ _) (by decide))
      (changesOnly_mono _ _ _ _ (onFaults_frame _ _) (by decide))

theorem writeRec_frame (r : Rec) : changesOnly recordParts s (s.writeRec r) := by
  unfold State.writeRec
  exact changesOnly_trans _ _ _ _ (changesOnly_trans _ _ _ _ (changesOnly_trans _ _ _ _
    (changesOnly_mono _ _ _ _ (onFaults_frame s _) (by decide)) (changesOnly_mono _ _ _ _ (histogram_frame _ _ _) (by decide)))
    (exportRec_frame _ _)) (changesOnly_mono _ _ _ _ (storeRec_frame _ _) (by decide))

theorem warnPn_frame (mac : Nat) : changesOnly recordParts s (s.warnPn mac) := by
  unfold State.warnPn
  have told (t : State) (f) (r : Rec) : changesOnly recordParts t ((t.onMacsec f).writeRec r) :=
    changesOnly_trans _ _ _ _ (changesOnly_mono _ _ _ _ (onMacsec_frame t f) (by decide)) (writeRec_frame _ r)
  extract_lets near s1
  have h : changesOnly recordParts s s1 := changesOnly_ite _ _ _ _ _ (told s _ _) (changesOnly_refl _ s)
  exact changesOnly_ite _ _ _ _ _ (changesOnly_trans _ _ _ _ h (told s1 _ _)) h

theorem warnPns_frame : changesOnly recordParts s s.warnPns := changesOnly_foldl _ _ (fun t m => warnPn_frame t m) _ s

/-- Writing a record changes the records, what the keep store is asked to hold, and what is sent (R302 to R305; 14 R435). -/
theorem record_frame (r : Rec) : changesOnly recordParts s (s.record r) :=
  changesOnly_trans _ _ _ _ (writeRec_frame s r) (warnPns_frame _)

theorem sendAnswer_frame (ep : Nat) (t : Tx) : changesOnly sendParts s (s.sendAnswer ep t) := by
  unfold State.sendAnswer
  refine changesOnly_ite _ _ _ _ _ (changesOnly_mono _ _ _ _ (send_frame s t) (by decide)) (changesOnly_ite _ _ _ _ _ ?_ (changesOnly_refl _ s))
  exact changesOnly_trans _ _ _ _ (changesOnly_mono _ _ _ _ (frame_frame s _ _) (by decide)) (warnPns_frame _)

theorem deliver_frame (ep : Nat) (t : Tx) : changesOnly answerParts s (s.deliver ep t) := by
  unfold State.deliver
  exact changesOnly_ite _ _ _ _ _ (changesOnly_mono _ _ _ _ (onDict_frame s _) (by decide))
    (changesOnly_mono _ _ _ _ (sendAnswer_frame s ep t) (by decide))

theorem release_frame (no : Nat) : changesOnly answerParts s (s.release no) :=
  changesOnly_trans _ _ _ _ (changesOnly_mono _ _ _ _ (onDict_frame s _) (by decide))
    (changesOnly_foldl _ _ (fun t a => changesOnly_mono _ _ _ _ (sendAnswer_frame t _ _) (by decide)) _ _)

/-! ### What a record leaves in the list of records -/

theorem frame_recs (mac : Nat) (t : Tx) : (s.frame mac t).faults = s.faults :=
  changesOnly_same _ _ _ (frame_frame s mac t) .faults (by decide)

theorem exportOn_recs (macs : List Nat) (b : Bytes) :
    (s.exportOn macs b).faults.recs = s.faults.recs ∧ (s.exportOn macs b).faults.seq = s.faults.seq := by
  unfold State.exportOn
  induction macs generalizing s with
  | nil => exact ⟨rfl, rfl⟩
  | cons m macs ih =>
    have h := ih (if (s.canSend m && !s.pub.full.contains m) = true then s.frame m (.faultExport m b)
      else s.onFaults fun f => { f with exportDrops := f.exportDrops + 1 })
    refine ⟨h.1.trans ?_, h.2.trans ?_⟩ <;> split <;> first | rw [frame_recs] | rfl

theorem exportRec_recs (r : Rec) : (s.exportRec r).faults.recs = s.faults.recs ∧ (s.exportRec r).faults.seq = s.faults.seq := by
  unfold State.exportRec
  split
  · split
    · exact exportOn_recs s _ _
    · exact ⟨rfl, rfl⟩
  · exact ⟨rfl, rfl⟩

theorem storeRec_recs (r : Rec) : (s.storeRec r).faults.recs = s.faults.recs ∧ (s.storeRec r).faults.seq = s.faults.seq := by
  unfold State.storeRec
  split
  · exact ⟨rfl, rfl⟩
  · split <;> exact ⟨rfl, rfl⟩

/-- A record stands first, completed with the sequence number that was next; the next one is one higher. -/
theorem writeRec_recs (r : Rec) :
    (s.writeRec r).faults.recs = s.completeRec r :: s.faults.recs ∧ (s.writeRec r).faults.seq = s.faults.seq + 1 := by
  unfold State.writeRec
  exact ⟨(storeRec_recs _ _).1.trans (exportRec_recs _ _).1, (storeRec_recs _ _).2.trans (exportRec_recs _ _).2⟩

/-! ### Runs, batches and cores -/

theorem onRun_frame (b r : Nat) (f) : changesOnly [.walk] s (s.onRun b r f) := onWalk_frame s _
theorem onBatch_frame (b : Nat) (f) : changesOnly [.walk] s (s.onBatch b f) := onWalk_frame s _

theorem closeBanks_frame (b r : Nat) : changesOnly [.clusters] s (s.closeBanks b r) :=
  changesOnly_foldl _ _ (fun t _ => changesOnly_foldl _ _ (fun u _ => changesOnly_ite _ _ _ _ _ (onCluster_frame u _ _)
    (changesOnly_refl _ u)) _ t) _ s

theorem coreLearns_frame (core b r : Nat) : changesOnly [.cores] s (s.coreLearns core b r) := onCore_frame s _ _

/-! ### Memory and poison -/

theorem store_frame (a : Area) (addr : Nat) (b : Bytes) : changesOnly [.mem] s (s.store a addr b) := onMem_frame s _
theorem setPoison_frame (a : Area) (line : Nat) (p : Bool) : changesOnly [.mem] s (s.setPoison a line p) := onMem_frame s _

theorem storeLines_frame (a : Area) (addr : Nat) (b : Bytes) (p : Bool) : changesOnly [.mem] s (s.storeLines a addr b p) := by
  unfold State.storeLines
  refine changesOnly_ite _ _ _ _ _ (changesOnly_refl _ s) ?_
  exact changesOnly_trans _ _ _ _ (store_frame s _ _ _) (changesOnly_foldl _ _ (fun t _ => changesOnly_ite _ _ _ _ _
    (setPoison_frame t _ _ _) (changesOnly_ite _ _ _ _ _ (setPoison_frame t _ _ _) (changesOnly_refl _ t))) _ _)

/-! ### Messages to other devices -/

theorem emitFlit_frame (port kind cls poison dst : Nat) (plain : Bytes) :
    changesOnly [.group, .obs, .tx] s (s.emitFlit port kind cls poison dst plain) :=
  changesOnly_trans _ _ _ _ (changesOnly_trans _ _ _ _ (changesOnly_mono _ _ _ _ (onPort_frame s _ _) (by decide))
    (changesOnly_mono _ _ _ _ (send_frame _ _) (by decide))) (changesOnly_mono _ _ _ _ (countLink_frame _ _ _ _) (by decide))

theorem pumpPort_frame (n port : Nat) : changesOnly [.group, .obs, .tx] s (pumpPort n port s) := by
  induction n generalizing s with
  | zero => exact changesOnly_refl _ s
  | succ n ih =>
    unfold pumpPort
    dsimp only
    refine changesOnly_ite _ _ _ _ _ ?_ (changesOnly_refl _ s)
    split
    · exact changesOnly_trans _ _ _ _ (changesOnly_trans _ _ _ _ (changesOnly_mono _ _ _ _ (onPort_frame s _ _) (by decide))
        (emitFlit_frame _ _ _ _ _ _ _)) (ih _)
    · exact changesOnly_refl _ s

theorem queueFlits_frame (dst : Nat) (l : List Held) : changesOnly [.group, .obs, .tx] s (s.queueFlits dst l) := by
  unfold State.queueFlits
  split
  · exact changesOnly_trans _ _ _ _ (changesOnly_mono _ _ _ _ (onPort_frame s _ _) (by decide)) (pumpPort_frame _ _ _)
  · exact changesOnly_refl _ s

theorem sendMsg_frame (type dst : Nat) (fields : List Nat) (bytes data : Bytes) (poison : List Nat) :
    changesOnly [.group, .obs, .tx] s (s.sendMsg type dst fields bytes data poison) :=
  changesOnly_trans _ _ _ _ (changesOnly_mono _ _ _ _ (send_frame s _) (by decide))
    (changesOnly_foldl _ _ (fun t _ => queueFlits_frame t _ _) _ _)

theorem groupMsg_frame (type dst : Nat) (fields : List Nat) (bytes : Bytes) :
    changesOnly [.group, .obs, .tx] s (s.groupMsg type dst fields bytes) := by
  unfold State.groupMsg
  exact changesOnly_ite _ _ _ _ _ (sendMsg_frame s _ _ _ _ _ _) (changesOnly_refl _ s)

theorem saySafe_frame (cause : Nat) : changesOnly [.group, .obs, .tx] s (s.saySafe cause) := groupMsg_frame s _ _ _ _

theorem toPublisher_frame (run type : Nat) (fields : List Nat) (bytes : Bytes) :
    changesOnly [.group, .obs, .tx] s (s.toPublisher run type fields bytes) := by
  unfold State.toPublisher
  split
  · exact changesOnly_ite _ _ _ _ _ (groupMsg_frame s _ _ _ _) (changesOnly_refl _ s)
  · exact changesOnly_refl _ s

/-! ### A run that dies, a step that faults -/

theorem voidStats_frame (b r : Nat) : changesOnly [.obs] s (s.voidStats b r) := by
  unfold State.voidStats
  exact changesOnly_ite _ _ _ _ _ (onObs_frame s _) (changesOnly_refl _ s)

theorem killRun_frame (b r cause : Nat) : changesOnly [.walk, .clusters, .group, .obs, .tx] s (s.killRun b r cause) := by
  unfold State.killRun
  split
  · exact changesOnly_refl _ s
  · refine changesOnly_ite _ _ _ _ _ (changesOnly_refl _ s) (changesOnly_ite _ _ _ _ _ ?_ ?_)
    · exact changesOnly_mono _ _ _ _ (onRun_frame s _ _ _) (by decide)
    · exact changesOnly_trans _ _ _ _ (changesOnly_trans _ _ _ _ (changesOnly_trans _ _ _ _
        (changesOnly_mono _ _ _ _ (onRun_frame s _ _ _) (by decide)) (changesOnly_mono _ _ _ _ (closeBanks_frame _ _ _) (by decide)))
        (changesOnly_mono _ _ _ _ (voidStats_frame _ _ _) (by decide)))
        (changesOnly_foldl _ _ (fun t _ => changesOnly_mono _ _ _ _ (groupMsg_frame t _ _ _ _) (by decide)) _ _)

theorem runDiesHere_frame (core b r cause : Nat) :
    changesOnly [.walk, .clusters, .cores, .group, .obs, .tx] s (s.runDiesHere core b r cause) :=
  changesOnly_trans _ _ _ _ (changesOnly_mono _ _ _ _ (killRun_frame s _ _ _) (by decide))
    (changesOnly_mono _ _ _ _ (coreLearns_frame _ _ _ _) (by decide))

theorem stepFault_frame (core b r stepno : Nat) (detail : List (Nat × Detail)) :
    changesOnly ([.walk, .clusters, .cores, .group] ++ recordParts) s (s.stepFault core b r stepno detail) :=
  changesOnly_trans _ _ _ _ (changesOnly_trans _ _ _ _ (changesOnly_mono _ _ _ _ (countCore_frame s _ _ _) (by decide))
    (changesOnly_mono _ _ _ _ (runDiesHere_frame _ _ _ _ _) (by decide))) (changesOnly_mono _ _ _ _ (record_frame _ _) (by decide))

theorem poisonDeath_frame (core b r stepno : Nat) :
    changesOnly ([.walk, .clusters, .cores, .group] ++ recordParts) s (s.poisonDeath core b r stepno) :=
  changesOnly_trans _ _ _ _ (changesOnly_trans _ _ _ _ (changesOnly_mono _ _ _ _ (countEvent_frame s _ _ _) (by decide))
    (changesOnly_mono _ _ _ _ (runDiesHere_frame _ _ _ _ _) (by decide))) (changesOnly_mono _ _ _ _ (record_frame _ _) (by decide))

/-! ### SAFE and DEGRADED -/

theorem abandonWalk_frame (core : Nat) : changesOnly [.cores, .obs, .sites, .clusters] s (s.abandonWalk core) := by
  unfold State.abandonWalk
  refine changesOnly_ite _ _ _ _ _ ?_ (changesOnly_refl _ s)
  refine changesOnly_trans _ _ _ _ (changesOnly_trans _ _ _ _ (changesOnly_trans _ _ _ _
    (changesOnly_mono _ _ _ _ (onCore_frame s _ _) (by decide)) (changesOnly_mono _ _ _ _ (countEvent_frame _ _ _ _) (by decide)))
    (changesOnly_foldl _ _ (fun t _ => changesOnly_mono _ _ _ _ (onSite_frame t _ _) (by decide)) _ _))
    (changesOnly_mono _ _ _ _ (onCluster_frame _ _ _) (by decide))

theorem abandonAll_frame (l : List Nat) (f : Core → Core) :
    changesOnly safeParts s
      (l.foldl (fun t c => (t.abandonWalk c).onCore c f) s) :=
  changesOnly_foldl _ _ (fun t c => changesOnly_trans _ _ _ _ (changesOnly_mono _ _ _ _ (abandonWalk_frame t c) (by decide))
    (changesOnly_mono _ _ _ _ (onCore_frame _ _ _) (by decide))) l s

theorem missWatch_frame : changesOnly [.obs] s s.missWatch := by
  unfold State.missWatch
  exact changesOnly_ite _ _ _ _ _ (onObs_frame s _) (changesOnly_refl _ s)

theorem closeEpoch_frame (k : Nat) : changesOnly [.capo] s (s.closeEpoch k) := by
  unfold State.closeEpoch
  split
  · exact changesOnly_refl _ s
  · exact changesOnly_ite _ _ _ _ _ (onCapo_frame s _) (onCapo_frame s _)

/-- Entering SAFE leaves planes, memory, flash, settings, links' associations, the scene grid and the supplies alone (R309). -/
theorem intoSafe_frame (cause : Nat) (u : UnitId) (note : Option Rec) : changesOnly safeParts s (s.intoSafe cause u note) := by
  unfold State.intoSafe
  split
  case h_7 => exact changesOnly_refl _ s
  case h_4 | h_5 | h_6 => exact changesOnly_mono _ _ _ _ (onDev_frame s _) (by decide)
  all_goals
    extract_lets s1 s2 s3 s4 s5
    have h2 : changesOnly safeParts s s2 := changesOnly_trans _ _ s1 _ (changesOnly_mono _ _ _ _ (onDev_frame s _) (by decide)) (abandonAll_frame _ _ _)
    have h4 : changesOnly safeParts s s4 := changesOnly_trans _ _ _ _ (changesOnly_trans _ _ s3 _ (changesOnly_trans _ _ _ _ h2
      (changesOnly_mono _ _ _ _ (onWalk_frame _ _) (by decide)))
      (changesOnly_foldl _ _ (fun t _ => changesOnly_mono _ _ _ _ (closeEpoch_frame t _) (by decide)) _ _))
      (changesOnly_mono _ _ _ _ (onPub_frame _ _) (by decide))
    have h5 : changesOnly safeParts s s5 := changesOnly_trans _ _ _ _ (changesOnly_trans _ _ _ _ (changesOnly_trans _ _ _ _ h4
      (changesOnly_mono _ _ _ _ (missWatch_frame _) (by decide))) (changesOnly_mono _ _ _ _ (snapshot_frame _) (by decide)))
      (changesOnly_mono _ _ _ _ (lifeCount_frame _ _) (by decide))
    refine changesOnly_trans _ _ _ _ (changesOnly_trans _ _ s5 _ h5 ?_) (changesOnly_mono _ _ _ _ (saySafe_frame _ _) (by decide))
    split
    · exact changesOnly_mono _ _ _ _ (record_frame _ _) (by decide)
    · exact changesOnly_refl _ _

theorem enterSafe_frame (cause kind : Nat) (u : UnitId) : changesOnly safeParts s (s.enterSafe cause kind u) := intoSafe_frame s _ _ _

theorem raiseFloor_frame : changesOnly [.power] s s.raiseFloor := by
  unfold State.raiseFloor
  exact changesOnly_ite _ _ _ _ _ (changesOnly_refl _ s) (onPower_frame s _)

theorem degrade_frame :
    changesOnly (.power :: safeParts) s s.degrade := by
  unfold State.degrade
  refine changesOnly_ite _ _ _ _ _ (changesOnly_ite _ _ _ _ _ ?_ ?_) (changesOnly_refl _ s)
  · exact changesOnly_mono _ _ _ _ (enterSafe_frame s _ _ _) (by decide)
  · exact changesOnly_trans _ _ _ _ (changesOnly_trans _ _ _ _ (changesOnly_mono _ _ _ _ (onDev_frame s _) (by decide))
      (changesOnly_mono _ _ _ _ (raiseFloor_frame _) (by decide))) (changesOnly_mono _ _ _ _ (record_frame _ _) (by decide))

theorem advanceRollback_frame : changesOnly (.flash :: recordParts) s s.advanceRollback := by
  unfold State.advanceRollback
  dsimp only
  refine changesOnly_ite _ _ _ _ _ (changesOnly_ite _ _ _ _ _ ?_ ?_) (changesOnly_refl _ s) <;>
    exact changesOnly_trans _ _ _ _ (changesOnly_mono _ _ _ _ (onFlash_frame s _) (by decide))
      (changesOnly_mono _ _ _ _ (record_frame _ _) (by decide))

theorem autoStart_frame : changesOnly ([.dev, .power, .flash] ++ recordParts) s s.autoStart := by
  unfold State.autoStart
  refine changesOnly_ite _ _ _ _ _ ?_ (changesOnly_refl _ s)
  exact changesOnly_trans _ _ _ _ (changesOnly_trans _ _ _ _ (changesOnly_mono _ _ _ _ (onDev_frame s _) (by decide))
    (changesOnly_mono _ _ _ _ (raiseFloor_frame _) (by decide))) (changesOnly_mono _ _ _ _ (advanceRollback_frame _) (by decide))

/-! ### Checks -/

theorem passCheck_frame (u : UnitId) (b : Nat) : changesOnly [.sites, .cores, .clusters] s (s.passCheck u b) := onCheck_frame s _ _

theorem countWrite_frame (plane : Nat) : changesOnly writeParts s (s.countWrite plane) := by
  unfold State.countWrite
  refine changesOnly_ite _ _ _ _ _ ?_ (changesOnly_refl _ s)
  have h : ∀ f, changesOnly writeParts s (s.onPlane plane f) := fun f => changesOnly_mono _ _ _ _ (onPlane_frame s _ f) (by decide)
  exact changesOnly_ite _ _ _ _ _ (changesOnly_trans _ _ _ _ (h _) (changesOnly_mono _ _ _ _ (record_frame _ _) (by decide)))
    (changesOnly_ite _ _ _ _ _ (changesOnly_trans _ _ _ _ (h _) (changesOnly_mono _ _ _ _ (record_frame _ _) (by decide))) (h _))

theorem appendWear_frame (plane : Nat) (p : Plane) : changesOnly writeParts s (s.appendWear plane p) := by
  unfold State.appendWear
  exact changesOnly_ite _ _ _ _ _ (changesOnly_trans _ _ _ _ (changesOnly_mono _ _ _ _ (onPlane_frame s _ _) (by decide))
    (changesOnly_mono _ _ _ _ (append_frame _ _ _ _ _) (by decide))) (changesOnly_refl _ s)

theorem dropWrite_frame (plane : Nat) : changesOnly writeParts s (s.dropWrite plane) := by
  unfold State.dropWrite
  refine changesOnly_ite _ _ _ _ _ (changesOnly_refl _ s) ?_
  exact changesOnly_trans _ _ _ _ (changesOnly_trans _ _ _ _ (changesOnly_trans _ _ _ _ (changesOnly_trans _ _ _ _
    (changesOnly_mono _ _ _ _ (onPlane_frame s _ _) (by decide)) (countWrite_frame _ _))
    (changesOnly_mono _ _ _ _ (onPlane_frame _ _ _) (by decide))) (appendWear_frame _ _ _))
    (changesOnly_mono _ _ _ _ (onCapo_frame _ _) (by decide))

/-- Beginning to write a plane gives up the write that was in progress there, which counts (R190, R211). -/
theorem startWrite_frame (plane : Nat) (want : Bytes) (key fmt cls : Nat) :
    changesOnly writeParts s (s.startWrite plane want key fmt cls) :=
  changesOnly_trans _ _ _ _ (dropWrite_frame s plane) (changesOnly_mono _ _ _ _ (onPlane_frame _ _ _) (by decide))

/-! ### Requests of other members -/

theorem askMembers_frame (kind b : Nat) (answer : Option Nat) : changesOnly [.group, .obs, .tx] s (s.askMembers kind b answer) :=
  changesOnly_trans _ _ _ _ (changesOnly_mono _ _ _ _ (onGroup_frame s _) (by decide)) (groupMsg_frame _ _ _ _ _)

theorem disarmGroup_frame (kind : Nat) : changesOnly (.group :: answerParts) s (s.disarmGroup kind) := by
  unfold State.disarmGroup
  split
  · split
    · exact changesOnly_trans _ _ _ _ (changesOnly_mono _ _ _ _ (release_frame s _) (by decide))
        (changesOnly_mono _ _ _ _ (onGroup_frame _ _) (by decide))
    · exact changesOnly_mono _ _ _ _ (onGroup_frame s _) (by decide)
  · exact changesOnly_refl _ s

end

end Sys2Proof.Machine
end

