-- ==== Sys2Proof/Laws/Table.lean ====
section
/-!
SUPPORT. Sparse tables and memories: an entry that is written is read back, every other entry stays, and the canonical form is kept.
-/

namespace Sys2Proof.Machine

variable {α : Type}

/-- In a table whose keys lie above a bound, a key at or below it is unlisted. -/
theorem tget_of_tAbove (d : Nat → α) (lo k : Nat) (t : Tbl α) (h : tAbove lo t = true) (hk : k ≤ lo) : tget d t k = d k := by
  induction t with
  | nil => rfl
  | cons e t ih =>
    simp only [tAbove, Bool.and_eq_true, decide_eq_true_eq] at h
    rw [show tget d (e :: t) k = if e.1 = k then e.2 else tget d t k from rfl, if_neg (by omega)]
    exact ih h.2

theorem tAbove_weaken (lo lo' : Nat) (t : Tbl α) (h : tAbove lo t = true) (hl : lo' ≤ lo) : tAbove lo' t = true := by
  induction t with
  | nil => rfl
  | cons e t ih =>
    simp only [tAbove, Bool.and_eq_true, decide_eq_true_eq] at h ⊢
    exact ⟨by omega, ih h.2⟩

variable [DecidableEq α]

theorem tAbove_tcons (d : Nat → α) (lo k : Nat) (v : α) (t : Tbl α) (h : tAbove lo t = true) (hk : lo < k) :
    tAbove lo (tcons d k v t) = true := by
  unfold tcons
  split
  · exact h
  · simp [tAbove, h, hk]

theorem tAbove_tput (d : Nat → α) (lo k : Nat) (v : α) (t : Tbl α) (h : tAbove lo t = true) (hk : lo < k) :
    tAbove lo (tput d k v t) = true := by
  induction t with
  | nil => exact tAbove_tcons d lo k v [] rfl hk
  | cons e t ih =>
    have h' := h
    simp only [tAbove, Bool.and_eq_true, decide_eq_true_eq] at h'
    unfold tput
    split
    · exact tAbove_tcons d lo k v _ h hk
    · split
      · exact tAbove_tcons d lo k v _ h'.2 hk
      · simp [tAbove, h'.1, ih h'.2]

theorem twf_tcons (d : Nat → α) (k : Nat) (v : α) (t : Tbl α) (h : twf d t = true) (hk : tAbove k t = true) :
    twf d (tcons d k v t) = true := by
  unfold tcons
  split
  · exact h
  · rename_i hv
    simp [twf, h, hk, hv]

/-- Writing an entry keeps the canonical form. -/
theorem twf_tput (d : Nat → α) (k : Nat) (v : α) (t : Tbl α) (h : twf d t = true) : twf d (tput d k v t) = true := by
  induction t with
  | nil => exact twf_tcons d k v [] rfl rfl
  | cons e t ih =>
    have h' := h
    simp only [twf, Bool.and_eq_true, decide_eq_true_eq] at h'
    unfold tput
    split
    · rename_i hk
      refine twf_tcons d k v _ h ?_
      simp only [tAbove, Bool.and_eq_true, decide_eq_true_eq]
      exact ⟨hk, tAbove_weaken _ _ _ h'.1.1 (Nat.le_of_lt hk)⟩
    · split
      · rename_i hj
        subst hj
        exact twf_tcons d _ v _ h'.2 h'.1.1
      · rename_i h1 h2
        simp only [twf, Bool.and_eq_true, decide_eq_true_eq]
        exact ⟨⟨tAbove_tput d _ k v t h'.1.1 (by omega), h'.1.2⟩, ih h'.2⟩

theorem tget_tcons (d : Nat → α) (k j : Nat) (v : α) (t : Tbl α) (hk : tAbove k t = true) :
    tget d (tcons d k v t) j = if k = j then v else tget d t j := by
  unfold tcons
  split
  · rename_i hv
    split
    · rename_i hj
      subst hj
      rw [hv]
      exact tget_of_tAbove d k k t hk (Nat.le_refl k)
    · rfl
  · rfl

/-- In a canonical table, an entry that is written is read back, and every other entry is as it was. -/
theorem tget_tput (d : Nat → α) (k j : Nat) (v : α) (t : Tbl α) (h : twf d t = true) :
    tget d (tput d k v t) j = if k = j then v else tget d t j := by
  induction t with
  | nil => exact tget_tcons d k j v [] rfl
  | cons e t ih =>
    have h' := h
    simp only [twf, Bool.and_eq_true, decide_eq_true_eq] at h'
    unfold tput
    split
    · rename_i hk
      refine tget_tcons d k j v _ ?_
      simp only [tAbove, Bool.and_eq_true, decide_eq_true_eq]
      exact ⟨hk, tAbove_weaken _ _ _ h'.1.1 (Nat.le_of_lt hk)⟩
    · split
      · rename_i hj
        subst hj
        rw [tget_tcons d _ j v t h'.1.1]
        split
        · rfl
        · rename_i hne
          exact (if_neg hne).symm
      · rename_i h1 h2
        show (if e.1 = j then e.2 else tget d (tput d k v t) j) = _
        rw [ih h'.2]
        show _ = if k = j then v else if e.1 = j then e.2 else tget d t j
        split
        · rename_i he
          rw [if_neg (by omega)]
        · rfl

theorem tget_tmod (d : Nat → α) (k j : Nat) (f : α → α) (t : Tbl α) (h : twf d t = true) :
    tget d (tmod d k f t) j = if k = j then f (tget d t k) else tget d t j := tget_tput d k j _ t h

theorem twf_tmod (d : Nat → α) (k : Nat) (f : α → α) (t : Tbl α) (h : twf d t = true) : twf d (tmod d k f t) = true :=
  twf_tput d k _ t h

/-- Writing bytes keeps the canonical form of a memory. -/
theorem wf_mwrite (d : Nat → Byte) (a : Nat) (b : Bytes) (m : Mem) (h : Memory.wf d m = true) : Memory.wf d (mwrite d a b m) = true := by
  induction b generalizing a m with
  | nil => exact h
  | cons x b ih => exact ih (a + 1) _ (twf_tput d a x m h)

/-- A byte outside the bytes that are written is as it was. -/
theorem tget_mwrite_outside (d : Nat → Byte) (a j : Nat) (b : Bytes) (m : Mem) (h : Memory.wf d m = true) (hj : j < a ∨ a + b.length ≤ j) :
    tget d (mwrite d a b m) j = tget d m j := by
  induction b generalizing a m with
  | nil => rfl
  | cons x b ih =>
    rw [List.length_cons] at hj
    show tget d (mwrite d (a + 1) b (tput d a x m)) j = _
    rw [ih (a + 1) _ (twf_tput d a x m h) (by omega), tget_tput d a j x m h, if_neg (by omega)]

/-- A byte that is written is read back. -/
theorem tget_mwrite_inside (d : Nat → Byte) (a i : Nat) (b : Bytes) (m : Mem) (h : Memory.wf d m = true) (hi : i < b.length) :
    tget d (mwrite d a b m) (a + i) = b[i] := by
  induction b generalizing a i m with
  | nil => exact absurd hi (Nat.not_lt_zero i)
  | cons x b ih =>
    show tget d (mwrite d (a + 1) b (tput d a x m)) (a + i) = _
    cases i with
    | zero => rw [tget_mwrite_outside d (a + 1) _ b _ (twf_tput d a x m h) (by omega), tget_tput d a _ x m h]; simp
    | succ i =>
      have := ih (a + 1) i _ (twf_tput d a x m h) (by simpa using hi)
      rw [show a + (i + 1) = a + 1 + i by omega, this]
      rfl

end Sys2Proof.Machine
end

