-- ==== Sys2Proof/Laws/Memory.lean ====
section
/-!
SUPPORT. Memory: every operation on it keeps its canonical form, reset has it, and a store is read back where it went and nowhere
else.
-/

namespace Sys2Proof.Machine

/-- The memory of reset is in canonical form. -/
theorem reset_memOk : State.reset.memOk = true := by decide

/-- Inserting a line keeps the poisoned lines rising. -/
theorem rising_cons (a : Nat) (l : List Nat) : State.memOk.rising (a :: l) = true ↔ (∀ b ∈ l.head?, a < b) ∧ State.memOk.rising l = true := by
  cases l with
  | nil => simp [State.memOk.rising]
  | cons b l => simp [State.memOk.rising]

theorem poisonInsert_head (k : Nat) (l : List Nat) (a : Nat) (h : ∀ b ∈ l.head?, a < b) (hk : a < k) :
    ∀ b ∈ (poisonInsert k l).head?, a < b := by
  cases l with
  | nil => simpa [poisonInsert] using hk
  | cons j l =>
    have hj : a < j := h j (by simp)
    unfold poisonInsert
    split
    · simpa using hk
    · split <;> simpa using hj

theorem rising_poisonInsert (k : Nat) (l : List Nat) (h : State.memOk.rising l = true) : State.memOk.rising (poisonInsert k l) = true := by
  induction l with
  | nil => rfl
  | cons j l ih =>
    have h' := (rising_cons j l).1 h
    unfold poisonInsert
    split
    · exact (rising_cons k (j :: l)).2 ⟨by simpa, h⟩
    · split
      · exact h
      · exact (rising_cons j _).2 ⟨poisonInsert_head k l j h'.1 (by omega), ih h'.2⟩

theorem rising_lt (a : Nat) (l : List Nat) (h : State.memOk.rising (a :: l) = true) : ∀ b ∈ l, a < b := by
  induction l generalizing a with
  | nil => simp
  | cons c l ih =>
    have h' := (rising_cons a (c :: l)).1 h
    have hc : a < c := h'.1 c (by simp)
    intro b hb
    rcases List.mem_cons.1 hb with rfl | hb
    · exact hc
    · exact Nat.lt_trans hc (ih c h'.2 b hb)

theorem rising_filter (p : Nat → Bool) (l : List Nat) (h : State.memOk.rising l = true) : State.memOk.rising (l.filter p) = true := by
  induction l with
  | nil => rfl
  | cons a l ih =>
    have h' := (rising_cons a l).1 h
    rw [List.filter_cons]
    split
    · refine (rising_cons a _).2 ⟨fun b hb => rising_lt a l h b ?_, ih h'.2⟩
      have : b ∈ l.filter p := List.mem_of_mem_head? hb
      exact (List.mem_filter.1 this).1
    · exact ih h'.2

theorem rising_parityAfter (a : Area) (addr n : Nat) (l : List Nat) (h : State.memOk.rising l = true) :
    State.memOk.rising (parityAfter a addr n l) = true := by
  unfold parityAfter
  split
  · exact h
  · exact rising_filter _ _ h

/-- A store keeps the canonical form. -/
theorem store_memOk (s : State) (a : Area) (addr : Nat) (b : Bytes) (h : s.memOk = true) : (s.store a addr b).memOk = true := by
  simp only [State.memOk, Bool.and_eq_true] at h ⊢
  obtain ⟨⟨⟨⟨⟨⟨⟨⟨⟨⟨⟨h1, h2⟩, h3⟩, h4⟩, h5⟩, h6⟩, h7⟩, h8⟩, h9⟩, h10⟩, h11⟩, h12⟩ := h
  have hp := rising_parityAfter a addr b.length s.mem.parity h12
  cases a <;>
    exact ⟨⟨⟨⟨⟨⟨⟨⟨⟨⟨⟨by first | exact h1 | exact wf_mwrite _ _ _ _ h1, by first | exact h2 | exact wf_mwrite _ _ _ _ h2⟩,
      by first | exact h3 | exact wf_mwrite _ _ _ _ h3⟩, by first | exact h4 | exact wf_mwrite _ _ _ _ h4⟩,
      by first | exact h5 | exact wf_mwrite _ _ _ _ h5⟩, by first | exact h6 | exact wf_mwrite _ _ _ _ h6⟩,
      by first | exact h7 | exact wf_mwrite _ _ _ _ h7⟩, by first | exact h8 | exact wf_mwrite _ _ _ _ h8⟩, h9⟩, h10⟩, h11⟩, hp⟩

/-- Setting or clearing a poison tag keeps it. -/
theorem setPoison_memOk (s : State) (a : Area) (line : Nat) (p : Bool) (h : s.memOk = true) : (s.setPoison a line p).memOk = true := by
  simp only [State.memOk, Bool.and_eq_true] at h ⊢
  refine ⟨⟨h.1.1, ?_⟩, h.2⟩
  cases p
  · exact rising_filter _ _ h.1.2
  · exact rising_poisonInsert _ _ h.1.2

theorem foldl_memOk {α : Type} (f : State → α → State) (hf : ∀ s x, s.memOk = true → (f s x).memOk = true) (l : List α) (s : State)
    (h : s.memOk = true) : (l.foldl f s).memOk = true := by
  induction l generalizing s with
  | nil => exact h
  | cons x l ih => exact ih _ (hf s x h)

/-- Storing lines keeps it. -/
theorem storeLines_memOk (s : State) (a : Area) (addr : Nat) (b : Bytes) (p : Bool) (h : s.memOk = true) :
    (s.storeLines a addr b p).memOk = true := by
  unfold State.storeLines
  split
  · exact h
  · refine foldl_memOk _ (fun t i ht => ?_) _ _ (store_memOk s a addr b h)
    dsimp only
    split
    · exact setPoison_memOk t _ _ _ ht
    · split
      · exact setPoison_memOk t _ _ _ ht
      · exact ht

/-- An operation that leaves memory alone keeps it. -/
theorem memOk_of_frame (l : List Part) (s t : State) (h : changesOnly l s t) (hl : Part.mem ∉ l) (hs : s.memOk = true) : t.memOk = true := by
  have : t.mem = s.mem := h .mem hl
  simpa [State.memOk, this] using hs

/-- A byte outside a store to one soundboard or SRAM of the same number reads as before; so does one of any other area. Stated for the
soundboard, whose lines steps write most. -/
theorem load_store_sb_outside (s : State) (c addr x : Nat) (b : Bytes) (h : s.memOk = true) (hx : x < addr ∨ addr + b.length ≤ x) :
    (s.store (.sb c) addr b).load (.sb c) x 1 = s.load (.sb c) x 1 := by
  simp only [State.memOk, Bool.and_eq_true] at h
  have hw := h.1.1.1.1.1.1.1.1.1.1.2
  have := tget_mwrite_outside (fun _ => 0#8) (c * 2 ^ 23 + addr) (c * 2 ^ 23 + x) b s.mem.sb hw (by omega)
  show mread _ (mwrite _ _ b s.mem.sb) _ 1 = mread _ s.mem.sb _ 1
  simp only [mread, List.range_succ, List.range_zero, List.nil_append, List.map_cons, List.map_nil, Nat.add_zero, this]

end Sys2Proof.Machine
end

