-- ==== Sys2Proof/Tests/Slice0.lean ====
section
/-!
SUPPORT. The model's own tests: for every hypothesis of an obligation a state and operands that meet all of them together
(`test_meets_<obligation>_<clause>`), an ill-formed command for every check of `Instr.wf`, and the values that the spec works
out in its examples.
-/

set_option Elab.async false
set_option linter.unusedVariables false

open Sys2Proof Sys2Proof.Machine

namespace Sys2Proof.Tests

/-! ### Small states -/

/-- A device out of reset in a given state. -/
def dev (d : DevState) : State := State.reset.onDev fun x => { x with state := d, resetHeld := false, recovered := true }

/-- An ADMIN session on MAC 0. -/
def ses : Session := ⟨1, 0, true, [], 0, false, [], 2⟩

/-- The frame or datagram of a request to this device, on every endpoint. -/
def via0 : Via := ⟨0x700, 0, 49232, [0xFE#8, 0x80#8] ++ zeros 14, [], 0, true⟩

/-- A request in that session. -/
def rq (op : Nat) : Req := ⟨2, via0, op, 1, 1, 1, true, 0, 0, false⟩

/-- A device in a given state with that session open. -/
def open_ (d : DevState) : State := (dev d).onDict fun x => { x with sessions := [ses] }

/-- An image whose manifest names nothing else. -/
def img : Image := ⟨7, 3, zeros 32, [], 1, 0, 0, 0, []⟩

/-- A device in a given state that opens batches, with an image selected. -/
def serving : State :=
  ((open_ .serving).onDev fun x => { x with batchOpening := true, bOpen := some 9 }).onCapo fun c => { c with selected := some img }

/-- A client key slot record with a role. -/
def keyRec (role : Byte) : Bytes := zeros 1984 ++ role :: zeros 63

/-- A device whose ADMIN slot 0 holds a key, with no session open. -/
def keyed : State := (dev .ready).onFlash fun f => { f with clientKeys := [(0, keyRec 2#8)], imageKeys := [(0, keyRec 2#8)] }

/-- A request outside a session. -/
def plain (op : Nat) : Req := ⟨2, via0, op, 1, 0, 0, true, 0, 0, false⟩

/-- A device in which the first segment of a write outside a session has come. -/
def firstPart (idx sub : Nat) (d : Bytes) (s : State) : State :=
  s.onDict fun x => { x with transfers := [⟨2, 0, idx, sub, true, 0, d, d, false, 0, []⟩] }

/-- A handshake whose challenge stands. -/
def shake : Handshake := ⟨2, zeros 1249, true, 0, 1, [1#8], zeros 32, []⟩

/-- A command's next state. -/
def after (c : Instr) (s : State) : State := match exec c s with | .next t => t | _ => s

theorem exec_after {c : Instr} {s : State} (h : (match exec c s with | .next _ => true | _ => false) = true) : exec c s = .next (after c s) := by
  unfold after
  cases he : exec c s <;> simp_all

theorem slice_left (a b : Bytes) (o n : Nat) (h : o + n ≤ a.length) : slice (a ++ b) o n = slice a o n := by
  unfold slice
  apply List.map_congr_left
  intro i hi
  simp only [List.mem_range] at hi
  simp only [List.getD_eq_getElem?_getD, List.getElem?_append_left (show o + i < a.length by omega)]

theorem slice_right (a b : Bytes) (o n : Nat) (h : a.length ≤ o) : slice (a ++ b) o n = slice b (o - a.length) n := by
  unfold slice
  apply List.map_congr_left
  intro i _
  simp only [List.getD_eq_getElem?_getD, List.getElem?_append_right (show a.length ≤ o + i by omega), show o + i - a.length = o - a.length + i by omega]

theorem slice_all (a : Bytes) : slice a 0 a.length = a := by
  unfold slice
  apply List.ext_getElem
  · simp
  · intro i h1 h2
    simp [List.getD_eq_getElem?_getD, List.getElem?_eq_getElem h2]

theorem keccakRound_length (a : List Nat) (rc : Nat) : (keccakRound a rc).length = 25 := by
  have h : (keccakChi (keccakRhoPi (keccakTheta a))).length = 25 := by simp [keccakChi]
  unfold keccakRound
  cases e : keccakChi (keccakRhoPi (keccakTheta a)) with
  | nil => rw [e] at h; simp at h
  | cons x l => rw [e] at h; simpa using h

theorem keccakF_length (a : List Nat) : (keccakF a).length = 25 := by
  have h : ∀ (l : List Nat) (a : List Nat), l ≠ [] → (l.foldl keccakRound a).length = 25 := by
    intro l
    induction l with
    | nil => intro a h; exact absurd rfl h
    | cons x l ih =>
      intro a _
      cases l with
      | nil => exact keccakRound_length a x
      | cons y m => exact ih _ (by simp)
  exact h _ _ (by decide)

theorem shakeAbsorb_length (n : Nat) : ∀ (m : Bytes) (a : List Nat), a.length = 25 → (shakeAbsorb n m a).length = 25 := by
  induction n with
  | zero => intro m a h; exact h
  | succ k ih => intro m a _; exact ih _ _ (keccakF_length _)

theorem leBytes_length (n x : Nat) : (leBytes n x).length = n := by simp [leBytes]

theorem digest32_length (m : Bytes) : (digest32 m).length = 32 := by
  have h : ∀ l : List Nat, (l.flatMap (leBytes 8)).length = 8 * l.length := by
    intro l
    induction l with
    | nil => rfl
    | cons x l ih => simp [ih, leBytes_length]; omega
  unfold digest32 shake256
  simp only [List.length_take, h, shakeAbsorb_length _ _ _ (by simp : (List.replicate 25 (0 : Nat)).length = 25)]
  decide

theorem keyId_length (k : Bytes) : (keyId k).length = 8 := by simp [keyId, digest32_length]

/-- The bytes of a manifest before its KEYID, and those behind: one slower-tier object. -/
def manHead : Bytes := leBytes 4 0x4B574D46 ++ leBytes 4 1 ++ leBytes 4 7 ++ leBytes 4 3 ++ leBytes 4 5 ++ leBytes 4 0 ++ leBytes 4 1 ++ leBytes 4 0
def manTail : Bytes := zeros 88 ++ (leBytes 4 2 ++ leBytes 4 0 ++ leBytes 4 64 ++ zeros 36) ++ zeros 3373

/-- A manifest of one slower-tier object under the image key of `signed`. -/
def manifest1 : Bytes := manHead ++ (keyId (keyRec 1#8) ++ manTail)

/-- A serving device with an active image key. -/
def signed : State := serving.onFlash fun f => { f with imageKeys := [(0, keyRec 1#8)] }

theorem man_head (o n : Nat) (h : o + n ≤ 32) : slice manifest1 o n = slice manHead o n :=
  slice_left manHead _ o n (by have e : manHead.length = 32 := by decide +kernel
                               omega)

theorem man_tail (o n : Nat) (h : 40 ≤ o) : slice manifest1 o n = slice manTail (o - 40) n := by
  have e : manHead.length = 32 := by decide +kernel
  unfold manifest1
  rw [slice_right _ _ _ _ (by omega), slice_right _ _ _ _ (by rw [keyId_length, e]; omega), keyId_length, e]
  congr 1

theorem man_key : slice manifest1 32 8 = keyId (keyRec 1#8) := by
  have e : manHead.length = 32 := by decide +kernel
  unfold manifest1
  rw [slice_right _ _ _ _ (by omega), e, slice_left _ _ _ _ (by rw [keyId_length] <;> omega)]
  have h := slice_all (keyId (keyRec 1#8))
  rwa [keyId_length] at h

theorem man_length : manifest1.length = manifestLen 1 := by
  have e : manHead.length = 32 := by decide +kernel
  have f : manTail.length = 3509 := by decide +kernel
  unfold manifest1
  rw [List.length_append, List.length_append, keyId_length, e, f]
  decide

theorem imageKey_found (s : State) (k : Bytes) (h : s.flash.imageKeys = [(0, k)]) (h1 : k.getD 1984 0#8 = 1#8) :
    (s.imageKey? (keyId k)).isNone = false := by
  unfold State.imageKey?
  rw [h]
  simp only [List.find?_cons, h1, beq_self_eq_true, Bool.and_self]
  rfl

theorem man_fault : signed.manifestFault manifest1 true true = none := by
  have hk : (signed.imageKey? (keyId (keyRec 1#8))).isNone = false := imageKey_found signed _ rfl (by decide +kernel)
  have hp : (parseManifest manifest1).keyid = keyId (keyRec 1#8) := man_key
  have hn : bits (num manifest1 0x18 4) 13 0 = 1 := by rw [num, man_head _ _ (by omega)]; decide +kernel
  have hf : manifestFieldsOk manifest1 = true := by
    unfold manifestFieldsOk
    have hn' : bits (leNat (slice manHead 24 4)) 13 0 = 1 := by decide +kernel
    simp only [num, man_head 0 4 (by omega), man_head 4 4 (by omega), man_head 0x10 4 (by omega), man_head 0x16 2 (by omega), man_head 0x18 4 (by omega),
      man_tail 0x48 56 (by omega), man_length, hn', List.range_one, List.all_cons, List.all_nil, man_tail (128 + 48 * 0) 48 (by omega)]
    decide +kernel
  have he : (parseManifest manifest1).entries = [parseEntry (slice manTail 88 48)] := by
    unfold parseManifest
    simp only [hn, man_tail (128 + 48 * 0) 48 (by omega), List.range_succ, List.range_zero, List.nil_append, List.map_cons, List.map_nil]
  have hh : ∀ o, o + 4 ≤ 32 → num manifest1 o 4 = num manHead o 4 := fun o h => congrArg leNat (man_head o 4 h)
  have h1 : (parseManifest manifest1).groupsize = 1 := by show bits (num manifest1 0x10 4) 6 2 = 1; rw [hh _ (by omega)]; decide +kernel
  have h2 : (parseManifest manifest1).devno = 0 := by show bits (num manifest1 0x10 4) 11 7 = 0; rw [hh _ (by omega)]; decide +kernel
  have h3 : (parseManifest manifest1).arrange = 0 := by show num manifest1 0x1C 4 = 0; rw [hh _ (by omega)]; decide +kernel
  have h4 : (parseManifest manifest1).imgseq = 3 := by show num manifest1 0xC 4 = 3; rw [hh _ (by omega)]; decide +kernel
  unfold State.manifestFault
  simp only [hp, hk, hf, he, h1, h2, h3, h4, hh 0x10 (by omega)]
  decide +kernel

theorem objectFault_slow (i : Image) (e : Entry) (o : Bytes) (h : o.length = e.length) (d : digest32 o = e.digest) (k : e.kind ≠ 1) :
    objectFault i e o = none := by
  unfold objectFault
  simp [h, d, k]

/-- A device that stages an image of two slower-tier entries with this digest, delivered whole and held in a flash slot. -/
def slow1 (d : Bytes) : Entry := ⟨2, 0, 0, 0, 64, 5, d, false, none, none, [], 0⟩
def twoEntries (d : Bytes) (tried : List Nat) : Image := { img with entries := [slow1 d, { slow1 d with tried := tried }] }
def staging (d : Bytes) (tried : List Nat) : State :=
  ((open_ .serving).onFlash fun f => { f with images := [(0, img)] }).onCapo fun c =>
    { c with state := .staging, staged := some (twoEntries d tried), arrived := [(0, 128)], neighbours := [(3, zeros 32)] }

/-- A programme of two objects, one of them of kind 4. -/
def stagingImage (d : Bytes) : Image := { img with entries := [⟨4, 0, 0, 0, 8, 0, [], false, none, none, [], 0⟩, slow1 d] }

/-- The same without a delivery, a neighbour and a selected image: boot flash supplies the objects. -/
def stagingFlash (d : Bytes) : State := (staging d []).onCapo fun c => { c with staged := some (stagingImage d), selected := none, arrived := [], neighbours := [] }

theorem stagingFlash_entry (d : Bytes) : (stagingFlash d).entry? 1 = some (stagingImage d, slow1 d) := rfl
theorem stagingFlash_source (d : Bytes) : (stagingFlash d).sourceNow (stagingImage d) (slow1 d) = some 25 := by
  have h : (List.range 24).filter (fun _ => false) = [] := by decide
  simp [State.sourceNow, State.nextSource, State.sourcesOf, stagingFlash, staging, State.onCapo, State.onFlash, open_, dev, State.onDev, State.onDict,
    State.reset, stagingImage, slow1, img, h]
theorem slow1_digest (d : Bytes) : (slow1 d).digest = d := rfl
theorem stagingFlash_memOk (d : Bytes) : (stagingFlash d).memOk = true := rfl

/-- An opened batch. -/
def bat (n : Nat) : Batch :=
  { ordinal := n, epoch := 0, frames := [], absent := [], buf := none, inputCfg := [], imports := [], ego := some false, motion := (0, 0, 0)
    egoMsgs := [], fresh := false, warped := true, warping := false, updates := [], applied := false, fraction := 2, policy := 0, ended := []
    replayed := false, decisions := [], released := false, exported := false, temps := [] }

/-- A live run of a batch. -/
def live (n run : Nat) : RunRec := ⟨n, run, 0, false, false, [], [], [], [], none, [], [], false, 0, []⟩

/-- A serving device with batch 9 open and its run 15. -/
def inBatch : State := serving.onWalk fun w => { w with batches := [bat 9], runs := [live 9 15] }

/-- A request of an array DIG tile that is checked. -/
def tileRec (st : VerdictState) (got dup : Int) : CheckedTile :=
  ⟨4, st, none, 31, 255, 5, 9, some 15, 2#256, [[5]], [[got]], [], [[dup]], .array 30, if st = .third then some 29 else none, 65535, 3, true, false⟩
def checking (x : CheckedTile) : State := inBatch.onWalk fun w => { w with tiles := [x] }

/-- A stream record: enabled, port 15, virtual channel 15, RAW16 mosaic, 8 by 1 pixels kept whole. -/
def cam : Bytes :=
  leBytes 4 (1 + 15 * 2 + 15 * 32 + 0x2E * 512) ++ leBytes 4 (8 + 65536) ++ leBytes 4 0 ++ leBytes 4 (8 + 65536) ++ leBytes 4 (8 + 65536) ++ zeros 44
def camCfg : List (Nat × Bytes) := [(0x301001, cam), (0x303001, List.replicate 16 2#8)]
def seeing : State := inBatch.onWalk fun w => { w with intakeCfg := camCfg }
/-- A frame of stream 0 in a capture set, all its lines received. -/
def frame0 : Frame := ⟨0, 2, 7, [], false, 1, false, some (0, 7), cam, [[1, 2, 3, 4, 5, 6, 7, 8]]⟩
def set0 : CapSet := ⟨(0, 7), 2, camCfg, [0], [], true, false⟩

/-- A replaying device. -/
def replaying : State := (open_ .ready).onWalk fun w => { w with replay := true, replayBoot := 6 }

/-- A step word from its fields: byte offset, lowest bit, value. -/
def word (l : List (Nat × Nat × Nat)) : StepWord := BitVec.ofNat 256 (l.map fun e => e.2.2 * 2 ^ (8 * e.1 + e.2.1)).sum

/-- A core that walks batch 9 on a tab of one step in run 15, with a buffer of every line that the tests use. -/
def tab1 (w : StepWord) : Tab := ⟨7, 32768, false, 0, 100, 8, [], 0, false, [⟨0, false, 0, 0, 1000⟩, ⟨1, false, 0, 0, 1000⟩, ⟨6, false, 770, 0, 100⟩], [w]⟩
def walking (core : Nat) (w : StepWord) : State :=
  (inBatch.onCore core fun c => { c with seq := .walk, cur := some 9 }).onMem fun m => { m with tabs := [(core * 2, tab1 w)] }
def issue1 (w : StepWord) : Issue := ⟨9, tab1 w, w⟩
/-- Its descriptor section holds these bytes. -/
def withDesc (core : Nat) (b : Bytes) (s : State) : State := s.store (.sram core) 3200 b

def sceneW (scatter : Nat) : StepWord := word [(0, 0, 9), (0, 11, 15), (4, 0, scatter), (8, 0, 262140), (0xC, 0, 20), (0x14, 0, if scatter = 1 then 1 else 3)]
def bowW : StepWord := word [(0, 0, 1), (0, 11, 15), (4, 0, 3), (4, 8, 2), (4, 17, 2), (8, 20, 1), (0xC, 16, 3)]
def bridgeW : StepWord := word [(0, 0, 4), (0, 11, 15), (4, 0, 100), (4, 17, 1), (8, 17, 1), (8, 0, 20), (0x14, 9, 3), (0x14, 0, 2)]
def digW : StepWord := word [(0, 0, 2), (0, 11, 15), (4, 0, 100)]
def moveW (src : Nat) : StepWord := word [(0, 0, 3), (0, 11, 15), (4, 0, src), (4, 3, 1), (4, 6, if src = 6 then 770 else 0), (4, 19, if src = 6 then 0 else 1), (8, 0, 3), (0xC, 0, 20), (0x10, 0, 2)]
/-- A MOVE of two lines whose addresses take the tile register T3. -/
def dupW : StepWord := word [(0, 0, 3), (0, 8, 3), (0, 11, 15), (4, 0, 0), (4, 3, 1), (8, 0, 3), (0xC, 0, 20), (0x10, 0, 2), (0x14, 16, 1)]
def signalW : StepWord := word [(0, 0, 6), (0, 11, 15), (4, 0, 7), (4, 14, 15)]
def waitW : StepWord := word [(0, 0, 7), (0, 11, 15), (4, 0, 7), (4, 14, 15), (8, 24, 7), (8, 0, 100)]
def takeW : StepWord := word [(0, 0, 5), (0, 11, 15), (4, 0, 15), (4, 4, 3), (4, 6, 7)]
def shapeW (src : Nat) : StepWord := word [(0, 0, 8), (0, 11, 15), (4, 0, src), (4, 2, 7), (4, 5, 7), (4, 8, 2), (4, 16, 65535), (8, 0, 16)]
def probeW : StepWord := word [(0, 0, 10), (0, 11, 15), (4, 0, 3), (4, 2, 1), (4, 3, 15), (8, 0, 982)]
def droneW (slot per : Nat) : StepWord := word [(0, 0, 11), (4, 0, slot), (4, 2, 31), (4, 7, per)]
def markW (kind id : Nat) : StepWord := word [(0, 0, 12), (0, 11, 15), (4, 0, id), (4, 16, kind), (0xC, 0, 500)]
def endW : StepWord := word []

/-- A bridge descriptor: INT8 out, MANT 2^22, SHIFT 0; and a matrix descriptor of a 2 by 2 tile of one vector, and a softmax. -/
def bdesc : Bytes := leBytes 4 512 ++ leBytes 4 4194304 ++ zeros 24
def adesc (op n : Nat) : Bytes :=
  leBytes 4 op ++ leBytes 4 (2 + n * 65536) ++ leBytes 4 1 ++ leBytes 4 0 ++ leBytes 4 10 ++ leBytes 4 60 ++ leBytes 4 50 ++ leBytes 4 (101 * 65536)
def expTab : Bytes := leBytes 2 32768 ++ zeros 510

/-- Where one core's sync port alone has work, and that core's is empty, every sync port is empty. -/
theorem sync_one (s : State) (n : Nat) (c : Core) (h : s.cores = [(n, c)]) (hc : c.sync = []) (k : Nat) : (s.core k).sync = [] := by
  unfold State.core tget0
  rw [h]
  by_cases e : n = k <;> simp [tget, e, hc]


theorem map_range_const {β : Type} (n : Nat) (b : β) : (List.range n).map (fun _ => b) = List.replicate n b :=
  List.ext_getElem (by simp) fun i h1 h2 => by simp

theorem getD_replicate' {α : Type} (n i : Nat) (a d : α) : (List.replicate n a).getD i d = a ∨ (List.replicate n a).getD i d = d := by
  rw [List.getD_eq_getElem?_getD, List.getElem?_replicate]
  split <;> simp

theorem fretDrive_nil (mf : Nat → Nat) (f : Nat) : fretDrive [] mf false f = ⟨[], [], false⟩ := by
  simp [fretDrive]

theorem resultByte_nil (f c h : Nat) : resultByte [] f c h [] = 0 := by
  simp [resultByte, sensed, colCount, marginAt, overAt, reported]
  rfl

theorem idle_drives (mf : Nat → Nat) : (List.range 16).map (fretDrive [] mf false) = List.replicate 16 ⟨[], [], false⟩ := by
  rw [show fretDrive [] mf false = fun _ => ⟨[], [], false⟩ from funext (fretDrive_nil mf), map_range_const]

theorem mapIdx_replicate {α β : Type} (n : Nat) (a : α) (b : β) (g : Nat → α → β) (h : ∀ i, g i a = b) : (List.replicate n a).mapIdx g = List.replicate n b := by
  apply List.ext_getElem
  · simp
  · intro i h1 h2
    simp [h]

/-- A bow that drives no row and whose converters do nothing else: every count is 0. -/
theorem idle_bow (mf : Nat → Nat) : (runBow [] mf false []).totals = List.replicate 532 0 ∧ (runBow [] mf false []).driven = 0 ∧
    (runBow [] mf false []).margins = 0 ∧ (runBow [] mf false []).overs = 0 ∧ (runBow [] mf false []).overHalf = false ∧
    (runBow [] mf false []).misses = 0 := by
  have e0 : (List.replicate 16 (⟨[], [], false⟩ : FretDrive)).mapIdx (fun f d => (List.range 544).map fun c => resultByte [] f c 0 d.half0) =
      List.replicate 16 (List.replicate 544 0) := mapIdx_replicate _ _ _ _ fun i => by
        rw [show (fun c => resultByte [] i c 0 []) = fun _ => 0 from funext fun c => resultByte_nil i c 0, map_range_const]
  have e1 : (List.replicate 16 (⟨[], [], false⟩ : FretDrive)).mapIdx (fun f d => if d.split then (List.range 544).map fun c => resultByte [] f c 1 d.half1 else []) =
      List.replicate 16 [] := mapIdx_replicate _ _ _ _ fun i => rfl
  have g0 : ∀ f c : Nat, (((List.replicate 16 (List.replicate 544 0)).getD f []).getD c 0) = 0 := by
    intro f c
    rcases getD_replicate' 16 f (List.replicate 544 0) [] with h | h <;> rw [h]
    · rcases getD_replicate' 544 c 0 0 with h | h <;> exact h
    · rfl
  have g1 : ∀ f c : Nat, (((List.replicate 16 ([] : List Nat)).getD f []).getD c 0) = 0 := by
    intro f c
    rcases getD_replicate' 16 f ([] : List Nat) [] with h | h <;> rw [h] <;> rfl
  have b6 : bit 0 6 = false := by decide
  have b7 : bit 0 7 = false := by decide
  have hd : ∀ f : Nat, (List.replicate 16 (⟨[], [], false⟩ : FretDrive)).getD f ⟨[], [], false⟩ = ⟨[], [], false⟩ := by
    intro f
    rcases getD_replicate' 16 f (⟨[], [], false⟩ : FretDrive) ⟨[], [], false⟩ with h | h <;> exact h
  have hz : ∀ x ∈ (List.replicate 16 (List.replicate 544 0)).flatten ++ (List.replicate 16 ([] : List Nat)).flatten, x = 0 := by
    intro x hx
    rw [List.mem_append, List.mem_flatten, List.mem_flatten] at hx
    rcases hx with ⟨l, hl, hx⟩ | ⟨l, hl, hx⟩ <;> rw [List.eq_of_mem_replicate hl] at hx
    · exact List.eq_of_mem_replicate hx
    · exact absurd hx List.not_mem_nil
  have hf : ∀ k, bit 0 k = false → (((List.replicate 16 (List.replicate 544 0)).flatten ++ (List.replicate 16 ([] : List Nat)).flatten).filter fun x => bit x k) = [] := by
    intro k hk
    rw [List.filter_eq_nil_iff]
    intro x hx
    rw [hz x hx, hk]
    decide
  unfold runBow
  simp only [idle_drives, e0, e1, g0, g1, hd, hf 6 b6, hf 7 b7]
  refine ⟨?_, rfl, rfl, rfl, ?_, ?_⟩
  · exact map_range_const 532 0
  · exact Bool.and_false _
  · simp only [colCount, List.append_nil, List.filter_nil]
    decide

theorem idle_bow' {rows : List (Nat × Nat)} (h : rows = []) (mf : Nat → Nat) : (runBow rows mf false []).margins = 0 ∧
    (runBow rows mf false []).overs = 0 ∧ (runBow rows mf false []).overHalf = false ∧ (runBow rows mf false []).misses = 0 ∧
    synDecide (syndromes (runBow rows mf false []).totals).1 (syndromes (runBow rows mf false []).totals).2 (runBow rows mf false []).totals
      (runBow rows mf false []).driven = .pass := by
  subst h
  have z := idle_bow mf
  refine ⟨z.2.2.1, z.2.2.2.1, z.2.2.2.2.1, z.2.2.2.2.2, ?_⟩
  rw [z.1]
  have e : (syndromes (List.replicate 532 0)) = (0, 0) := by
    unfold syndromes
    have g : ∀ i : Nat, (List.replicate 532 0).getD i 0 = 0 := by
      intro i
      rcases getD_replicate' 532 i 0 0 with h | h <;> exact h
    have z : ∀ n : Nat, (List.replicate n 0).sum = 0 := by
      intro n
      induction n with
      | zero => rfl
      | succ k ih => rw [List.replicate_succ, List.sum_cons, ih]
    simp only [g, List.take_replicate, mapIdx_replicate _ 0 0 _ fun i => Nat.mul_zero _, z]
    decide
  rw [e]
  rfl

/-- SHA-512 of a body of one byte 0x01. -/
def bodySum : Bytes :=
  [0x7b#8, 0x54#8, 0xb6#8, 0x68#8, 0x36#8, 0xc1#8, 0xfb#8, 0xdd#8, 0x13#8, 0xd2#8, 0x44#8, 0x1d#8, 0x9e#8, 0x14#8, 0x34#8, 0xdc#8,
    0x62#8, 0xca#8, 0x67#8, 0x7f#8, 0xb6#8, 0x8f#8, 0x5f#8, 0xe6#8, 0x6a#8, 0x46#8, 0x4b#8, 0xaa#8, 0xde#8, 0xcd#8, 0xbd#8, 0x00#8,
    0x57#8, 0x6f#8, 0x8d#8, 0x6b#8, 0x5a#8, 0xc3#8, 0xbc#8, 0xc8#8, 0x08#8, 0x44#8, 0xb7#8, 0xd5#8, 0x0b#8, 0x1c#8, 0xc6#8, 0x60#8,
    0x34#8, 0x44#8, 0xbb#8, 0xe7#8, 0xcf#8, 0xcf#8, 0x8f#8, 0xc0#8, 0xaa#8, 0x1e#8, 0xe3#8, 0xc6#8, 0x36#8, 0xd9#8, 0xe3#8, 0x39#8]

/-- A firmware slot that verifies: version and security version v, a body of one byte. -/
def fw (v : Nat) : FwSlot :=
  ⟨leBytes 4 0x4B46574D ++ leBytes 4 1 ++ leBytes 4 v ++ leBytes 4 1 ++ leBytes 8 v ++ zeros 8 ++ bodySum ++ zeros 160 ++
    leBytes 4 0x4B524354 ++ leBytes 4 0x20001 ++ zeros 5477 ++ zeros 3475 ++ [1#8], true, true, true⟩

/-- A ready device with two firmware slots, ACTIVE 0, and what the last delivery gave. -/
def updating (d : Option Bool) (next : Bool) : State :=
  (open_ .ready).onFlash fun f => { f with slots := [fw 5, fw 6], delivered := d, activateNext := next }

/-- A member of a 4 by 2 torus, device 0 of members 0, 1 and 3, whose ports 0 and 1 lead to members 1 and 3. -/
def upPort : Port := { state := .up, credits := [64, 64, 64, 60] }
def member (leader : Nat) : State :=
  inBatch.onGroup fun g =>
    { g with
      arrange := 274, members := [0, 1, 3], leader := leader, ports := [(0, upPort), (1, upPort)], windows := [⟨15, 5, 255, 100, 20⟩]
      depends := [(15, 1)] }

/-- The same with another state of port 0. -/
def withPort (p : Port) : State := (member 0).onPort 0 fun _ => p

/-- A flit for this device. -/
def flit0 : Flit := ⟨1, false, 0, 2, 0, 5, 3, 4, 0, true, true, true, zeros 256⟩

theorem find_digest (o : Bytes) : [(0, o)].find? (fun e : Nat × Bytes => digest32 e.2 == digest32 o) = some (0, o) := by
  simp

/-- A device at reset whose new firmware has used up its three attempts. -/
def abandoning : State :=
  State.reset.onFlash fun f => { f with rootFuse := digest32 [], dirs := [dirBytes 1 0 true 3 0, []] }
theorem abandoning_slot :
    (Flash.factory [fw 5, fw 6] abandoning.flash).slots[if (abandoning.flash.trial && decide (3 ≤ abandoning.flash.attempts)) = true then
      1 - abandoning.flash.active else abandoning.flash.active]? = some (fw 6) := by
  rw [if_pos (by decide +kernel), show abandoning.flash.active = 0 by decide +kernel]
  rfl

/-! Searches of a sweep in which every converter gives the same. -/

theorem searchRaw_common (x : Search) (h : x.own = []) (w c : Nat) : searchRaw x w c = searchRaw x w 0 := by
  simp [searchRaw, searchEdges, h]

theorem insertSorted_replicate (n a : Nat) : insertSorted a (List.replicate n a) = List.replicate (n + 1) a := by
  cases n <;> simp [insertSorted, List.replicate_succ]

theorem lowerMedian_const (l : List Nat) (f : Nat → Nat) (a : Nat) (h : ∀ n, f n = a) (hl : l ≠ []) : lowerMedian (l.map f) = a := by
  have e : (l.map f).foldr insertSorted [] = List.replicate l.length a := by
    clear hl
    induction l with
    | nil => rfl
    | cons x l ih => rw [List.map_cons, List.foldr_cons, ih, h, insertSorted_replicate]; rfl
  unfold lowerMedian
  rw [e, List.getD_eq_getElem?_getD, List.getElem?_replicate]
  have : 0 < l.length := List.length_pos_iff.2 hl
  simp only [List.length_map]
  rw [if_pos (by omega)]
  rfl

theorem searchOk_common (x : Search) (h : x.own = []) (w : Nat) (a : edge w x.common0 ≠ 0 ∧ edge w x.common0 ≠ 2 ^ w - 1)
    (b : edge w x.common1 ≠ 0 ∧ edge w x.common1 ≠ 2 ^ w - 1) : searchOk x w = true := by
  simp [searchOk, searchEdges, h, a.1, a.2, b.1, b.2]

/-- Every first step of a search reads high, no later one. -/
def sweepMid : Sweep := ⟨⟨[64], [64], []⟩, ⟨[64], [64], []⟩, ⟨[64], [64], []⟩⟩

theorem sweepMid_ok : sweepOk sweepMid = true := by
  simp [sweepOk, searchOk_common, sweepMid, show edge 8 [64] = 128 by decide, show edge 6 [64] = 32 by decide]

theorem sweepMid_raws : driveRaw sweepMid = 128 ∧ (∀ i, gainRaw sweepMid i = 128) ∧ ∀ i, offRaw sweepMid i = 32 := by
  have h8 : ∀ c, searchRaw ⟨[64], [64], []⟩ 8 c = 128 := fun c => (searchRaw_common _ rfl 8 c).trans (by decide)
  have h6 : ∀ c, searchRaw ⟨[64], [64], []⟩ 6 c = 32 := fun c => (searchRaw_common _ rfl 6 c).trans (by decide)
  have r : ∀ n, 0 < n → List.range n ≠ [] := fun n h e => by simp at e; omega
  exact ⟨lowerMedian_const _ _ _ h8 (r _ (by omega)), fun i => lowerMedian_const _ _ _ (fun k => h8 _) (r _ (by omega)), h6⟩

theorem passAccepts_mid (r : PassResult) (h : refFailsOf r = []) (h1 : r.sweep1 = sweepMid) (h2 : r.sweep2 = sweepMid) (hl : levelOk r = true) :
    passAccepts r = true := by
  unfold passAccepts
  rw [h, h1, h2, hl, sweepMid_ok, sweepMid_raws.1]
  simp [sweepMid_raws, agrees]

/-- Where DRAM lacks a plane's shard the plane itself stands for it. -/
theorem kEng_stands (s : State) (h : s.planes = []) (n side d : Nat) : s.kEngSite n side d [] = s.kEngExact n side d := by
  have p : s.planeShard (2 * n + side) = none := by
    unfold State.planeShard State.keyShard State.plane tget0
    rw [h]
    rfl
  unfold State.kEngExact
  rw [p]

/-- A serving device whose selected image has one entry of a kind. -/
def oneEntry (k : Nat) : Image := { img with entries := [⟨k, 7, 0, 0, 64, 0, zeros 32, true, none, none, [], 0⟩] }
def holding (k : Nat) : State := serving.onCapo fun c => { c with selected := some (oneEntry k) }

/-- A core that walks batch 9 on a tab of 2,304 steps, its tab buffer at the first block, with a soundboard copy at line 0 or without. -/
def longTab (tc : Bool) : Tab := { tab1 0 with tcen := tc, steps := List.replicate 2304 0 }
def longWalk (tc : Bool) : State :=
  (inBatch.onCore 255 fun c => { c with seq := .walk, cur := some 9 }).onMem fun m => { m with tabs := [(510, longTab tc)] }

/-! Messages with their tag. -/

theorem gcmTagOf_length (k n a d : Bytes) : (gcmTagOf 16 k n a d).length = 16 := by
  simp only [gcmTagOf, padTo, zeros, List.length_take, List.length_append, List.length_replicate]
  omega

theorem slice_tag (h k n a d : Bytes) (o : Nat) (e : h.length = o) : slice (h ++ gcmTagOf 16 k n a d) o 16 = gcmTagOf 16 k n a d := by
  have t := slice_all (gcmTagOf 16 k n a d)
  rw [gcmTagOf_length] at t
  rw [slice_right _ _ _ _ (by omega), e, Nat.sub_self, t]

/-- An ego-motion message of sequence number 5 at the limits of its three numbers, without its tag and with it. -/
def egoHead : Bytes := leBytes 2 0x4B45 ++ leBytes 2 (65536 - 1280) ++ leBytes 2 64 ++ leBytes 2 (65536 - 64) ++ leBytes 8 5
def egoData : Bytes :=
  egoHead ++ gcmTagOf 16 (zeros 32) ((digest32 ([69#8, 71#8, 79#8] ++ leBytes 4 0 ++ leBytes 8 5)).take 12) (egoHead ++ leBytes 4 0) []

theorem egoData_num (o n : Nat) (h : o + n ≤ 16) : num egoData o n = num egoHead o n :=
  congrArg leNat (slice_left egoHead _ o n (by have e : egoHead.length = 16 := by decide
                                               omega))

theorem egoData_length : egoData.length = 32 := by
  simp only [egoData, List.length_append, gcmTagOf_length]
  decide

theorem egoData_tag (s : State) (h : s.dev.bootCount = 0) (k : s.pubCfg 0x3200 6 (zeros 32) = zeros 32) : s.egoTagOk egoData = true := by
  have e : egoHead.length = 16 := by decide
  have a : slice egoData 8 8 = leBytes 8 5 := (slice_left egoHead _ 8 8 (by omega)).trans (by decide)
  have b : egoData.take 16 = egoHead := by rw [← e]; exact List.take_left
  unfold State.egoTagOk
  rw [h, k, a, b]
  simp only [egoData, slice_tag egoHead _ _ _ _ 16 e, beq_self_eq_true]

/-- The first 24 bytes of an import datagram of stream 7 with two elements, its payload, and its tag. -/
def importHead : Bytes :=
  leBytes 4 0x4B52494D ++ [7#8, 8#8, 0#8, 0#8] ++ leBytes 8 3 ++ leBytes 4 0 ++ leBytes 2 4 ++ leBytes 2 0 ++ [0#8, 60#8, 0#8, 188#8]
def importTag : Bytes :=
  gcmTagOf 16 (zeros 32) ((digest32 (73#8 :: leBytes 1 7 ++ leBytes 4 0 ++ leBytes 8 3 ++ leBytes 4 0)).take 12) (importHead ++ leBytes 4 0) []
def importData : Bytes := importHead ++ importTag
/-- The same with another tag. -/
def importForged : Bytes := importHead ++ importTag.map (· + 1#8)

theorem importTag_length : importTag.length = 16 := gcmTagOf_length _ _ _ _
theorem import_slice (t : Bytes) (o n : Nat) (h : o + n ≤ 28) : slice (importHead ++ t) o n = slice importHead o n :=
  slice_left importHead _ o n (by have e : importHead.length = 28 := by decide
                                  omega)
theorem import_num (t : Bytes) (o n : Nat) (h : o + n ≤ 28) : num (importHead ++ t) o n = num importHead o n := congrArg leNat (import_slice t o n h)
theorem import_length : importData.length = 44 := by simp only [importData, List.length_append, importTag_length]; decide

theorem import_tag (s : State) (t : Bytes) (l : t.length = 16) (h : s.dev.bootCount = 0) (k : s.settingBytes 0x3067 2 (zeros 32) = zeros 32) :
    s.importTagOk 7 4 (importHead ++ t) = (t == importTag) := by
  have e : importHead.length = 28 := by decide
  have u : (importHead ++ t).take 28 = importHead := by rw [← e]; exact List.take_left
  have v : slice (importHead ++ t) 28 16 = t := by
    have x := slice_all t
    rw [l] at x
    rw [slice_right _ _ _ _ (by omega), e, Nat.sub_self, x]
  unfold State.importTagOk
  rw [show 0x3060 + 7 = 0x3067 from rfl, k, h, import_slice t 8 8 (by omega), import_slice t 16 4 (by omega), show 24 + 4 = 28 from rfl, u, v]
  rfl

theorem byte_next : ∀ x : BitVec 8, x + 1#8 ≠ x := by decide

theorem importTag_other : (importTag.map (· + 1#8) == importTag) = false := by
  have h := importTag_length
  cases e : importTag with
  | nil => rw [e] at h; simp at h
  | cons x l =>
    simp [byte_next x]

theorem test_meets_StepRunsTheFrontCommand_1 : ∃ (s : State) (c : Instr) (l : List Instr),
    s.pending = c :: l := by
  refine ⟨{ State.reset with pending := [.pfailLow] }, .pfailLow, [], ?_⟩
  repeat' apply And.intro
  all_goals decide +kernel

theorem test_meets_StepRunsTheFrontCommand_2 : ∃ (s : State),
    s.pending = [] := by
  refine ⟨State.reset, ?_⟩
  repeat' apply And.intro
  all_goals decide +kernel

theorem test_meets_StrapsAreSampledAtResetRelease_2 : ∃ (s : State) (straps : Nat) (testEn railsOk crystalOk flashOk : Bool) (rootKeys : Bytes) (slots : List FwSlot),
    s.dev.resetHeld = true := by
  refine ⟨State.reset, 9, false, true, true, true, zeros 1984, [], ?_⟩
  repeat' apply And.intro
  all_goals decide +kernel

theorem test_meets_WindowWritesAreCounted_1_million : ∃ (s : State) (j : PageJob),
    s.keep.page = some j ∧
    let n := tget0 0 s.keep.writeCounts j.page
    n + 1 = 1000000 := by
  refine ⟨State.reset.onKeep fun k => { k with page := some ⟨3, [(0, 1#8)], none⟩, writeCounts := [(3, 999999)] }, ⟨3, [(0, 1#8)], none⟩, ?_⟩
  repeat' apply And.intro
  all_goals decide +kernel

theorem test_meets_WindowWritesAreCounted_1_saturates : ∃ (s : State) (j : PageJob),
    s.keep.page = some j ∧
    let n := tget0 0 s.keep.writeCounts j.page
    n + 1 ≠ 1000000 := by
  refine ⟨State.reset.onKeep fun k => { k with page := some ⟨1023, [(63, 1#8)], none⟩, writeCounts := [(1023, 0xFFFFFFFF)] }, ⟨1023, [(63, 1#8)], none⟩, ?_⟩
  repeat' apply And.intro
  all_goals decide +kernel

theorem test_meets_StateCommandsMoveTheDevice_1 : ∃ (s : State) (r : Req) (x : Session),
    s.writes r x 0x2000 2 [1#8] ∧
    s.dev.draining = false ∧
    s.dev.stopping = false ∧
    (s.dev.state = .ready ∨ (s.dev.state = .degraded ∧ s.dev.batchOpening = false)) ∧
    s.capo.selected.isSome = true ∧
    s.dev.noImage = false ∧
    s.group.formed = true ∧
    s.dev.debug = false := by
  refine ⟨(open_ .ready).onCapo fun c => { c with selected := some img }, rq 2, ses, ?_⟩
  repeat' apply And.intro
  all_goals decide +kernel

theorem test_meets_StateCommandsMoveTheDevice_1_degraded : ∃ (s : State) (r : Req) (x : Session),
    s.writes r x 0x2000 2 [1#8] ∧
    s.dev.draining = false ∧
    s.dev.stopping = false ∧
    (s.dev.state = .ready ∨ (s.dev.state = .degraded ∧ s.dev.batchOpening = false)) ∧
    s.capo.selected.isSome = true ∧
    s.dev.noImage = false ∧
    s.group.formed = true ∧
    s.dev.debug = false ∧
    s.dev.state = .degraded := by
  refine ⟨((open_ .degraded).onCapo fun c => { c with selected := some img }), rq 2, ses, ?_⟩
  repeat' apply And.intro
  all_goals decide +kernel

theorem test_meets_StateCommandsMoveTheDevice_2 : ∃ (s : State) (r : Req) (x : Session),
    s.writes r x 0x2000 2 [2#8] ∧
    s.dev.stopping = false ∧
    (s.dev.state = .serving ∨ (s.dev.state = .degraded ∧ s.dev.batchOpening = true)) := by
  refine ⟨serving, rq 2, ses, ?_⟩
  repeat' apply And.intro
  all_goals decide +kernel

theorem test_meets_StateCommandsMoveTheDevice_3 : ∃ (s : State) (r : Req) (x : Session),
    s.writes r x 0x2000 2 [3#8] ∧
    s.dev.stopping = false ∧
    (s.dev.state = .ready ∨ s.dev.state = .serving ∨ s.dev.state = .degraded ∨ s.dev.state = .safe) := by
  refine ⟨open_ .safe, rq 2, ses, ?_⟩
  repeat' apply And.intro
  all_goals decide +kernel

theorem test_meets_StateCommandsMoveTheDevice_4 : ∃ (s : State) (r : Req) (x : Session),
    s.writes r x 0x2000 2 [4#8] ∧
    s.dev.state = .safe ∧
    s.dev.stopping = false ∧
    s.dev.safeNLow = false ∧
    s.dev.safeCauses.all s.causeCleared = true ∧
    s.degradedCondition = false := by
  refine ⟨(open_ .safe).onDev fun x => { x with safeCauses := [5] }, rq 2, ses, ?_⟩
  repeat' apply And.intro
  all_goals decide +kernel

theorem test_meets_StateCommandsMoveTheDevice_5 : ∃ (s : State) (r : Req) (x : Session),
    s.writes r x 0x2000 2 [5#8] ∧
    s.dev.stopping = false ∧
    (s.dev.state = .ready ∨ s.dev.state = .serving ∨ s.dev.state = .degraded) := by
  refine ⟨serving, rq 2, ses, ?_⟩
  repeat' apply And.intro
  all_goals decide +kernel

theorem test_meets_StopsAndDumps_1 : ∃ (s : State) (core : Nat),
    core < 256 ∧
    s.frozen = false ∧
    s.coreActive core = true ∧
    (s.core core).seq = .walk ∧
    (s.core core).droneLive = none ∧
    (s.dev.state = .serving ∨ s.dev.state = .degraded) := by
  refine ⟨serving.onCore 255 fun c => { c with seq := .walk }, 255, ?_⟩
  repeat' apply And.intro
  all_goals decide +kernel

theorem test_meets_StopsAndDumps_2 : ∃ (s : State) (u : UnitId),
    s.dev.stopping = true := by
  refine ⟨serving.onDev fun x => { x with stopping := true }, .core 3, ?_⟩
  repeat' apply And.intro
  all_goals decide +kernel

theorem test_meets_StopsAndDumps_3 : ∃ (s : State),
    s.dev.stopping = true := by
  refine ⟨serving.onDev fun x => { x with stopping := true }, ?_⟩
  repeat' apply And.intro
  all_goals decide +kernel

theorem test_meets_StopsAndDumps_4 : ∃ (s : State) (r : Req) (x : Session),
    s.writes r x 0x7100 0xC [1#8] ∧
    s.dev.state = .ready ∧
    s.dev.drained = true := by
  refine ⟨(open_ .ready).onDev fun x => { x with drained := true }, rq 2, ses, ?_⟩
  repeat' apply And.intro
  all_goals decide +kernel

theorem test_meets_StopsAndDumps_5 : ∃ (s : State),
    s.dev.draining = true ∧
    s.frozen = false ∧
    s.drainedOut = true ∧
    s.dev.drainReset = false := by
  refine ⟨serving.onDev fun x => { x with draining := true, batchOpening := false }, ?_⟩
  repeat' apply And.intro
  all_goals decide +kernel

theorem test_meets_ObservationCommands_1 : ∃ (s : State) (r : Req) (x : Session) (core stepno bufidx ordinal first lines : Nat),
    s.writes r x 0x7100 4 [] ∧
    core < 256 ∧
    ordinal < 2 ^ 48 ∧
    stepno < 2 ^ 24 ∧
    bufidx < 256 ∧
    first < 2 ^ 29 ∧
    1 ≤ lines ∧
    lines ≤ 262144 ∧
    s.openOrd < ordinal := by
  refine ⟨serving, rq 2, ses, 255, 16777215, 255, 10, 0, 1, ?_⟩
  repeat' apply And.intro
  all_goals decide +kernel

theorem test_meets_MonitorsTakeTheirReadings_1 : ∃ (s : State) (tb current volts p10 : Nat),
    s.dev.resetHeld = false ∧
    s.fixedVdd = false ∧
    s.dev.state ≠ .boot ∧
    s.power.avsStopped = false ∧
    (p10 ≤ s.powerLimit ∨ s.power.powerMs ≠ 0) := by
  refine ⟨dev .serving, 60, 500, 740, 80, ?_⟩
  repeat' apply And.intro
  all_goals decide +kernel

theorem test_meets_MonitorsTakeTheirReadings_2 : ∃ (s : State) (readings : List Int),
    s.dev.resetHeld = false ∧
    readings.length = 72 ∧
    s.power.throttle = false ∧
    (hottest (goodReadings s.power.sensorFail readings)).1 < 1888 := by
  refine ⟨dev .ready, List.replicate 72 1887, ?_⟩
  repeat' apply And.intro
  all_goals decide +kernel

theorem test_meets_MonitorsTakeTheirReadings_3 : ∃ (s : State) (mv : List Nat),
    s.dev.resetHeld = false ∧
    mv.length = 10 ∧
    railsBeyond mv = [] ∧
    s.power.railFault = [] ∧
    s.capo.vppBad = false := by
  refine ⟨dev .ready, [620, 848, 940, 2349, 810, 954, 1272, 987, 470, 1980], ?_⟩
  repeat' apply And.intro
  all_goals decide +kernel

theorem test_meets_MonitorsTakeTheirReadings_4 : ∃ (s : State) (d : Domain) (n : Nat),
    s.tablesOk = true ∧
    s.dev.resetHeld = false ∧
    s.domainCounts d = true := by
  refine ⟨dev .ready, .core 255, 16777217, ?_⟩
  repeat' apply And.intro
  all_goals decide +kernel

theorem test_meets_MonitorsTakeTheirReadings_5 : ∃ (s : State) (d : Domain) (n : Nat),
    s.dev.resetHeld = false ∧
    s.domainCounts d = false := by
  refine ⟨(dev .ready).onDev fun x => { x with clusterMask := 0x7FFFFFFF }, .array 31, 5, ?_⟩
  repeat' apply And.intro
  all_goals decide +kernel

theorem test_meets_FaultPinsEnterSafe_1 : ∃ (s : State),
    s.dev.resetHeld = false ∧
    s.dev.thermNLow = false ∧
    (s.dev.state = .ready ∨ s.dev.state = .serving ∨ s.dev.state = .degraded) := by
  refine ⟨serving, ?_⟩
  repeat' apply And.intro
  all_goals decide +kernel

theorem test_meets_FaultPinsEnterSafe_2 : ∃ (s : State) (held : Bool),
    s.dev.resetHeld = false ∧
    (s.dev.state = .ready ∨ s.dev.state = .serving ∨ s.dev.state = .degraded) := by
  refine ⟨serving, true, ?_⟩
  repeat' apply And.intro
  all_goals decide +kernel

theorem test_meets_FaultPinsEnterSafe_3 : ∃ (s : State) (pair : Nat),
    pair < 4 ∧
    s.dev.resetHeld = false ∧
    pair ∉ s.dev.pairHalted ∧
    (s.dev.state = .ready ∨ s.dev.state = .serving ∨ s.dev.state = .degraded) := by
  refine ⟨serving, 3, ?_⟩
  repeat' apply And.intro
  all_goals decide +kernel

theorem test_meets_FaultPinsEnterSafe_4 : ∃ (s : State),
    s.dev.stopping = false ∧
    (s.dev.state = .ready ∨ s.dev.state = .serving ∨ s.dev.state = .degraded) := by
  refine ⟨serving, ?_⟩
  repeat' apply And.intro
  all_goals decide +kernel

theorem test_meets_ClocksPowerAndCopies_1 : ∃ (s : State),
    s.dev.resetHeld = false ∧
    s.power.refLost = false := by
  refine ⟨serving, ?_⟩
  repeat' apply And.intro
  all_goals decide +kernel

theorem test_meets_ClocksPowerAndCopies_2 : ∃ (s : State),
    s.power.refLost = true ∧
    5 ∉ s.power.railFault ∧
    6 ∉ s.power.railFault := by
  refine ⟨serving.onPower fun p => { p with refLost := true }, ?_⟩
  repeat' apply And.intro
  all_goals decide +kernel

theorem test_meets_ClocksPowerAndCopies_3 : ∃ (s : State),
    s.dev.resetHeld = false ∧
    s.dev.pfailLow = true := by
  refine ⟨serving.onDev fun x => { x with pfailLow := true }, ?_⟩
  repeat' apply And.intro
  all_goals decide +kernel

theorem test_meets_ClocksPowerAndCopies_5 : ∃ (s : State) (n : Nat) (i : Image) (e : Entry) (ok0 ok1 : Bool),
    n < 8192 ∧
    s.frozen = false ∧
    s.memOk = true ∧
    s.capo.side < 2 ∧
    s.capo.selected = some i ∧
    i.entries[n]? = some e ∧
    e.kind = 2 ∧
    e.verified = true ∧
    (ok0 = true ∨ ok1 = true) := by
  refine ⟨holding 2, 0, oneEntry 2, ⟨2, 7, 0, 0, 64, 0, zeros 32, true, none, none, [], 0⟩, false, true, ?_⟩
  repeat' apply And.intro
  all_goals decide +kernel

theorem test_meets_ASilentRegulatorStopsTheSetpoint_1 : ∃ (s : State) (tb current volts p10 : Nat),
    s.dev.resetHeld = false ∧
    s.fixedVdd = false ∧
    s.dev.state ≠ .boot ∧
    s.power.noAnswer < 2 := by
  refine ⟨(dev .serving).onPower fun p => { p with noAnswer := 1 }, 0, 0, 0, 0, ?_⟩
  repeat' apply And.intro
  all_goals decide +kernel

theorem test_meets_ASilentRegulatorStopsTheSetpoint_2 : ∃ (s : State) (tb current volts p10 : Nat),
    s.dev.resetHeld = false ∧
    s.fixedVdd = false ∧
    s.dev.state ≠ .boot ∧
    s.power.noAnswer = 2 ∧
    s.power.avsStopped = false := by
  refine ⟨(dev .serving).onPower fun p => { p with noAnswer := 2 }, 0, 0, 0, 0, ?_⟩
  repeat' apply And.intro
  all_goals decide +kernel

theorem test_meets_ASilentRegulatorStopsTheSetpoint_3 : ∃ (s : State) (tb current volts p10 : Nat),
    s.dev.resetHeld = false ∧
    s.fixedVdd = false ∧
    s.dev.state ≠ .boot ∧
    s.power.avsStopped = true := by
  refine ⟨(dev .serving).onPower fun p => { p with noAnswer := 3, avsStopped := true }, 0, 0, 0, 0, ?_⟩
  repeat' apply And.intro
  all_goals decide +kernel

theorem test_meets_ASilentRegulatorStopsTheSetpoint_4 : ∃ (s : State) (k : Nat) (readings : List Int),
    s.dev.resetHeld = false ∧
    s.fixedVdd = false ∧
    s.dev.state ≠ .boot ∧
    s.power.avsStopped = true ∧
    readings.length = 72 ∧
    deviates readings k = true ∧
    k ∉ s.power.sensorFail ∧
    s.power.throttle = false ∧
    (hottest (goodReadings (insertNew k s.power.sensorFail) readings)).1 < 1888 := by
  refine ⟨(dev .serving).onPower fun p => { p with noAnswer := 3, avsStopped := true }, 5, (List.replicate 72 0).set 5 171, ?_⟩
  repeat' apply And.intro
  all_goals decide +kernel

theorem test_meets_ASilentRegulatorStopsTheSetpoint_5 : ∃ (s : State) (tb current volts p10 : Nat),
    s.dev.resetHeld = false ∧
    s.fixedVdd = false ∧
    s.dev.state ≠ .boot ∧
    s.power.avsStopped = true := by
  refine ⟨(dev .serving).onPower fun p => { p with noAnswer := 3, avsStopped := true }, 0, 0, 700, 0, ?_⟩
  repeat' apply And.intro
  all_goals decide +kernel

theorem test_meets_ObservationCommands_2 : ∃ (s : State) (r : Req) (x : Session) (core stepno bufidx ordinal first lines : Nat),
    s.writes r x 0x7100 4 [] ∧
    ordinal ≤ s.openOrd := by
  refine ⟨serving, rq 2, ses, 255, 16777215, 255, 9, 0, 1, ?_⟩
  repeat' apply And.intro
  all_goals decide +kernel

theorem test_meets_ObservationCommands_3 : ∃ (s : State) (r : Req) (x : Session) (core stepno bufidx ordinal first lines : Nat),
    s.writes r x 0x7100 4 [] ∧
    core < 256 ∧
    ordinal < 2 ^ 48 ∧
    stepno < 2 ^ 24 ∧
    bufidx < 256 ∧
    first < 2 ^ 29 := by
  refine ⟨serving, rq 2, ses, 255, 16777215, 255, 281474976710655, 536870911, 1, ?_⟩
  repeat' apply And.intro
  all_goals decide +kernel

theorem test_meets_ObservationCommands_4 : ∃ (s : State) (r : Req) (x : Session) (space unit line lines : Nat),
    s.writes r x 0x7100 0xA [] ∧
    (s.dev.state = .halted ∨ s.dev.state = .safe ∨ s.dev.state = .ready) ∧
    space ≤ 5 ∧
    (unit / 256 = 0 ∨ unit / 256 = s.group.devno) ∧
    1 ≤ lines ∧
    lines ≤ 262144 ∧
    line + lines ≤ (s.requestArea space unit).2 ∧
    s.requestGone space unit = false := by
  refine ⟨open_ .ready, rq 2, ses, 0, 255, 0, 16384, ?_⟩
  repeat' apply And.intro
  all_goals decide +kernel

theorem test_meets_ObservationCommands_5 : ∃ (s : State) (r : Req) (x : Session) (space unit line lines : Nat),
    s.writes r x 0x7100 0xA [] ∧
    (s.dev.state = .serving ∨ s.dev.state = .degraded) := by
  refine ⟨serving, rq 2, ses, 5, 65535, 0, 1, ?_⟩
  repeat' apply And.intro
  all_goals decide +kernel

theorem test_meets_ClocksPowerAndCopies_6 : ∃ (s : State) (n : Nat) (i : Image) (e : Entry),
    n < 8192 ∧
    s.frozen = false ∧
    s.capo.side < 2 ∧
    s.capo.selected = some i ∧
    i.entries[n]? = some e ∧
    e.kind = 2 ∧
    e.verified = true ∧
    (s.sourcesOf i e).filter (fun k => decide (1 ≤ k) && decide (k < 25)) = [] := by
  refine ⟨holding 2, 0, oneEntry 2, ⟨2, 7, 0, 0, 64, 0, zeros 32, true, none, none, [], 0⟩, ?_⟩
  repeat' apply And.intro
  all_goals decide +kernel

theorem test_meets_ReadsAreAnswered_1 : ∃ (s : State) (r : Req) (x : Session) (idx sub : Nat) (o : Obj),
    s.takes r 1 ∧
    s.within r x ∧
    s.dict.outbox.any (fun a => a.ep == r.ep) = false ∧
    s.readable idx sub = .ok o ∧
    o.acc ≠ 2 ∧
    s.readLen o ≤ segMax r.ep r.sid := by
  refine ⟨serving, rq 1, ses, 0x2000, 6, ⟨0x200006, 4, 0, some 6, 0, false⟩, ?_⟩
  repeat' apply And.intro
  all_goals first | decide +kernel | rfl

theorem test_meets_ReadsAreAnswered_2 : ∃ (s : State) (r : Req) (idx sub : Nat) (o : Obj),
    s.takes r 1 ∧
    r.sid = 0 ∧
    s.dict.outbox.any (fun a => a.ep == r.ep) = false ∧
    s.readable idx sub = .ok o ∧
    o.acc ≠ 2 ∧
    s.readLen o ≤ segMax r.ep 0 := by
  refine ⟨serving, plain 1, 0x2000, 1, ⟨0x200001, 1, 0, some 1, 0, false⟩, ?_⟩
  repeat' apply And.intro
  all_goals first | decide +kernel | rfl

theorem test_meets_ReadsAreAnswered_3 : ∃ (s : State) (r : Req) (x : Session) (idx sub : Nat) (o : Obj),
    s.takes r 6 ∧
    s.within r x ∧
    s.dict.outbox.any (fun a => a.ep == r.ep) = false ∧
    s.obj? idx sub = some o := by
  refine ⟨serving, rq 6, ses, 0x2000, 1, ⟨0x200001, 1, 0, some 1, 0, false⟩, ?_⟩
  repeat' apply And.intro
  all_goals decide +kernel

theorem test_meets_ReadsAreAnswered_4 : ∃ (s : State) (r : Req) (idx sub : Nat) (o : Obj),
    s.takes r 3 ∧
    r.sid = 0 ∧
    s.dict.outbox.any (fun a => a.ep == r.ep) = false ∧
    s.readable idx sub = .ok o ∧
    o.entry = 0 ∧
    s.transfer? r idx sub = none ∧
    s.transferBusy r idx sub false = false := by
  refine ⟨serving, plain 3, 0x7100, 5, ⟨0x710005, 12, 0, none, 0, false⟩, ?_⟩
  repeat' apply And.intro
  all_goals first | decide +kernel | rfl

theorem test_meets_ReadsAreAnswered_5 : ∃ (s : State) (r : Req) (x : Session) (idx sub : Nat) (o : Obj),
    s.takes r 5 ∧
    s.within r x ∧
    s.dict.outbox.any (fun a => a.ep == r.ep) = false ∧
    s.obj? idx sub = some o := by
  refine ⟨serving, rq 5, ses, 0x2000, 1, ⟨0x200001, 1, 0, some 1, 0, false⟩, ?_⟩
  repeat' apply And.intro
  all_goals decide +kernel

theorem test_meets_HandshakesOpenSessions_1 : ∃ (s : State) (r : Req) (data : Bytes) (idle : Bool),
    s.admitsPlain r 4 0x9020 1 ∧
    s.begins r 0x9020 1 ∧
    s.helloDenied r.ep idle = none ∧
    data.length ≤ 1024 := by
  refine ⟨keyed, plain 4, zeros 1024, false, ?_⟩
  repeat' apply And.intro
  all_goals decide +kernel

theorem test_meets_HandshakesOpenSessions_2 : ∃ (s : State) (r : Req) (data : Bytes) (y : Transfer) (offset : Nat) (idle : Bool),
    s.admitsPlain r 4 0x9020 1 ∧
    s.follows r 0x9020 1 offset y ∧
    (y.data ++ data).length = 1249 ∧
    num (y.data ++ data) 0 1 < 8 ∧
    s.slotRole (num (y.data ++ data) 0 1) ≠ 0 := by
  refine ⟨firstPart 0x9020 1 (zeros 1024) keyed, plain 4, zeros 225, ⟨2, 0, 0x9020, 1, true, 0, zeros 1024, zeros 1024, false, 0, []⟩, 1024, false, ?_⟩
  repeat' apply And.intro
  all_goals decide +kernel

theorem test_meets_HandshakesOpenSessions_3 : ∃ (s : State) (nonce seed : Bytes) (h : Handshake),
    s.dict.handshake = some h ∧
    h.helloDone = true ∧
    h.challenge = [] ∧
    s.dictAnswers = true ∧
    s.dev.entropyBad = false := by
  refine ⟨keyed.onDict fun x => { x with handshake := some { shake with challenge := [] } }, zeros 32, zeros 96, { shake with challenge := [] }, ?_⟩
  repeat' apply And.intro
  all_goals decide +kernel

theorem test_meets_HandshakesOpenSessions_4 : ∃ (s : State) (r : Req) (data : Bytes) (y : Transfer) (offset : Nat) (h : Handshake),
    s.admitsPlain r 4 0x9020 3 ∧
    s.follows r 0x9020 3 offset y ∧
    (y.data ++ data).length = 3373 ∧
    s.dict.handshake = some h ∧
    h.ep = r.ep ∧
    h.challenge ≠ [] ∧
    s.slotRole h.slot ≠ 0 := by
  refine ⟨(keyed.onDict fun x => { x with handshake := some shake, transfers := [⟨2, 0, 0x9020, 3, true, 2048, zeros 1024, zeros 3072, false, 0, []⟩] }), plain 4, zeros 301, ⟨2, 0, 0x9020, 3, true, 2048, zeros 1024, zeros 3072, false, 0, []⟩, 3072, shake, ?_⟩
  repeat' apply And.intro
  all_goals decide +kernel

theorem test_meets_HandshakesOpenSessions_5 : ∃ (s : State) (r : Req) (data : Bytes) (y : Transfer) (offset : Nat) (h : Handshake) (edOk mlOk : Bool),
    s.admitsPlain r 4 0x9020 3 ∧
    s.follows r 0x9020 3 offset y ∧
    (y.data ++ data).length = 3373 ∧
    s.dict.handshake = some h ∧
    h.ep = r.ep ∧
    h.challenge ≠ [] ∧
    (edOk && mlOk) = false ∧
    tget0 0 s.dict.fails r.ep < 4 := by
  refine ⟨(keyed.onDict fun x => { x with handshake := some shake, transfers := [⟨2, 0, 0x9020, 3, true, 2048, zeros 1024, zeros 3072, false, 0, []⟩] }), plain 4, zeros 301, ⟨2, 0, 0x9020, 3, true, 2048, zeros 1024, zeros 3072, false, 0, []⟩, 3072, shake, true, false, ?_⟩
  repeat' apply And.intro
  all_goals decide +kernel

theorem test_meets_SessionsAndTransfersEnd_1 : ∃ (s : State) (r : Req) (x : Session),
    s.writes r x 0x9020 4 [BitVec.ofNat 8 r.sid] := by
  refine ⟨serving, rq 2, ses, ?_⟩
  repeat' apply And.intro
  all_goals decide +kernel

theorem test_meets_SessionsAndTransfersEnd_3 : ∃ (s : State) (ep : Nat),
    ep < 4 := by
  refine ⟨serving, 3, ?_⟩
  repeat' apply And.intro
  all_goals decide +kernel

theorem test_meets_SessionsAndTransfersEnd_4 : ∃ (s : State) (ep sid idx sub : Nat),
    ep < 4 := by
  refine ⟨serving, 3, 0, 0x2000, 1, ?_⟩
  repeat' apply And.intro
  all_goals decide +kernel

theorem test_meets_SessionsAndTransfersEnd_5 : ∃ (s : State) (ep length len sid vlan : Nat),
    ep < 4 ∧
    s.dictAnswers = true ∧
    s.endpointOpen ep = true ∧
    s.badPdu ep length len sid vlan = true := by
  refine ⟨serving, 2, 19, 0, 0, 0, ?_⟩
  repeat' apply And.intro
  all_goals decide +kernel

theorem test_meets_KeepStoreWrites_1 : ∃ (s : State) (readbackOk : Bool) (a : Append) (k : Keep),
    s.dev.pfailLow = false ∧
    s.keep.nextAppend = some a ∧
    (if readbackOk then s.keep else s.keep.closeHead).put a.type a.key a.payload = some k := by
  refine ⟨(keyed.onKeep fun k => { k with pending := [⟨2, 1, 0x200003, [1#8], none⟩] }), true, ⟨2, 1, 0x200003, [1#8], none⟩, ((keyed.keep.put 1 0x200003 [1#8]).map fun k => { k with pending := [⟨2, 1, 0x200003, [1#8], none⟩] }).getD keyed.keep, ?_⟩
  repeat' apply And.intro
  all_goals decide +kernel

theorem test_meets_KeepStoreWrites_1_again : ∃ (s : State) (readbackOk : Bool) (a : Append) (k : Keep),
    s.dev.pfailLow = false ∧
    s.keep.nextAppend = some a ∧
    (if readbackOk then s.keep else s.keep.closeHead).put a.type a.key a.payload = some k ∧
    readbackOk = false := by
  refine ⟨(keyed.onKeep fun k => { k with pending := [⟨1, 0x30, 0, [1#8], none⟩] }), false, ⟨1, 0x30, 0, [1#8], none⟩, ((keyed.keep.put 0x30 0 [1#8]).map fun k => { k with pending := [⟨1, 0x30, 0, [1#8], none⟩] }).getD keyed.keep, ?_⟩
  repeat' apply And.intro
  all_goals decide +kernel

theorem test_meets_KeepStoreWrites_2 : ∃ (s : State) (v st : Nat),
    s.dev.pfailLow = false ∧
    (s.keep.compacting = some (v, st) ∨ (s.keep.compacting = none ∧ s.keep.erased < 64 ∧ s.keep.victim = some v)) := by
  refine ⟨keyed.onKeep fun k => { k with compacting := some (16, 1), sectors := [(16, ⟨1, 0, 100, true, false⟩)], nextFresh := 17 }, 16, 1, ?_⟩
  repeat' apply And.intro
  all_goals decide +kernel

theorem test_meets_KeepStoreWrites_2_starts : ∃ (s : State) (v st : Nat),
    s.dev.pfailLow = false ∧
    (s.keep.compacting = some (v, st) ∨ (s.keep.compacting = none ∧ s.keep.erased < 64 ∧ s.keep.victim = some v)) ∧
    s.keep.compacting = none := by
  refine ⟨keyed.onKeep fun k => { k with sectors := [(16, ⟨1, 0, 100, true, false⟩)], nextFresh := 4033 }, 16, 0, ?_⟩
  repeat' apply And.intro
  all_goals decide +kernel

theorem test_meets_KeepStoreWrites_3 : ∃ (s : State) (v st : Nat),
    s.dev.pfailLow = false ∧
    s.keep.compacting = some (v, st) ∧
    s.keep.eraseFails = 0 := by
  refine ⟨keyed.onKeep fun k => { k with compacting := some (4095, 1) }, 4095, 1, ?_⟩
  repeat' apply And.intro
  all_goals decide +kernel

theorem test_meets_KeepStoreWrites_4 : ∃ (s : State) (n : Nat),
    n < 7 ∧
    s.dev.pfailLow = false ∧
    s.keep.folding n = false ∧
    let c : LifeCtr := tget0 {} s.keep.counters n
    c.pending ≠ 0 := by
  refine ⟨keyed.onKeep fun k => { k with counters := [(6, { pending := 1, unary := 31999 })] }, 6, ?_⟩
  repeat' apply And.intro
  all_goals decide +kernel

theorem test_meets_KeepStoreWrites_5 : ∃ (s : State),
    (s.dev.state = .ready ∨ s.dev.state = .serving ∨ s.dev.state = .degraded) := by
  refine ⟨keyed, ?_⟩
  repeat' apply And.intro
  all_goals decide +kernel

theorem test_meets_WindowPagesAreProgrammed_1_1 : ∃ (s : State) (r : Req) (x : Session) (addr count : Nat) (data : Bytes),
    s.writes r x 0x6100 4 [] ∧
    data.length = 64 ∧
    addr ≤ 65535 ∧
    1 ≤ count ∧
    count ≤ 64 ∧
    (∀ b ∈ data.drop count, b = 0#8) ∧
    addr / 64 * 64 < protectFrom s.keep.protect ∧
    s.dev.pfailLow = false ∧
    s.keep.page = none ∧
    s.keep.pageQueue = [] := by
  refine ⟨open_ .ready, rq 2, ses, 65535, 64, List.replicate 64 1#8, ?_⟩
  repeat' apply And.intro
  all_goals decide +kernel

theorem test_meets_WindowPagesAreProgrammed_1_2 : ∃ (s : State) (r : Req) (x : Session) (addr count : Nat) (data : Bytes),
    s.writes r x 0x6100 4 [] ∧
    data.length = 64 ∧
    addr ≤ 65535 ∧
    1 ≤ count ∧
    count ≤ 64 ∧
    (∀ b ∈ data.drop count, b = 0#8) ∧
    protectFrom s.keep.protect ≤ addr / 64 * 64 := by
  refine ⟨(open_ .ready).onKeep fun k => { k with protect := 1 }, rq 2, ses, 0xC000, 1, 1#8 :: zeros 63, ?_⟩
  repeat' apply And.intro
  all_goals decide +kernel

theorem test_meets_WindowPagesAreProgrammed_2 : ∃ (s : State) (r : Req) (x : Session) (data : Bytes),
    s.admitsSegment r x 0x6100 1 ∧
    s.begins r 0x6100 1 ∧
    1 ≤ data.length ∧
    data.length ≤ 64 ∧
    s.keep.protect % 4 ≠ 3 ∧
    s.dev.pfailLow = false ∧
    s.keep.page = none ∧
    s.keep.pageQueue = [] := by
  refine ⟨open_ .ready, rq 4, ses, List.replicate 64 1#8, ?_⟩
  repeat' apply And.intro
  all_goals decide +kernel

theorem test_meets_WindowPagesAreProgrammed_2_one : ∃ (s : State) (r : Req) (x : Session) (data : Bytes),
    s.admitsSegment r x 0x6100 1 ∧
    s.begins r 0x6100 1 ∧
    1 ≤ data.length ∧
    data.length ≤ 64 ∧
    s.keep.protect % 4 ≠ 3 ∧
    s.dev.pfailLow = false ∧
    s.keep.page = none ∧
    s.keep.pageQueue = [] ∧
    data.length < 64 := by
  refine ⟨open_ .ready, rq 4, ses, [1#8], ?_⟩
  repeat' apply And.intro
  all_goals decide +kernel

theorem test_meets_WindowPagesAreProgrammed_3 : ∃ (s : State) (j : PageJob),
    s.keep.page = some j ∧
    s.tablesOk = true ∧
    (∀ e ∈ j.bytes, e.1 < 64) ∧
    (j.bytes.map (·.1)).Nodup ∧
    s.keep.pageQueue = [] := by
  refine ⟨State.reset.onKeep fun k => { k with page := some ⟨1023, [(0, 1#8), (63, 2#8)], none⟩ }, ⟨1023, [(0, 1#8), (63, 2#8)], none⟩, ?_⟩
  repeat' apply And.intro
  all_goals decide +kernel

theorem test_meets_WindowPagesAreProgrammed_4 : ∃ (s : State) (r : Req) (x : Session) (v : Nat),
    s.writes r x 0x6100 2 [] ∧
    v ≤ 3 ∧
    s.dev.pfailLow = false := by
  refine ⟨open_ .ready, rq 2, ses, 3, ?_⟩
  repeat' apply And.intro
  all_goals decide +kernel

theorem test_meets_StepKeepsTheCanonicalForms_1 : ∃ (s t : State),
    step s = .next t ∧
    s.memOk = true := by
  refine ⟨{ serving with pending := [.thermalTrip] }, after .thermalTrip serving, ?_⟩
  exact ⟨show exec .thermalTrip serving = _ from exec_after (by decide +kernel), by decide +kernel⟩

theorem test_meets_StepKeepsTheCanonicalForms_2 : ∃ (s t : State),
    step s = .next t ∧
    s.tablesOk = true := by
  refine ⟨{ serving with pending := [.thermalTrip] }, after .thermalTrip serving, ?_⟩
  exact ⟨show exec .thermalTrip serving = _ from exec_after (by decide +kernel), by decide +kernel⟩

theorem test_meets_StepKeepsTheCanonicalForms_3 : ∃ (s t : State),
    step s = .next t ∧
    s.shapesOk = true := by
  refine ⟨{ serving with pending := [.thermalTrip] }, after .thermalTrip serving, ?_⟩
  exact ⟨show exec .thermalTrip serving = _ from exec_after (by decide +kernel), by decide +kernel⟩

theorem test_meets_EveryCommandCompletes : ∃ (c : Instr) (s : State),
    c.wf = true := by
  refine ⟨.sealReadbackDone 1279 1 (zeros 32), serving, ?_⟩
  repeat' apply And.intro
  all_goals decide +kernel

theorem test_meets_StrapsAreSampledAtResetRelease_1 : ∃ (c : Instr) (s t : State),
    exec c s = .next t ∧
    t.dev.resetHeld = false := by
  refine ⟨.resetRelease 9 false true true [] true [], State.reset, after (.resetRelease 9 false true true [] true []) State.reset, ?_⟩
  exact ⟨exec_after (by decide +kernel), by decide +kernel⟩

theorem test_meets_WindowWritesAreCounted_2 : ∃ (s : State) (p : Nat),
    p < 1024 := by
  refine ⟨State.reset, 1023, ?_⟩
  decide +kernel

theorem test_meets_RecordsAreNumberedInOrder : ∃ (c : Instr) (s t : State),
    exec c s = .next t ∧
    t.dev.resetHeld = false := by
  refine ⟨.thermalTrip, serving, after .thermalTrip serving, ?_⟩
  exact ⟨exec_after (by decide +kernel), by decide +kernel⟩

theorem test_meets_WritesSetTheirObjects_1 : ∃ (s : State) (r : Req) (x : Session) (idx sub : Nat) (d : Bytes) (o : Obj) (e : NumSet),
    s.admits r x 2 idx sub d ∧
    s.obj? idx sub = some o ∧
    o.len = some d.length ∧
    d.length ≤ segMax r.ep r.sid ∧
    numSetting? (idx * 256 + sub) = some e ∧
    d.length = typeLen e.type ∧
    (idx = 0xB010 → s.fixedVdd = false) ∧
    e.lo ≤ leNat d ∧
    leNat d ≤ e.hi ∧
    s.numOk (idx * 256 + sub) (leNat d) = true ∧
    e.kept = false := by
  refine ⟨serving, rq 2, ses, 0x2200, 1, List.replicate 6 255#8, ⟨0x220001, 4, 1, some 6, 0, false⟩, ⟨0x220001, 4, false, 0, 0, ord48⟩, ?_⟩
  repeat' apply And.intro
  all_goals decide +kernel

theorem test_meets_WritesSetTheirObjects_2 : ∃ (s : State) (r : Req) (x : Session) (idx sub : Nat) (d : Bytes) (o : Obj) (e : NumSet),
    s.admits r x 2 idx sub d ∧
    s.obj? idx sub = some o ∧
    o.len = some d.length ∧
    d.length ≤ segMax r.ep r.sid ∧
    numSetting? (idx * 256 + sub) = some e ∧
    d.length = typeLen e.type ∧
    (idx = 0xB010 → s.fixedVdd = false) ∧
    e.lo ≤ leNat d ∧
    leNat d ≤ e.hi ∧
    s.numOk (idx * 256 + sub) (leNat d) = true ∧
    e.kept = true := by
  refine ⟨serving, rq 2, ses, 0x2000, 3, [1#8], ⟨0x200003, 1, 1, some 1, 0, true⟩, ⟨0x200003, 1, true, 1, 0, 1⟩, ?_⟩
  repeat' apply And.intro
  all_goals decide +kernel

theorem test_meets_WritesSetTheirObjects_3 : ∃ (s : State) (r : Req) (x : Session) (idx sub : Nat) (d : Bytes) (e : NumSet),
    s.admitsSegment r x idx sub ∧
    s.begins r idx sub ∧
    numSetting? (idx * 256 + sub) = some e ∧
    d.length = typeLen e.type ∧
    (idx = 0xB010 → s.fixedVdd = false) ∧
    e.lo ≤ leNat d ∧
    leNat d ≤ e.hi ∧
    s.numOk (idx * 256 + sub) (leNat d) = true ∧
    e.kept = false := by
  refine ⟨serving, rq 4, ses, 0x5100, 3, [255#8, 255#8], ⟨0x510003, 2, false, 0, 0, 65535⟩, ?_⟩
  repeat' apply And.intro
  all_goals decide +kernel

theorem test_meets_CapoCommandsSwitchSides_1 : ∃ (s : State) (r : Req) (x : Session),
    s.writes r x 0x2200 2 [1#8] ∧
    s.tablesOk = true ∧
    s.inGroup = false ∧
    s.noProgramme = false ∧
    s.armFault (s.setting 0x2200 1 0) = none := by
  refine ⟨(serving.onCapo fun c => { c with state := .staged, programOk := true }).onDict fun x => { x with settings := [(0x220001, [13#8, 0#8, 0#8, 0#8, 0#8, 0#8])] }, rq 2, ses, ?_⟩
  repeat' apply And.intro
  all_goals decide +kernel

theorem test_meets_CapoCommandsSwitchSides_2 : ∃ (s : State) (r : Req) (x : Session),
    s.writes r x 0x2200 2 [2#8] ∧
    s.notLeader = false ∧
    s.capo.state = .armed ∧
    s.armOf 0 = none := by
  refine ⟨serving.onCapo fun c => { c with state := .armed, bstar := 13 }, rq 2, ses, ?_⟩
  repeat' apply And.intro
  all_goals decide +kernel

theorem test_meets_CapoCommandsSwitchSides_3 : ∃ (s : State) (r : Req) (x : Session),
    s.writes r x 0x2200 2 [3#8] ∧
    s.notLeader = false ∧
    s.capo.state = .staged ∧
    s.setting 0x2230 4 1 = 0 := by
  refine ⟨serving.onCapo (fun c => { c with state := .staged, staged := some img }) |>.onDict fun x => { x with settings := [(0x223004, [0#8])] }, rq 2, ses, ?_⟩
  repeat' apply And.intro
  all_goals decide +kernel

theorem test_meets_CapoCommandsSwitchSides_4 : ∃ (s : State),
    s.tablesOk = true ∧
    s.frozen = false ∧
    s.capo.state = .armed := by
  refine ⟨serving.onCapo fun c => { c with state := .armed, bstar := 13 }, ?_⟩
  repeat' apply And.intro
  all_goals decide +kernel

theorem test_meets_CapoCommandsSwitchSides_5 : ∃ (s : State) (o : Nat),
    s.tablesOk = true ∧
    s.inGroup = false ∧
    s.frozen = false ∧
    s.capo.state = .committed ∧
    s.oldSideEnded = true ∧
    s.dev.bOpen = some o ∧
    s.capo.bstar ≤ o + 1 := by
  refine ⟨serving.onCapo fun c => { c with state := .committed, bstar := 10 }, 9, ?_⟩
  repeat' apply And.intro
  all_goals decide +kernel

theorem test_meets_CapoCommandsSwitchSides_6 : ∃ (s : State),
    s.tablesOk = true ∧
    s.frozen = false ∧
    s.capo.state = .releasing ∧
    (∀ x, x ∈ s.walk.tiles → s.capo.bstar ≤ x.ordinal) ∧
    (∀ r, r ∈ s.walk.runs → s.capo.bstar ≤ r.ordinal ∨ (r.status.isSome = true ∧ r.final = true)) ∧
    (∀ k x, k ∈ s.walkers s.capo.bstar → s.batch? s.capo.bstar = some x → k ∈ x.ended) ∧
    s.setting 0x2230 4 1 = 0 := by
  refine ⟨serving.onCapo (fun c => { c with state := .releasing, bstar := 9, staged := some img }) |>.onDict fun x => { x with settings := [(0x223004, [0#8])] }, ?_⟩
  have h : (serving.onCapo (fun c => { c with state := .releasing, bstar := 9, staged := some img }) |>.onDict fun x => { x with settings := [(0x223004, [0#8])] }).walkers 9 = [] := by decide +kernel
  repeat' apply And.intro
  all_goals first | exact fun k x hk => absurd (h ▸ hk) List.not_mem_nil | decide +kernel

theorem test_meets_DeliveriesStageAnImage_1 : ∃ (s : State) (r : Req) (x : Session) (data : Bytes) (ed ml : Bool),
    s.admitsSegment r x 0x2210 1 ∧
    s.begins r 0x2210 1 ∧
    s.capo.state ≠ .armed ∧
    s.capo.state ≠ .committed ∧
    s.capo.state ≠ .releasing ∧
    data.length ≤ 1024 := by
  refine ⟨serving, rq 4, ses, zeros 1024, false, false, ?_⟩
  repeat' apply And.intro
  all_goals decide +kernel

theorem test_meets_DeliveriesStageAnImage_2 : ∃ (s : State) (r : Req) (x : Session) (y : Transfer) (offset : Nat) (data : Bytes) (ed ml : Bool),
    s.admitsSegment r x 0x2210 1 ∧
    s.follows r 0x2210 1 offset y ∧
    s.capo.state ≠ .armed ∧
    s.capo.state ≠ .committed ∧
    s.capo.state ≠ .releasing ∧
    let b := s.capo.manifestBuf.take offset ++ data
    s.manifestFault b ed ml = none := by
  refine ⟨(signed.onCapo (fun c => { c with manifestBuf := manifest1.take 3072 })).onDict fun x => { x with transfers := [⟨2, 1, 0x2210, 1, true, 2048, zeros 1024, [], false, 0, []⟩] }, rq 4, ses, ⟨2, 1, 0x2210, 1, true, 2048, zeros 1024, [], false, 0, []⟩, 3072, manifest1.drop 3072, true, true, ?_⟩
  refine ⟨(by (repeat' apply And.intro) <;> decide +kernel), (by (repeat' apply And.intro) <;> decide +kernel), by decide, by decide, by decide, ?_⟩
  show State.manifestFault (List.take 3072 (List.take 3072 manifest1) ++ List.drop 3072 manifest1) true true _ = none
  rw [List.take_take, Nat.min_self, List.take_append_drop]
  exact man_fault

theorem test_meets_DeliveriesStageAnImage_3 : ∃ (s : State) (r : Req) (x : Session) (y : Transfer) (offset reason : Nat) (data : Bytes) (ed ml : Bool),
    s.admitsSegment r x 0x2210 1 ∧
    s.follows r 0x2210 1 offset y ∧
    s.capo.state ≠ .armed ∧
    s.capo.state ≠ .committed ∧
    s.capo.state ≠ .releasing ∧
    s.manifestFault (s.capo.manifestBuf.take offset ++ data) ed ml = some reason := by
  refine ⟨serving.onCapo (fun c => { c with manifestBuf := zeros 1024 }) |>.onDict fun x => { x with transfers := [⟨2, 1, 0x2210, 1, true, 0, zeros 1024, [], false, 0, []⟩] }, rq 4, ses, ⟨2, 1, 0x2210, 1, true, 0, zeros 1024, [], false, 0, []⟩, 1024, 2, zeros 60, true, true, ?_⟩
  repeat' apply And.intro
  all_goals decide +kernel

theorem test_meets_DeliveriesStageAnImage_4 : ∃ (s : State) (r : Req) (x : Session) (data : Bytes),
    s.admitsSegment r x 0x2210 2 ∧
    s.begins r 0x2210 2 ∧
    8 < data.length := by
  refine ⟨serving, rq 4, ses, leBytes 8 4096 ++ [1#8, 2#8], ?_⟩
  repeat' apply And.intro
  all_goals decide +kernel

theorem test_meets_ObjectsOfAnImageAreFetched_1 : ∃ (s : State) (n m source : Nat) (obj : Bytes) (i : Image) (e f : Entry),
    s.memOk = true ∧
    s.entry? n = some (i, e) ∧
    s.capo.state = .staging ∧
    e.verified = false ∧
    e.source = none ∧
    s.sourceNow i e = some source ∧
    source ≠ 0 ∧
    objectFault i e obj = none ∧
    e.kind = 2 ∧
    m ≠ n ∧
    i.entries[m]? = some f ∧
    f.verified = false ∧
    f.kind ≠ 1 ∧
    f.kind ≠ 2 ∧
    e.target * 64 + (obj.length + 63) / 64 * 64 ≤ 2 ^ 35 ∧
    obj ≠ [] := by
  refine ⟨stagingFlash (digest32 (zeros 64)), 1, 0, 25, zeros 64, stagingImage (digest32 (zeros 64)), slow1 (digest32 (zeros 64)), ⟨4, 0, 0, 0, 8, 0, [], false, none, none, [], 0⟩, ?_⟩
  refine ⟨stagingFlash_memOk _, stagingFlash_entry _, rfl, rfl, rfl, stagingFlash_source _, by decide, objectFault_slow _ (slow1 (digest32 (zeros 64))) (zeros 64) (by decide +kernel) (slow1_digest _).symm (by decide), rfl, ?_⟩
  repeat' apply And.intro
  all_goals first | rfl | decide +kernel

theorem test_meets_ObjectsOfAnImageAreFetched_2 : ∃ (s : State) (n source : Nat) (obj : Bytes) (i : Image) (e : Entry),
    s.entry? n = some (i, e) ∧
    s.capo.state = .staging ∧
    e.verified = false ∧
    e.source = none ∧
    s.sourceNow i e = some source := by
  refine ⟨staging (zeros 32) [0], 1, 4, zeros 64, twoEntries (zeros 32) [0], { slow1 (zeros 32) with tried := [0] }, ?_⟩
  repeat' apply And.intro
  all_goals decide +kernel

theorem test_meets_ObjectsOfAnImageAreFetched_3 : ∃ (s : State) (n k : Nat) (i : Image) (e : Entry),
    s.entry? n = some (i, e) ∧
    s.capo.state = .staging ∧
    e.verified = false ∧
    e.source = none ∧
    s.sourceNow i e = some k := by
  refine ⟨staging (zeros 32) [0], 1, 4, twoEntries (zeros 32) [0], { slow1 (zeros 32) with tried := [0] }, ?_⟩
  repeat' apply And.intro
  all_goals decide +kernel

theorem test_meets_PlanesAreWrittenAndScanned_1 : ∃ (s : State) (site side row cells : Nat),
    site < 1280 ∧
    side < 2 ∧
    s.siteActive site = true ∧
    s.tablesOk = true ∧
    s.frozen = false ∧
    let pl := 2 * site + side
    let p := s.plane pl
    1 ≤ p.cls ∧
    p.cls ≤ 4 ∧
    p.running = 0 ∧
    p.awaits = false ∧
    (p.cls = 1 ∨ s.planeSelected site side = false) ∧
    (s.site site).state ≠ .retired ∧
    (s.site site).passing = none ∧
    s.capo.vppQueue = [] ∧
    0 < cells ∧
    (p.loops = 0 ∨ p.row = row) ∧
    s.capo.vppBad = false ∧
    s.dev.pfailLow = false ∧
    s.vppLoad + loopCurrent cells ≤ 3000 := by
  refine ⟨serving.onPlane 2559 fun p => { p with cls := 4 }, 1279, 1, 1023, 544, ?_⟩
  repeat' apply And.intro
  all_goals decide +kernel

theorem test_meets_PlanesAreWrittenAndScanned_2 : ∃ (s : State) (site side row cells : Nat),
    site < 1280 ∧
    side < 2 ∧
    s.siteActive site = true ∧
    s.tablesOk = true ∧
    s.frozen = false ∧
    let pl := 2 * site + side
    let p := s.plane pl
    p.cls ≠ 0 ∧
    p.running = 0 ∧
    p.awaits = false ∧
    (p.cls = 1 ∨ s.planeSelected site side = false) ∧
    (s.site site).state ≠ .retired ∧
    s.capo.vppQueue = [] ∧
    0 < cells ∧
    (p.loops = 0 ∨ p.row = row) ∧
    3000 < s.vppLoad + loopCurrent cells := by
  refine ⟨(serving.onPlane 2559 fun p => { p with cls := 1 }).onPlane 0 fun p => { p with cls := 2, running := 2216 }, 1279, 1, 0, 187, ?_⟩
  repeat' apply And.intro
  all_goals decide +kernel

theorem test_meets_PlanesAreWrittenAndScanned_3 : ∃ (s : State) (site side row : Nat),
    site < 1280 ∧
    side < 2 ∧
    s.siteActive site = true ∧
    s.tablesOk = true ∧
    s.frozen = false ∧
    let pl := 2 * site + side
    let p := s.plane pl
    p.running ≠ 0 ∧
    p.row = row ∧
    s.loopHeld pl = false ∧
    p.voided = false ∧
    p.dropped = none ∧
    s.capo.vppQueue = [] := by
  refine ⟨serving.onPlane 2559 fun p => { p with cls := 1, row := 1023, loops := 3, running := 44 }, 1279, 1, 1023, ?_⟩
  repeat' apply And.intro
  all_goals decide +kernel

theorem test_meets_PlanesAreWrittenAndScanned_4 : ∃ (s : State) (site side : Nat) (o : Bytes),
    site < 1280 ∧
    side < 2 ∧
    s.siteActive site = true ∧
    s.tablesOk = true ∧
    s.memOk = true ∧
    s.frozen = false ∧
    let pl := 2 * site + side
    let p := s.plane pl
    p.cls ≠ 0 ∧
    p.running = 0 ∧
    p.loops = 0 ∧
    (∀ w, w ∈ s.capo.vppQueue → w.1 ≠ pl) ∧
    p.want ≠ [] ∧
    p.awaits = false ∧
    s.keyShard side p.wantKey p.want = some o ∧
    (s.site site).state ≠ .retired ∧
    (s.site site).state ≠ .copying ∧
    s.capo.state ≠ .staging := by
  refine ⟨(serving.onPlane 2559 fun p => { p with cls := 1, row := 1023, wantKey := 1, want := shardDigest (leBytes 4 0x4B575348 ++ zeros 252) }).onCapo fun c => { c with objects := [(8192, leBytes 4 0x4B575348 ++ zeros 252)] }, 1279, 1, leBytes 4 0x4B575348 ++ zeros 252, ?_⟩
  repeat' apply And.intro
  all_goals decide +kernel

theorem test_meets_PlanesAreWrittenAndScanned_5 : ∃ (s : State) (site side n : Nat) (d : Drone),
    site < 1280 ∧
    side < 2 ∧
    s.tablesOk = true ∧
    s.frozen = false ∧
    let pl := 2 * site + side
    let p := s.plane pl
    let b := (s.core (site / 5)).cur.getD (s.dev.bOpen.getD 0)
    let good := if p.shard = [] then dronePlaneDigest else p.shard
    (s.core (site / 5)).droneLive = some d ∧
    d.kind = 2 ∧
    bit d.sites (site % 5) = true ∧
    s.scanSide site = side ∧
    min n 65535 < s.setting 0x2230 1 64 ∧
    min n 65535 < s.setting 0x2230 2 1024 := by
  refine ⟨(serving.onPlane 2558 fun p => { p with scanAt := some 8 }).onPlane 2559 (fun p => { p with shard := zeros 32 }) |>.onCore 255 fun c => { c with droneLive := some ⟨5, 2, 31⟩ }, 1279, 1, 63, ⟨5, 2, 31⟩, ?_⟩
  repeat' apply And.intro
  all_goals decide +kernel

theorem test_meets_TuningPassesEnd_1 : ∃ (s : State) (site : Nat) (res : PassResult) (p : Passing),
    site < 1280 ∧
    s.tablesOk = true ∧
    s.frozen = false ∧
    s.dev.state ≠ .selftest ∧
    (s.site site).passing = some p ∧
    passAccepts res = true := by
  refine ⟨serving.onSite 1279 fun x => { x with passing := some ⟨.emMargin, 9, false, false, false, 0, 300, []⟩, pending := [.periodic] }, 1279, ⟨[(15, 543, 32)], sweepMid, sweepMid, []⟩, ⟨.emMargin, 9, false, false, false, 0, 300, []⟩, ?_⟩
  repeat' apply And.intro
  all_goals first | exact passAccepts_mid _ rfl rfl rfl rfl | decide +kernel

theorem test_meets_TuningPassesEnd_2 : ∃ (s : State) (site : Nat) (res : PassResult) (p : Passing),
    site < 1280 ∧
    s.tablesOk = true ∧
    s.frozen = false ∧
    s.dev.state ≠ .selftest ∧
    (s.site site).passing = some p ∧
    passAccepts res = false ∧
    refFailsOf res = [] ∧
    p.retry = false ∧
    (s.site site).retryLost = false ∧
    p.atOnce = false := by
  refine ⟨serving.onSite 1279 fun x => { x with passing := some ⟨.periodic, 9, false, false, true, 0, 300, []⟩, pending := [.retry] }, 1279, ⟨[], ⟨⟨[], [], []⟩, ⟨[], [], []⟩, ⟨[], [], []⟩⟩, sweepMid, []⟩, ⟨.periodic, 9, false, false, true, 0, 300, []⟩, ?_⟩
  have h : passAccepts ⟨[], ⟨⟨[], [], []⟩, ⟨[], [], []⟩, ⟨[], [], []⟩⟩, sweepMid, []⟩ = false := by
    have e : sweepOk ⟨⟨[], [], []⟩, ⟨[], [], []⟩, ⟨[], [], []⟩⟩ = false := by decide +kernel
    unfold passAccepts
    rw [e, Bool.and_false]
    rfl
  repeat' apply And.intro
  rotate_left 5
  · exact h
  all_goals decide +kernel

theorem test_meets_TuningPassesEnd_3 : ∃ (s : State),
    s.keep.setBuf ≠ [] := by
  refine ⟨serving.onKeep fun k => { k with setBuf := [(1279, [3#8])] }, ?_⟩
  repeat' apply And.intro
  all_goals decide +kernel

theorem test_meets_CameraPacketsFillFrames_1 : ∃ (s : State) (port vc : Nat) (early : Bool),
    port < 16 ∧
    vc < 16 ∧
    s.intakeOn = true ∧
    cfgLanes s.intakeNow port ≠ 0 ∧
    s.tablesOk = true := by
  refine ⟨seeing, 15, 15, false, ?_⟩
  repeat' apply And.intro
  all_goals decide +kernel

theorem test_meets_CameraPacketsFillFrames_2 : ∃ (s : State) (port vc dt : Nat) (samples : List Nat),
    port < 16 ∧
    vc < 16 ∧
    s.intakeOn = true ∧
    dtBits dt ≠ 0 ∧
    cfgLanes s.intakeNow port ≠ 0 ∧
    let mine (f : Frame) : Bool := cfgPort f.cfg == port && cfgVc f.cfg == vc && cfgDt f.cfg == dt
    (∀ f, f ∈ s.walk.filling → mine f = true → samples.length = if dt = 0x1E then 2 * cfgSrcW f.cfg else cfgSrcW f.cfg) := by
  refine ⟨seeing.onWalk fun w => { w with filling := [frame0] }, 15, 15, 0x2E, [9, 9, 9, 9, 9, 9, 9, 65535], ?_⟩
  repeat' apply And.intro
  all_goals decide +kernel

theorem test_meets_CameraPacketsFillFrames_3 : ∃ (s : State) (port vc : Nat) (f : Frame) (x : CapSet) (first : Nat × Nat),
    port < 16 ∧
    vc < 16 ∧
    s.memOk = true ∧
    s.intakeOn = true ∧
    s.walk.filling.filter (fun g => cfgPort g.cfg == port && cfgVc g.cfg == vc) = [f] ∧
    f.bad = false ∧
    f.lines = cfgSrcH f.cfg ∧
    s.walk.lost.contains f.stream = false ∧
    f.set = some first ∧
    s.walk.sets.find? (fun y => y.first == first) = some x ∧
    x.deadline = false ∧
    f.buf < 3 ∧
    (frameBytes (frameRows f.cfg f.samples)).length ≤ 2 ^ 24 := by
  refine ⟨seeing.onWalk fun w => { w with filling := [frame0], sets := [set0], window := some (0, 7) }, 15, 15, frame0, set0, (0, 7), ?_⟩
  repeat' apply And.intro
  all_goals decide +kernel

theorem test_meets_CaptureTimersAndBuffers_2 : ∃ (s : State) (x : CapSet),
    s.walk.replay = false ∧
    (s.walk.sets.filter fun y => !y.ready).getLast? = some x := by
  refine ⟨seeing.onWalk fun w => { w with sets := [set0] }, set0, ?_⟩
  repeat' apply And.intro
  all_goals decide +kernel

theorem test_meets_CaptureTimersAndBuffers_3 : ∃ (s : State) (k : Nat),
    k < 32 ∧
    (s.dev.state = .ready ∨ s.dev.state = .serving ∨ s.dev.state = .degraded) ∧
    s.walk.replay = false ∧
    cfgEn (cfgStream s.walk.intakeCfg k) = true ∧
    k ∉ s.walk.lost := by
  refine ⟨seeing, 0, ?_⟩
  repeat' apply And.intro
  all_goals decide +kernel

theorem test_meets_CaptureTimersAndBuffers_4 : ∃ (s : State),
    s.dev.batchOpening = true ∧
    s.walk.replay = false ∧
    cfgNum (s.intakeFor s.nextOrd) 0x3000 6 0 = 1 ∧
    s.walk.periodDue = false := by
  refine ⟨inBatch.onWalk fun w => { w with intakeCfg := [(0x300006, [1#8])] }, ?_⟩
  repeat' apply And.intro
  all_goals decide +kernel

theorem test_meets_CaptureTimersAndBuffers_5 : ∃ (s : State) (b : Nat) (x : Batch),
    s.batch? b = some x ∧
    (∀ k, k ∈ s.walkers b → k ∈ x.ended) ∧
    s.settled b none = true := by
  refine ⟨inBatch, 9, bat 9, ?_⟩
  refine ⟨by decide +kernel, ?_, by decide +kernel⟩
  intro k hk
  have h : inBatch.walkers 9 = [] := by decide +kernel
  exact absurd (h ▸ hk) List.not_mem_nil

theorem test_meets_BatchesOpenInOrder_1 : ∃ (s : State) (temps : List Int) (dw : Bool),
    s.inGroup = false ∧
    s.mayOpen dw = true ∧
    s.walk.replay = false := by
  refine ⟨(inBatch.onWalk fun w => { w with intakeCfg := [(0x300006, [1#8])], periodDue := true }), [], false, ?_⟩
  repeat' apply And.intro
  all_goals decide +kernel

theorem test_meets_BatchesOpenInOrder_2 : ∃ (s : State) (temps : List Int) (dw : Bool),
    s.mayOpen dw = false := by
  refine ⟨inBatch, [], true, ?_⟩
  repeat' apply And.intro
  all_goals decide +kernel

theorem test_meets_BatchesOpenInOrder_3 : ∃ (s : State) (temps : List Int) (dw : Bool),
    s.notLeader = true := by
  refine ⟨(inBatch.onGroup fun g => { g with members := [0, 1], leader := 1 }), [], true, ?_⟩
  repeat' apply And.intro
  all_goals decide +kernel

theorem test_meets_EgoMotionAndWarp_2 : ∃ (s : State) (x : Batch),
    s.egoOpen = some x ∧
    x.replayed = false := by
  refine ⟨(inBatch.onWalk fun w => { w with batches := [{ bat 9 with ego := none }] }), { bat 9 with ego := none }, ?_⟩
  repeat' apply And.intro
  all_goals decide +kernel

theorem test_meets_EgoMotionAndWarp_3 : ∃ (s : State) (x : Batch),
    s.frozen = false ∧
    s.warpNext = some x ∧
    s.scene.exports = [] := by
  refine ⟨(inBatch.onWalk fun w => { w with batches := [{ bat 9 with warped := false, fresh := true }] }), { bat 9 with warped := false, fresh := true }, ?_⟩
  repeat' apply And.intro
  all_goals decide +kernel

theorem test_meets_EgoMotionAndWarp_3_same : ∃ (s : State) (x : Batch),
    s.frozen = false ∧
    s.warpNext = some x ∧
    s.scene.exports = [] ∧
    x.fresh = false := by
  refine ⟨(inBatch.onWalk fun w => { w with batches := [{ bat 9 with warped := false }] }), { bat 9 with warped := false }, ?_⟩
  repeat' apply And.intro
  all_goals decide +kernel

theorem test_meets_EgoMotionAndWarp_4 : ∃ (s : State) (x : Batch),
    (s.walk.batches.find? fun y => y.warping) = some x ∧
    s.poisonedCells = [] ∧
    (∀ c, c ∈ s.activeCores → (s.core c).scenes = []) := by
  refine ⟨(inBatch.onWalk fun w => { w with batches := [{ bat 9 with warped := false, warping := true }] }), { bat 9 with warped := false, warping := true }, ?_⟩
  repeat' apply And.intro
  all_goals decide +kernel

theorem test_meets_SceneUpdatesAndExport_1 : ∃ (s : State) (x : Batch) (u : Update) (r : RunRec),
    s.frozen = false ∧
    s.applyNext = some x ∧
    x.updates = [u] ∧
    s.run? x.ordinal u.run = some r ∧
    r.cause = 0 ∧
    s.tablesOk = true := by
  refine ⟨(inBatch.onWalk fun w => { w with batches := [{ bat 9 with updates := [⟨262143, 6, 15, List.replicate 64 1#8⟩] }] }), { bat 9 with updates := [⟨262143, 6, 15, List.replicate 64 1#8⟩] }, ⟨262143, 6, 15, List.replicate 64 1#8⟩, live 9 15, ?_⟩
  repeat' apply And.intro
  all_goals decide +kernel

theorem test_meets_SceneUpdatesAndExport_2 : ∃ (s : State) (b : Nat) (doc : Bytes) (rest : List (Nat × Bytes)),
    s.scene.exports = (b, doc) :: rest ∧
    s.dev.state ≠ .safe ∧
    s.frozen = false ∧
    s.sendsFirst = false := by
  refine ⟨(serving.onScene fun g => { g with exports := [(9, [1#8]), (10, [2#8])] }), 9, [1#8], [(10, [2#8])], ?_⟩
  repeat' apply And.intro
  all_goals decide +kernel

theorem test_meets_ChangesAreArmedAndWithdrawn_1 : ∃ (s : State) (r : Req) (x : Session),
    s.writes r x 0x3000 0xA [1#8] ∧
    s.inGroup = false ∧
    s.changeBusy .intake = false ∧
    s.changeFault .intake (s.setting 0x3000 9 0) = none := by
  refine ⟨(serving.onDict fun x => { x with settings := [(0x300009, leBytes 6 13)] }), rq 2, ses, ?_⟩
  repeat' apply And.intro
  all_goals decide +kernel

theorem test_meets_ChangesAreArmedAndWithdrawn_2 : ∃ (s : State) (r : Req) (x : Session),
    s.writes r x 0x5000 8 [1#8] ∧
    s.inGroup = false ∧
    s.changeBusy .policy = false ∧
    s.changeFault .policy (s.setting 0x5000 7 0) = none := by
  refine ⟨(serving.onDict fun x => { x with settings := [(0x500005, [4#8]), (0x500007, leBytes 6 13)] }), rq 2, ses, ?_⟩
  repeat' apply And.intro
  all_goals decide +kernel

theorem test_meets_ChangesAreArmedAndWithdrawn_3 : ∃ (s : State) (r : Req) (x : Session),
    s.writes r x 0x3000 0xA [2#8] ∧
    s.notLeader = false ∧
    s.walk.intake.state = 1 ∧
    s.armOf 2 = none := by
  refine ⟨(serving.onWalk fun w => { w with intake := ⟨1, 13, []⟩ }), rq 2, ses, ?_⟩
  repeat' apply And.intro
  all_goals decide +kernel

theorem test_meets_ChangesAreArmedAndWithdrawn_4 : ∃ (s : State) (r : Req) (x : Session),
    s.writes r x 0x5000 8 [2#8] ∧
    s.notLeader = false ∧
    s.walk.policy.state = 1 ∧
    s.armOf 1 = none := by
  refine ⟨(serving.onWalk fun w => { w with policy := ⟨1, 13, []⟩ }), rq 2, ses, ?_⟩
  repeat' apply And.intro
  all_goals decide +kernel

theorem test_meets_ReplayCommandsFeedBatches_1 : ∃ (s : State) (r : Req) (x : Session) (d : Bytes) (i : Image),
    s.writes r x 0x2040 1 d ∧
    d.length = 16 ∧
    num d 0 1 = 1 ∧
    num d 2 2 = 0 ∧
    s.dev.state = .ready ∧
    s.walk.replay = false ∧
    s.capo.selected = some i ∧
    num d 1 1 = s.gradeCode ∧
    num d 4 4 = i.progid ∧
    num d 8 4 = i.imgseq := by
  refine ⟨((open_ .ready).onCapo fun c => { c with selected := some img }), rq 2, ses, [1#8, 1#8, 0#8, 0#8] ++ leBytes 4 7 ++ leBytes 4 3 ++ leBytes 4 6, img, ?_⟩
  repeat' apply And.intro
  all_goals decide +kernel

theorem test_meets_ReplayCommandsFeedBatches_2 : ∃ (s : State) (r : Req) (x : Session) (d : Bytes),
    s.writes r x 0x2040 1 d ∧
    d.length = 16 ∧
    num d 0 1 = 0 ∧
    num d 2 2 = 0 ∧
    s.walk.replay = true := by
  refine ⟨replaying, rq 2, ses, zeros 16, ?_⟩
  repeat' apply And.intro
  all_goals decide +kernel

theorem test_meets_ReplayCommandsFeedBatches_3 : ∃ (s : State) (r : Req) (x : Session) (d : Bytes),
    s.writes r x 0x2040 1 d ∧
    d.length = 16 ∧
    num d 0 1 = 0 ∧
    num d 2 2 = 0 ∧
    s.walk.replay = false := by
  refine ⟨(open_ .ready), rq 2, ses, zeros 16, ?_⟩
  repeat' apply And.intro
  all_goals decide +kernel

theorem test_meets_ReplayCommandsFeedBatches_4 : ∃ (s : State) (r : Req) (x : Session) (d : Bytes) (k : Nat),
    s.writes r x 0x2040 2 d ∧
    18 ≤ d.length ∧
    d.length = 18 + 8 * num d 14 4 ∧
    s.walk.replay = true ∧
    num d 0 4 = s.walk.replayBoot ∧
    (∀ l, s.walk.replayLast = some l → l < num d 4 6) ∧
    s.walk.replayNext = none ∧
    s.freeBuffer = some k := by
  refine ⟨(replaying.onWalk fun w => { w with replayLast := some 8 }), rq 2, ses, leBytes 4 6 ++ leBytes 6 9 ++ leBytes 4 0 ++ leBytes 4 1 ++ zeros 8, 0, ?_⟩
  repeat' apply And.intro
  all_goals decide +kernel

theorem test_meets_RunsArePublishedWithTheirSeals_1_1 : ∃ (s : State) (o n : Nat) (full : List (Nat × Nat)) (r : RunRec),
    s.run? o n = some r ∧
    s.mayPublish r = true ∧
    s.publishes n = true ∧
    let parts : List Part := [.walk, .pub, .tx, .faults, .keep, .macsec, .cores, .obs, .dev]
    r.cause = 0 ∧
    r.stale = false := by
  refine ⟨inBatch, 9, 15, [], live 9 15, ?_⟩
  repeat' apply And.intro
  all_goals decide +kernel

theorem test_meets_RunsArePublishedWithTheirSeals_1_1_held : ∃ (s : State) (o n : Nat) (full : List (Nat × Nat)) (r : RunRec),
    s.run? o n = some r ∧
    s.mayPublish r = true ∧
    s.publishes n = true ∧
    let parts : List Part := [.walk, .pub, .tx, .faults, .keep, .macsec, .cores, .obs, .dev]
    r.cause = 0 ∧
    r.stale = false ∧
    s.verdictsDone r = false := by
  refine ⟨(checking { tileRec .captured 6 5 with run := some 15 }).onWalk fun w => { w with batches := [{ bat 9 with policy := 1 }] }, 9, 15, [(0, 0)], live 9 15, ?_⟩
  repeat' apply And.intro
  all_goals decide +kernel

theorem test_meets_RunsArePublishedWithTheirSeals_1_2 : ∃ (s : State) (o n : Nat) (full : List (Nat × Nat)) (r : RunRec),
    s.run? o n = some r ∧
    s.mayPublish r = true ∧
    s.publishes n = true ∧
    let parts : List Part := [.walk, .pub, .tx, .faults, .keep, .macsec, .cores, .obs, .dev]
    r.cause = 0 ∧
    r.stale = true ∧
    (o ≠ 0 → ∀ p, s.run? (o - 1) n = some p → p.status ≠ some .void) := by
  refine ⟨inBatch.onWalk fun w => { w with runs := [{ live 9 15 with stale := true }, { live 8 15 with status := some .valid }] }, 9, 15, [], { live 9 15 with stale := true }, ?_⟩
  repeat' apply And.intro
  all_goals decide +kernel

theorem test_meets_RunsArePublishedWithTheirSeals_1_3 : ∃ (s : State) (o n : Nat) (full : List (Nat × Nat)) (r : RunRec),
    s.run? o n = some r ∧
    s.mayPublish r = true ∧
    s.publishes n = true ∧
    let parts : List Part := [.walk, .pub, .tx, .faults, .keep, .macsec, .cores, .obs, .dev]
    r.cause ≠ 0 := by
  refine ⟨inBatch.onWalk fun w => { w with runs := [{ live 9 15 with cause := 5 }] }, 9, 15, [], { live 9 15 with cause := 5 }, ?_⟩
  repeat' apply And.intro
  all_goals decide +kernel

theorem test_meets_RunsArePublishedWithTheirSeals_2 : ∃ (s : State) (o n : Nat) (r : RunRec),
    s.run? o n = some r ∧
    1 ≤ r.retracts ∧
    r.retracts < 3 ∧
    s.frozen = false := by
  refine ⟨inBatch.onWalk fun w => { w with runs := [{ live 9 15 with status := some .held, cause := 5, retracts := 2 }] }, 9, 15, { live 9 15 with status := some .held, cause := 5, retracts := 2 }, ?_⟩
  repeat' apply And.intro
  all_goals decide +kernel

theorem test_meets_LinksRatesAndLedgers_1 : ∃ (s : State) (mac : Nat),
    mac < 2 ∧
    mac ∉ s.pub.macDown := by
  refine ⟨serving, 1, ?_⟩
  repeat' apply And.intro
  all_goals decide +kernel

theorem test_meets_LinksRatesAndLedgers_2 : ∃ (s : State) (mac : Nat),
    mac < 2 ∧
    mac ∈ s.pub.macDown ∧
    s.serdesOff = false := by
  refine ⟨serving.onPub fun p => { p with macDown := [0, 1] }, 1, ?_⟩
  repeat' apply And.intro
  all_goals decide +kernel

theorem test_meets_LinksRatesAndLedgers_5 : ∃ (s : State) (last : Nat) (isPartial : Bool),
    s.walk.replay = false ∧
    2 ∉ s.dev.pairHalted ∧
    s.frozen = false ∧
    s.ledgerDue = some (last, isPartial) := by
  refine ⟨(inBatch.onDev fun x => { x with bOpen := some 1023 }).onPub (fun p => { p with leaves := [(1023, 0, zeros 32), (9, 15, zeros 32)] }) |>.onWalk fun w => { w with runs := [] }, 1023, false, ?_⟩
  repeat' apply And.intro
  all_goals decide +kernel

theorem test_meets_LinksRatesAndLedgers_5_partial : ∃ (s : State) (last : Nat) (isPartial : Bool),
    s.walk.replay = false ∧
    2 ∉ s.dev.pairHalted ∧
    s.frozen = false ∧
    s.ledgerDue = some (last, isPartial) := by
  refine ⟨inBatch.onPub (fun p => { p with partialDue := true }) |>.onWalk fun w => { w with runs := [{ live 9 15 with status := some .valid, final := true }] }, 9, true, ?_⟩
  repeat' apply And.intro
  all_goals decide +kernel

theorem test_meets_VerdictsSettleCheckedTiles_1 : ∃ (s : State) (n margins : Nat) (x : CheckedTile) (faults : List (Nat × Int)) (bows : List BowEvents),
    s.tablesOk = true ∧
    s.frozen = false ∧
    s.tileNo? n = some x ∧
    s.unitFree x.checker 3 x.id = true ∧
    s.codesDue x = false ∧
    x.state = .captured ∧
    x.got = deviate faults x.cols (s.exactOf x) := by
  refine ⟨checking (tileRec .captured 5 0), 4, 0, tileRec .captured 5 0, [], [], ?_⟩
  repeat' apply And.intro
  all_goals decide +kernel

theorem test_meets_VerdictsSettleCheckedTiles_2 : ∃ (s : State) (n c margins : Nat) (x : CheckedTile) (faults : List (Nat × Int)) (bows : List BowEvents),
    s.frozen = false ∧
    s.tileNo? n = some x ∧
    s.unitFree x.checker 3 x.id = true ∧
    s.codesDue x = false ∧
    let dup := deviate faults x.cols (s.exactOf x)
    (x.state = .captured ∧ x.got ≠ dup ∨ x.state = .escalated) ∧
    s.thirdUnit x.cluster [x.cluster, unitCluster x.checker] = some c := by
  refine ⟨checking (tileRec .captured 6 0), 4, 0, 0, tileRec .captured 6 0, [], [], ?_⟩
  repeat' apply And.intro
  all_goals decide +kernel

theorem test_meets_VerdictsSettleCheckedTiles_2_escalated : ∃ (s : State) (n c margins : Nat) (x : CheckedTile) (faults : List (Nat × Int)) (bows : List BowEvents),
    s.frozen = false ∧
    s.tileNo? n = some x ∧
    s.unitFree x.checker 3 x.id = true ∧
    s.codesDue x = false ∧
    let dup := deviate faults x.cols (s.exactOf x)
    (x.state = .captured ∧ x.got ≠ dup ∨ x.state = .escalated) ∧
    s.thirdUnit x.cluster [x.cluster, unitCluster x.checker] = some c ∧
    x.state = .escalated := by
  refine ⟨checking (tileRec .escalated 5 0), 4, 0, 0, tileRec .escalated 5 0, [], [], ?_⟩
  repeat' apply And.intro
  all_goals decide +kernel

theorem test_meets_VerdictsSettleCheckedTiles_3_1 : ∃ (s : State) (n c : Nat) (x : CheckedTile) (faults : List (Nat × Int)),
    s.frozen = false ∧
    s.tileNo? n = some x ∧
    x.state = .third ∧
    x.third = some c ∧
    s.arrayBusy c 2 x.id = false ∧
    let r := deviate faults x.cols (s.exactOf x)
    r = x.got := by
  refine ⟨checking (tileRec .third 5 6), 4, 29, tileRec .third 5 6, [], ?_⟩
  repeat' apply And.intro
  all_goals decide +kernel

theorem test_meets_VerdictsSettleCheckedTiles_3_2 : ∃ (s : State) (n c : Nat) (x : CheckedTile) (faults : List (Nat × Int)),
    s.frozen = false ∧
    s.tileNo? n = some x ∧
    x.state = .third ∧
    x.third = some c ∧
    s.arrayBusy c 2 x.id = false ∧
    let r := deviate faults x.cols (s.exactOf x)
    r ≠ x.got ∧
    r = x.dup := by
  refine ⟨checking (tileRec .third 6 5), 4, 29, tileRec .third 6 5, [], ?_⟩
  repeat' apply And.intro
  all_goals decide +kernel

theorem test_meets_VerdictsSettleCheckedTiles_4 : ∃ (s : State) (u : UnitId),
    s.tablesOk = true ∧
    s.frozen = false ∧
    (s.check u).suspect = true ∧
    (s.check u).retired = false ∧
    recentFails (s.dev.bOpen.getD 0) (s.check u).fails = [] := by
  refine ⟨serving.onSite 1279 fun x => { x with check := { suspect := true } }, .site 1279, ?_⟩
  repeat' apply And.intro
  all_goals decide +kernel

theorem test_meets_SceneStepsGatherAndScatter_1 : ∃ (s : State) (core : Nat) (i : Issue),
    core < 256 ∧
    s.tablesOk = true ∧
    s.memOk = true ∧
    s.shapesOk = true ∧
    s.issue? core 9 = some i ∧
    sfld i.w 4 0 0 = 0 ∧
    sfld i.w 4 1 1 = 0 ∧
    stepMasked (s.core core) i.w = false ∧
    (s.core core).dupGrant i.w = none ∧
    s.mem.parity = [] ∧
    (s.batch? i.b).elim false (·.warped) = true ∧
    (s.core core).scenes = [] ∧
    let w := i.w
    let c := s.core core
    let off := tileOffset c w
    let mul := tileMul c w * sfld w 0x14 15 0
    let n := presentCount (sfld w 0x14 31 16 + mul) (c.limit (sfld w 4 4 2)) (sfld w 0x14 15 0)
    let line := sfld w 0xC 16 0 + off
    n ≠ 0 ∧
    sfld w 8 19 0 + mul + n ≤ gridCells ∧
    i.t.linesInside (sbOpnd line) n = n ∧
    (line + n) * 64 ≤ 2 ^ 23 := by
  refine ⟨walking 255 (sceneW 0), 255, issue1 (sceneW 0), ?_⟩
  repeat' apply And.intro
  all_goals decide +kernel

theorem test_meets_SceneStepsGatherAndScatter_2 : ∃ (s : State) (core : Nat) (i : Issue) (b : Batch),
    core < 256 ∧
    s.tablesOk = true ∧
    s.issue? core 9 = some i ∧
    sfld i.w 4 0 0 = 1 ∧
    sfld i.w 4 1 1 = 0 ∧
    stepMasked (s.core core) i.w = false ∧
    (s.core core).dupGrant i.w = none ∧
    s.mem.parity = [] ∧
    let w := i.w
    let c := s.core core
    let mul := tileMul c w * sfld w 0x14 15 0
    let e := s.sceneElem core w 0
    let r := s.load (.sb (core / 8)) (e.line * 64) 64
    presentCount (sfld w 0x14 31 16 + mul) (c.limit (sfld w 4 4 2)) (sfld w 0x14 15 0) = 1 ∧
    e.cell < gridCells ∧
    i.t.linesInside (sbOpnd (sfld w 0xC 16 0 + tileOffset c w)) 1 = 1 ∧
    s.poisoned (.sb (core / 8)) e.line = false ∧
    (r.getD 49 0#8).toNat ≤ 1 ∧
    (r.drop 50).all (· == 0#8) = true ∧
    s.batch? i.b = some b ∧
    b.warped = true ∧
    (s.core core).scenes = [] ∧
    b.updates.length < 262144 ∧
    b.updates.any (fun u => u.cell == e.cell && u.source == e.source && u.run == stepRun w) = false := by
  refine ⟨walking 255 (sceneW 1), 255, issue1 (sceneW 1), bat 9, ?_⟩
  repeat' apply And.intro
  all_goals decide +kernel

theorem test_meets_OrdinalsReachCores_1 : ∃ (s : State) (cl b : Nat),
    cl < 32 ∧
    s.tablesOk = true ∧
    s.frozen = false ∧
    s.clusterActive cl = true ∧
    (s.batch? b).isSome = true ∧
    (∀ x, x ∈ (s.cluster cl).accepted → x < b) ∧
    s.clusterSkipsNone cl b = true ∧
    (b < 2 ∨ s.clusterEnded cl (b - 2) = true) := by
  refine ⟨inBatch.onCluster 31 fun c => { c with accepted := [8, 7] }, 31, 9, ?_⟩
  repeat' apply And.intro
  all_goals decide +kernel

theorem test_meets_OrdinalsReachCores_2 : ∃ (s : State) (core b boot epoch : Nat) (x : Batch),
    core < 256 ∧
    s.tablesOk = true ∧
    s.frozen = false ∧
    s.batch? b = some x ∧
    s.coreActive core = true ∧
    b ∈ (s.cluster (core / 8)).accepted ∧
    x.epoch = epoch ∧
    boot = s.dev.bootCount ∧
    (∀ m, m ∈ (s.core core).ordinals → m.ordinal < b) ∧
    (∀ c, (s.core core).cur = some c → c < b) ∧
    (∀ c, (s.core core).done = some c → c < b) ∧
    s.coreSkipsNone core b = true := by
  refine ⟨inBatch.onCluster 31 fun c => { c with accepted := [9] }, 255, 9, 0, 0, bat 9, ?_⟩
  repeat' apply And.intro
  all_goals first | decide +kernel | exact fun c h => absurd (h : (none : Option Nat) = some c) nofun

theorem test_meets_OrdinalsReachCores_3 : ∃ (s : State) (core : Nat) (m : OrdinalMsg),
    core < 256 ∧
    s.tablesOk = true ∧
    s.startable core = some m ∧
    s.coreSealed core m.ordinal = true ∧
    s.blockedOn core = [] ∧
    (s.site (core * 5 + 4)).state ≠ .copying ∧
    (∀ k, k < 5 → (s.site (core * 5 + k)).leaving = false) := by
  refine ⟨(walking 255 endW).onCore 255 fun c => { c with seq := .idle, cur := none, ordinals := [⟨9, 0, 0⟩] }, 255, ⟨9, 0, 0⟩, ?_⟩
  repeat' apply And.intro
  all_goals decide +kernel

theorem test_meets_BowStepsAndBows_1 : ∃ (s : State) (core n : Nat) (i : Issue),
    core < 256 ∧
    s.tablesOk = true ∧
    s.issue? core 1 = some i ∧
    stepMasked (s.core core) i.w = false ∧
    (s.core core).dupGrant i.w = none ∧
    i.t.seedmode = false ∧
    s.siteOf core (sfld i.w 4 1 0) = some n ∧
    (s.site n).staleRuns.contains (i.b, stepRun i.w) = false ∧
    s.planeFmt core (sfld i.w 4 1 0) i.b = sfld i.w 4 7 5 ∧
    s.mem.parity = [] ∧
    let f := (inFmt (sfld i.w 4 4 2)).getD .int8
    let rows := if f = .b1 then sfld i.w 4 27 17
      else presentCount (sfld i.w 0x14 15 0) ((s.core core).limit (sfld i.w 0x10 2 0)) (sfld i.w 4 27 17)
    let vecs := presentCount (sfld i.w 0x14 31 16 + tileMul (s.core core) i.w * sfld i.w 4 16 8)
      ((s.core core).limit (sfld i.w 0x10 5 3)) (sfld i.w 4 16 8)
    let cols := presentCount (sfld i.w 0x18 15 0) ((s.core core).limit (sfld i.w 0x10 8 6)) (sfld i.w 8 29 20)
    let x := s.bowInput core i f rows vecs
    let smp := (sfld i.w 0x10 9 9 == 1 && s.samples core i) || s.siteFullDup n
    rows ≠ 0 ∧
    vecs ≠ 0 ∧
    cols ≠ 0 ∧
    x.fault = none ∧
    x.poisoned = false ∧
    (smp = true → s.checkRoom (core / 8) (bowCheckLines i.w) = true) := by
  refine ⟨walking 255 bowW, 255, 1278, issue1 bowW, ?_⟩
  repeat' apply And.intro
  all_goals decide +kernel

theorem test_meets_BowStepsAndBows_2 : ∃ (s : State) (n : Nat) (x : Tile) (first replay : List ConvEvent),
    n < 1280 ∧
    s.tablesOk = true ∧
    s.frozen = false ∧
    s.bowReady n = some x ∧
    (s.site n).probes = [] ∧
    x.live = true ∧
    (x.sampled = true ∨ s.siteFullDup n = false) ∧
    let f := (inFmt (sfld x.word 4 4 2)).getD .int8
    let side := s.sideOf x.core x.ordinal
    let a := runBow (s.drivenRows n side x f.width) (s.fretOnes n side) false first
    a.overHalf = false ∧
    a.overs = 0 ∧
    a.margins = 0 ∧
    a.misses = 0 ∧
    synDecide (syndromes a.totals).1 (syndromes a.totals).2 a.totals a.driven = .pass ∧
    let y := (x.addBow ((wtFmt (sfld x.word 4 7 5)).getD .int8) f.signed f.width a.totals a.driven).advance f.width
    y.vec < sfld x.word 4 16 8 := by
  refine ⟨(walking 255 bowW).onSite 1278 fun x => { x with tile := some ⟨255, 0, 9, 15, bowW, 65535, 0, 7, false, 2, 2, 1, false, [[0, 0], [0, 0]], [[0], [0]], false⟩ }, 1278, ⟨255, 0, 9, 15, bowW, 65535, 0, 7, false, 2, 2, 1, false, [[0, 0], [0, 0]], [[0], [0]], false⟩, [], [], ?_⟩
  repeat' apply And.intro
  rotate_right 6
  · exact (idle_bow' (by decide +kernel) _).2.2.1
  · exact (idle_bow' (by decide +kernel) _).2.1
  · exact (idle_bow' (by decide +kernel) _).1
  · exact (idle_bow' (by decide +kernel) _).2.2.2.1
  · exact (idle_bow' (by decide +kernel) _).2.2.2.2
  all_goals decide +kernel

theorem test_meets_BridgeStepWritesItsRows : ∃ (s : State) (core : Nat) (i : Issue) (bytes lut : Bytes) (q : List (List (Option Quant))),
    core < 256 ∧
    s.tablesOk = true ∧
    s.memOk = true ∧
    s.issue? core 4 = some i ∧
    stepMasked (s.core core) i.w = false ∧
    (s.core core).dupGrant i.w = none ∧
    let w := i.w
    let c := s.core core
    let leng := sfld w 4 16 15
    let fromBank := sfld w 4 18 17 == 0
    let planned := if fromBank then i.t.bankShape leng (stepNo w) else (sfld w 0x14 27 19, sfld w 0x14 18 9, sfld w 0x14 8 0)
    let shape := if fromBank then (c.banks.getD leng {}).shape planned else planned
    let vecs := presentCount (sfld w 0x10 15 0 + tileMul c w * shape.2.2) (c.limit (sfld w 0xC 2 0)) shape.2.2
    let cols := presentCount (sfld w 0x18 15 0) (c.limit (sfld w 0xC 5 3)) shape.2.1
    let d := parseBDesc bytes
    let x := if fromBank then bankInput (c.banks.getD leng {}) shape vecs cols else s.containerInput core i vecs cols
    let f := (outFmt d.outfmt).getD .int8
    let rows := finishCodes d lut x.outs q
    let out : Opnd := { space := sfld w 8 17 17, line := sfld w 8 16 0 + tileOffset c w }
    let area := if sfld w 8 17 17 = 0 then Area.sram core else Area.sb (core / 8)
    let n := rowsLines f.width x.outs rows
    vecs ≠ 0 ∧
    cols ≠ 0 ∧
    s.descriptor core i.t (sfld w 4 14 0) = some bytes ∧
    d.ok planned.2.2 = true ∧
    x.fault = none ∧
    (d.act = 2 → i.t.linesInside (sbOpnd (d.lutaddr * 4)) 4 = 4) ∧
    x.poisoned = false ∧
    s.mem.parity = [] ∧
    (fromBank = false → s.signBad core (containerReads c w vecs cols) cols = []) ∧
    s.poisoned (.sram core) (sfld w 4 14 0 / 2) = false ∧
    (d.act = 2 → s.rangePoisoned (.sb (core / 8)) (d.lutaddr * 256) 256 = false) ∧
    quantizeTile d (s.scaleTable core leng i.b) x.out0 x.accs = some q ∧
    (d.act = 2 → lut = ((s.loadLut core (s.bridgeOf core leng) d.lutaddr).core core).lutOf (s.bridgeOf core leng)) ∧
    (d.act ≠ 2 → lut = []) ∧
    i.t.linesInside out n = n ∧
    area.holds ((out.line + n) * 64 - 1) = true := by
  refine ⟨withDesc 255 bdesc (walking 255 bridgeW), 255, issue1 bridgeW, bdesc, [], List.replicate 2 (List.replicate 3 (some ⟨0, .none⟩)), ?_⟩
  repeat' apply And.intro
  all_goals decide +kernel

theorem test_meets_ArrayStepsWriteTheirRows_1 : ∃ (s : State) (core : Nat) (i : Issue) (faults : List (Nat × Int)) (bytes bb : Bytes) (q : List (List (Option Quant))),
    core < 256 ∧
    s.tablesOk = true ∧
    s.memOk = true ∧
    s.waitingDig core = none ∧
    s.issue? core 2 = some i ∧
    stepMasked (s.core core) i.w = false ∧
    (s.core core).dupGrant i.w = none ∧
    (s.cluster (core / 8)).owner = none ∧
    (s.cluster (core / 8)).waiters = [] ∧
    sfld i.w 4 21 21 = 0 ∧
    s.arrayFullDup ((s.arrayFor (core / 8)).getD (core / 8)) = false ∧
    s.descriptor core i.t (sfld i.w 4 14 0) = some bytes ∧
    s.mem.parity = [] ∧
    s.poisoned (.sram core) (sfld i.w 4 14 0 / 2) = false ∧
    let d := parseADesc bytes
    let c := s.core core
    let vecs := presentCount (sfld i.w 8 15 0 + tileMul c i.w * d.v) (c.limit (sfld i.w 4 17 15)) d.v
    let outs := presentCount (sfld i.w 8 31 16) (c.limit (sfld i.w 4 20 18)) d.n
    let bd := parseBDesc bb
    let x := s.digInput core i d bd vecs outs
    let got := deviate faults outs (digAccs d x.x x.weights outs)
    let f := (outFmt bd.outfmt).getD .int8
    let rows := finishCodes bd x.lut d.n q
    let line := d.outaddr + tileOffset c i.w
    let n := rowsLines f.width d.n rows
    d.op = 0 ∧
    vecs ≠ 0 ∧
    outs ≠ 0 ∧
    s.descriptor core i.t d.bdesc = some bb ∧
    d.ok = true ∧
    bd.ok d.v = true ∧
    bd.outfmt < 8 ∧
    x.fault = none ∧
    x.poisoned = false ∧
    s.poisoned (.sram core) (d.bdesc / 2) = false ∧
    quantizeTile bd x.scales 0 ((List.range d.v).map fun v => (List.range d.n).map fun j => if v < x.x.length ∧ j < outs then some ((got.getD v []).getD j 0) else none) = some q ∧
    i.t.linesInside (sbOpnd line) n = n ∧
    (Area.sb (core / 8)).holds ((line + n) * 64 - 1) = true := by
  refine ⟨withDesc 255 (adesc 0 2 ++ bdesc) (walking 255 digW), 255, issue1 digW, [], adesc 0 2, bdesc, [[some ⟨0, .none⟩, some ⟨0, .none⟩]], ?_⟩
  repeat' apply And.intro
  all_goals decide +kernel

theorem test_meets_ArrayStepsWriteTheirRows_2 : ∃ (s : State) (core : Nat) (i : Issue) (bytes : Bytes),
    core < 256 ∧
    s.tablesOk = true ∧
    s.memOk = true ∧
    s.waitingDig core = none ∧
    s.issue? core 2 = some i ∧
    stepMasked (s.core core) i.w = false ∧
    (s.core core).dupGrant i.w = none ∧
    (s.cluster (core / 8)).owner = none ∧
    (s.cluster (core / 8)).waiters = [] ∧
    sfld i.w 4 21 21 = 0 ∧
    s.arrayFullDup ((s.arrayFor (core / 8)).getD (core / 8)) = false ∧
    s.descriptor core i.t (sfld i.w 4 14 0) = some bytes ∧
    s.mem.parity = [] ∧
    s.poisoned (.sram core) (sfld i.w 4 14 0 / 2) = false ∧
    let d := parseADesc bytes
    let c := s.core core
    let sb := Area.sb (core / 8)
    let vecs := presentCount (sfld i.w 8 15 0 + tileMul c i.w * d.v) (c.limit (sfld i.w 4 17 15)) d.v
    let m := presentCount (sfld i.w 8 31 16) (c.limit (sfld i.w 4 20 18)) d.k
    let off := tileOffset c i.w
    let vl := (d.k + 63) / 64
    let tab := (List.range 256).map fun k => num (s.load sb (d.waddr * 64 + 2 * k) 2) 0 2
    let rows := (List.range d.v).map fun v =>
      if vecs ≤ v then List.replicate d.k (some 0)
      else ((softmaxRow tab ((List.range d.k).map fun j => elem .int8 (s.load sb ((d.inaddr + off + v * vl) * 64) d.k) j) m).map
        Int.ofNat).map some
    let n := d.v * vl
    d.op = 1 ∧
    vecs ≠ 0 ∧
    m ≠ 0 ∧
    d.ok = true ∧
    i.t.sbFault (d.inaddr + off) (vecs * vl) = none ∧
    i.t.sbFault d.waddr 8 = none ∧
    expTableOk tab = true ∧
    ((softmaxReads c i.w d vecs m).any fun r => s.rangePoisoned sb (r.1 * 64) (r.2 * 64)) = false ∧
    i.t.linesInside (sbOpnd (d.outaddr + off)) n = n ∧
    sb.holds ((d.outaddr + off + n) * 64 - 1) = true := by
  refine ⟨(withDesc 255 (adesc 1 0) (walking 255 digW)).store (.sb 31) 640 expTab, 255, issue1 digW, adesc 1 0, ?_⟩
  repeat' apply And.intro
  all_goals decide +kernel

theorem test_meets_ArrayGrantsAndDrones_1 : ∃ (s : State) (cl k : Nat),
    cl < 32 ∧
    k < 8 ∧
    s.tablesOk = true ∧
    s.frozen = false ∧
    (s.cluster cl).owner = none ∧
    s.asksArray (cl * 8 + k) = true := by
  refine ⟨walking 255 digW, 31, 7, ?_⟩
  repeat' apply And.intro
  all_goals decide +kernel

theorem test_meets_ArrayGrantsAndDrones_2 : ∃ (s : State) (cl k o : Nat),
    cl < 32 ∧
    k < 8 ∧
    (s.cluster cl).owner = some o := by
  refine ⟨inBatch.onCluster 31 fun c => { c with owner := some 2 }, 31, 7, 2, ?_⟩
  repeat' apply And.intro
  all_goals decide +kernel

theorem test_meets_ArrayGrantsAndDrones_3 : ∃ (s : State) (cl : Nat) (cut : Bool) (faults : List (Nat × Int)),
    cl < 32 ∧
    s.tablesOk = true ∧
    s.frozen = false ∧
    s.clusterActive cl = true ∧
    (s.cluster cl).arrayCheck.retired = false ∧
    (cut = true ∨ s.arrayBusy cl (if s.arrayFullDup cl = true then 3 else 4) s.walk.tileNo = true) := by
  refine ⟨serving, 31, true, [], ?_⟩
  repeat' apply And.intro
  all_goals decide +kernel

theorem test_meets_ArrayGrantsAndDrones_4 : ∃ (s : State) (cl : Nat),
    cl < 32 ∧
    s.tablesOk = true ∧
    s.frozen = false ∧
    s.clusterActive cl = true ∧
    (s.cluster cl).arrayCheck.retired = false ∧
    s.arrayBusy cl (if s.arrayFullDup cl = true then 3 else 4) s.walk.tileNo = false := by
  refine ⟨serving, 31, ?_⟩
  repeat' apply And.intro
  all_goals decide +kernel

theorem test_meets_MoveStepsCopyOrReduce_1 : ∃ (s : State) (core : Nat) (bad : List BadWord) (i : Issue) (sa da : Area),
    core < 256 ∧
    s.tablesOk = true ∧
    s.memOk = true ∧
    s.issue? core 3 = some i ∧
    stepMasked (s.core core) i.w = false ∧
    (s.core core).dupGrant i.w = none ∧
    (∀ f, f ∈ (s.core core).flight → f.unit ≠ 9) ∧
    s.mem.parity = [] ∧
    let w := i.w
    let c := s.core core
    let len := sfld w 0x10 23 0
    let n := presentCount (sfld w 0x14 15 0 + tileMul c w * len) (c.limit (sfld w 4 22 20)) len
    let src := moveSrc c w
    let dst := moveDst c w
    let reduce := sfld w 4 19 19 == 1
    n ≠ 0 ∧
    src.space ≠ 6 ∧
    dst.space ≠ 6 ∧
    s.areaOf core i.b i.t src = some sa ∧
    s.areaOf core i.b i.t dst = some da ∧
    sa ≠ da ∧
    s.reach i.b i.t src n = n ∧
    s.reach i.b i.t dst n = n ∧
    sa.holds ((src.line + n) * 64 - 1) = true ∧
    da.holds ((dst.line + n) * 64 - 1) = true ∧
    (reduce = true → ∀ k, k < n → signBadWords (s.load sa ((src.line + k) * 64) 64) = [] ∧ signBadWords (s.load da ((dst.line + k) * 64) 64) = []) ∧
    (∀ y, y ∈ bad → 16 * n ≤ y.word ∧ y.space ≠ 4) := by
  refine ⟨walking 255 (moveW 0), 255, [⟨0, 32, false, []⟩, ⟨1, 100, true, []⟩], issue1 (moveW 0), .sram 255, .sb 31, ?_⟩
  repeat' apply And.intro
  all_goals decide +kernel

theorem test_meets_MoveStepsCopyOrReduce_3 : ∃ (s : State) (core : Nat) (bad : List BadWord) (i : Issue) (sa da : Area) (g : Grant),
    core < 256 ∧
    s.tablesOk = true ∧
    s.shapesOk = true ∧
    s.issue? core 3 = some i ∧
    stepMasked (s.core core) i.w = false ∧
    (s.core core).dupGrant i.w = some g ∧
    (∀ f, f ∈ (s.core core).flight → f.unit ≠ 9) ∧
    s.mem.parity = [] ∧
    let w := i.w
    let c := s.core core
    let len := sfld w 0x10 23 0
    let n := presentCount (sfld w 0x14 15 0 + tileMul c w * len) (c.limit (sfld w 4 22 20)) len
    let src := moveSrc c w
    let dst := moveDst c w
    n ≠ 0 ∧
    src.space ≠ 6 ∧
    dst.space ≠ 6 ∧
    sfld w 4 19 19 = 0 ∧
    s.areaOf core i.b i.t src = some sa ∧
    s.areaOf core i.b i.t dst = some da ∧
    s.reach i.b i.t src n = n ∧
    s.reach i.b i.t dst n = n ∧
    s.checkRoom (core / 8) n = true ∧
    ((List.range n).all fun k => !s.poisoned sa (src.line + k)) = true ∧
    (∀ y, y ∈ bad → 16 * n ≤ y.word ∧ y.space ≠ 4) := by
  refine ⟨((walking 255 dupW).onCore 255 fun c => { c with tiles := [65535, 65535, 65535, 1], grants := [none, none, none, some ⟨15, 1, true⟩] }), 255, [⟨0, 32, false, []⟩, ⟨1, 100, true, []⟩], issue1 dupW, .sram 255, .sb 31, ⟨15, 1, true⟩, ?_⟩
  repeat' apply And.intro
  all_goals decide +kernel

theorem test_meets_MoveStepsCopyOrReduce_2 : ∃ (s : State) (core : Nat) (bad : List BadWord) (i : Issue),
    core < 256 ∧
    s.tablesOk = true ∧
    s.issue? core 3 = some i ∧
    stepMasked (s.core core) i.w = false ∧
    (s.core core).dupGrant i.w = none ∧
    (∀ f, f ∈ (s.core core).flight → f.unit ≠ 9) ∧
    s.mem.parity = [] ∧
    let w := i.w
    let c := s.core core
    let len := sfld w 0x10 23 0
    let n := presentCount (sfld w 0x14 15 0 + tileMul c w * len) (c.limit (sfld w 4 22 20)) len
    let src := moveSrc c w
    let dst := moveDst c w
    let dev := src.unit / 256
    n ≠ 0 ∧
    src.space = 6 ∧
    dst.space ≠ 6 ∧
    s.reach i.b i.t src n = n ∧
    s.reach i.b i.t dst n = n ∧
    (∀ y, y ∈ bad → y.space ≠ 4) := by
  refine ⟨walking 255 (moveW 6), 255, [], issue1 (moveW 6), ?_⟩
  repeat' apply And.intro
  all_goals decide +kernel

theorem test_meets_SyncStepsAndTokens_1 : ∃ (s : State) (core : Nat) (i : Issue),
    core < 256 ∧
    s.tablesOk = true ∧
    s.issue? core 6 = some i ∧
    i.t.steps[stepNo i.w]? = some i.w ∧
    (s.core core).sync = [] ∧
    s.blockedOn core = [] ∧
    let dest := stepPartner i.w
    let tok : Token := { ordinal := i.b, sender := coreCode s.group.devno core, chan := sfld i.w 4 17 14, run := stepRun i.w
                         empty := !(s.core core).pred (stepPred i.w), dead := (s.core core).runDead (stepRun i.w) }
    dest < 8192 ∧
    dest / 256 = s.group.devno ∧
    (s.core (dest % 256)).channelLoad tok.chan < 8 := by
  refine ⟨walking 255 signalW, 255, issue1 signalW, ?_⟩
  repeat' apply And.intro
  all_goals decide +kernel

theorem test_meets_SyncStepsAndTokens_2 : ∃ (s : State) (core : Nat) (i : Issue),
    core < 256 ∧
    s.tablesOk = true ∧
    s.issue? core 7 = some i ∧
    (s.core core).sync = [] ∧
    s.blockedOn core = [] ∧
    (s.core core).cur = some i.b ∧
    (s.batch? i.b).elim false (·.replayed) = false ∧
    (s.core core).runDead (stepRun i.w) = false ∧
    (s.core core).heldToken i.b (stepPartner i.w) (sfld i.w 4 17 14) = none := by
  refine ⟨walking 255 waitW, 255, issue1 waitW, ?_⟩
  repeat' apply And.intro
  all_goals decide +kernel

theorem test_meets_SyncStepsAndTokens_3 : ∃ (s : State) (core : Nat) (i : Issue) (tok : Token),
    core < 256 ∧
    s.tablesOk = true ∧
    s.issue? core 7 = some i ∧
    i.t.steps[stepNo i.w]? = some i.w ∧
    (∀ k, (s.core k).sync = []) ∧
    (s.core core).cur = some i.b ∧
    (s.batch? i.b).elim false (·.replayed) = false ∧
    (s.core core).runDead (stepRun i.w) = false ∧
    tok.dead = false ∧
    sfld i.w 8 26 24 ≠ 0 ∧
    s.shapesOk = true ∧
    (s.core core).heldToken i.b (stepPartner i.w) (sfld i.w 4 17 14) = some tok := by
  refine ⟨(walking 255 waitW).onCore 255 fun c => { c with channels := [⟨9, 7, 15, 15, true, false⟩] }, 255, issue1 waitW, ⟨9, 7, 15, 15, true, false⟩, ?_⟩
  repeat' apply And.intro
  all_goals first | exact sync_one _ 255 _ rfl rfl | decide +kernel

theorem test_meets_SyncStepsAndTokens_4 : ∃ (s : State) (core : Nat) (tok : Token),
    core < 256 ∧
    s.tablesOk = true ∧
    s.frozen = false ∧
    (s.core core).nextInbound tok.sender tok.chan = some tok ∧
    (s.core core).sync = [] ∧
    s.blockedOn core = [] ∧
    (s.core core).lateFor.contains (tok.ordinal, tok.sender, tok.chan) = false := by
  refine ⟨(inBatch.onCore 255 fun c => { c with inbound := [⟨9, 7, 15, 15, true, false⟩, ⟨10, 7, 15, 15, true, false⟩] }).onCore 7 fun c => { c with outgoing := [(255, ⟨9, 7, 15, 15, true, false⟩)] }, 255, ⟨9, 7, 15, 15, true, false⟩, ?_⟩
  repeat' apply And.intro
  all_goals decide +kernel

theorem test_meets_SyncStepsAndTokens_5 : ∃ (s : State) (core n sender chan pdst run : Nat),
    core < 256 ∧
    s.tablesOk = true ∧
    s.frozen = false ∧
    (s.core core).sync = [.wait n sender chan pdst run true false] ∧
    s.blockedOn core = [] ∧
    pdst ≠ 0 ∧
    s.shapesOk = true ∧
    pdst < 8 ∧
    (s.core core).runDead run = false ∧
    (s.core core).heldToken ((s.core core).cur.getD 0) sender chan = none := by
  refine ⟨(walking 255 waitW).onCore 255 fun c => { c with sync := [.wait 0 7 15 7 15 true false] }, 255, 0, 7, 15, 7, 15, ?_⟩
  repeat' apply And.intro
  all_goals decide +kernel

theorem test_meets_SyncStepsAndTokens_6 : ∃ (s : State) (core b run cause : Nat) (r : RunRec),
    core < 256 ∧
    s.tablesOk = true ∧
    s.frozen = false ∧
    s.run? b run = some r ∧
    r.cause ≠ 0 ∧
    cause ≠ 0 ∧
    (s.core core).sync = [] ∧
    s.blockedOn core = [] := by
  refine ⟨inBatch.onWalk fun w => { w with runs := [{ live 9 15 with cause := 5 }] }, 255, 9, 15, 5, { live 9 15 with cause := 5 }, ?_⟩
  repeat' apply And.intro
  all_goals decide +kernel

theorem test_meets_TakeShapeAndProbeSteps_1 : ∃ (s : State) (core : Nat) (i : Issue),
    core < 256 ∧
    s.tablesOk = true ∧
    s.issue? core 5 = some i ∧
    stepMasked (s.core core) i.w = false ∧
    let cl := core / 8
    let k := sfld i.w 4 3 0
    let e := s.counterEntry cl (s.core core).side k
    let bank := s.ctrBank cl k i.b
    let tdst := sfld i.w 4 5 4
    let pdst := sfld i.w 4 8 6
    let tile := if ceMap e = true then num (s.load (.sb cl) (ceMapAddr e * 64 + 2 * bank.next) 2) 0 2 else bank.next
    ceWithdraw e = false ∧
    bank.state = .opened ∧
    bank.ordinal = i.b ∧
    bank.next < ceLimit e ∧
    s.shapesOk = true := by
  refine ⟨(walking 255 takeW).onMem (fun m => { m with counters := [(62, List.replicate 16 4095#128)] }) |>.onCluster 31 fun c => { c with banks := [(31, { state := .opened, ordinal := 9, next := 4094 })] }, 255, issue1 takeW, ?_⟩
  repeat' apply And.intro
  all_goals decide +kernel

theorem test_meets_TakeShapeAndProbeSteps_2 : ∃ (s : State) (core : Nat) (i : Issue),
    core < 256 ∧
    s.tablesOk = true ∧
    s.issue? core 8 = some i ∧
    stepMasked (s.core core) i.w = false ∧
    let addr := sfld i.w 8 20 0 * 4
    let fromStream := sfld i.w 4 1 0 == 0
    let a := shapeArea core i.w
    let v := if fromStream then s.streamShape i.b i.w else num (s.load a addr 4) 0 2
    let l := sfld i.w 4 4 2
    (fromStream = false → i.t.linesInside { space := if sfld i.w 4 1 0 = 2 then 1 else 0, line := addr / 64 } 1 = 1 ∧ s.poisoned a (addr / 64) = false ∧ s.badWords a (addr / 64) = []) ∧
    v ≤ sfld i.w 4 31 16 ∧
    s.shapesOk = true := by
  refine ⟨walking 255 (shapeW 0), 255, issue1 (shapeW 0), ?_⟩
  repeat' apply And.intro
  all_goals decide +kernel

theorem test_meets_TakeShapeAndProbeSteps_2_memory : ∃ (s : State) (core : Nat) (i : Issue),
    core < 256 ∧
    s.tablesOk = true ∧
    s.issue? core 8 = some i ∧
    stepMasked (s.core core) i.w = false ∧
    let addr := sfld i.w 8 20 0 * 4
    let fromStream := sfld i.w 4 1 0 == 0
    let a := shapeArea core i.w
    let v := if fromStream then s.streamShape i.b i.w else num (s.load a addr 4) 0 2
    let l := sfld i.w 4 4 2
    (fromStream = false → i.t.linesInside { space := if sfld i.w 4 1 0 = 2 then 1 else 0, line := addr / 64 } 1 = 1 ∧ s.poisoned a (addr / 64) = false ∧ s.badWords a (addr / 64) = []) ∧
    v ≤ sfld i.w 4 31 16 ∧
    s.shapesOk = true ∧
    v = 65535 := by
  refine ⟨(walking 255 (shapeW 2)).store (.sb 31) 64 [255#8, 255#8], 255, issue1 (shapeW 2), ?_⟩
  repeat' apply And.intro
  all_goals decide +kernel

theorem test_meets_TakeShapeAndProbeSteps_4 : ∃ (s : State) (core : Nat) (i : Issue),
    core < 256 ∧
    s.tablesOk = true ∧
    s.shapesOk = true ∧
    s.issue? core 8 = some i ∧
    stepMasked (s.core core) i.w = false ∧
    sfld i.w 4 1 0 = 1 ∧
    let line := sfld i.w 8 20 0 * 4 / 64
    i.t.linesInside (sramOpnd line) 1 = 1 ∧
    s.poisoned (.sram core) line = false ∧
    i.t.holdsDesc line = false ∧
    s.producedIn core i.b { space := 0, line := line } (stepNo i.w) = none := by
  refine ⟨walking 255 (shapeW 1), 255, issue1 (shapeW 1), ?_⟩
  repeat' apply And.intro
  all_goals decide +kernel

theorem test_meets_TakeShapeAndProbeSteps_3 : ∃ (s : State) (core n : Nat) (i : Issue),
    core < 256 ∧
    s.tablesOk = true ∧
    s.issue? core 10 = some i ∧
    stepMasked (s.core core) i.w = false ∧
    i.t.linesInside (sramOpnd (sfld i.w 8 13 0)) 18 = 18 ∧
    s.siteOf core (sfld i.w 4 1 0) = some n := by
  refine ⟨walking 255 probeW, 255, 1278, issue1 probeW, ?_⟩
  repeat' apply And.intro
  all_goals decide +kernel

theorem test_meets_DroneStepsServeTheirSites_1 : ∃ (s : State) (core k : Nat) (c : Instr) (faults : KernelFaults) (i : Issue),
    core < 256 ∧
    s.tablesOk = true ∧
    s.droneIssue? core k = some i ∧
    (stepMasked (s.core core) i.w = true ∨ s.stepLive core i.b i.w = false) ∧
    ((k = 0 ∧ c = .droneKernelSlot core faults) ∨ (k = 1 ∧ c = .droneTuningWindow core) ∨ (k = 2 ∧ c = .droneScanSlot core)) := by
  refine ⟨walking 255 (droneW 0 1), 255, 0, .droneKernelSlot 255 ⟨[], [], []⟩, ⟨[], [], []⟩, issue1 (droneW 0 1), ?_⟩
  repeat' apply And.intro
  all_goals decide +kernel

theorem test_meets_DroneStepsServeTheirSites_2 : ∃ (s : State) (core : Nat) (margins : List (Nat × Nat)) (i : Issue),
    core < 256 ∧
    s.tablesOk = true ∧
    s.droneIssue? core 0 = some i ∧
    stepMasked (s.core core) i.w = false ∧
    s.stepLive core i.b i.w = true ∧
    (∀ n, n ∈ s.droneSites core i.w → (s.site n).state = .standby ∨ s.kEngSite n (s.sideOf core i.b) (droneSeed i.b) [] = s.kEngExact n (s.sideOf core i.b) (droneSeed i.b)) := by
  refine ⟨walking 255 (droneW 0 0), 255, [(1275, 3)], issue1 (droneW 0 0), ?_⟩
  repeat' apply And.intro
  all_goals first | exact fun n _ => Or.inr (kEng_stands _ rfl _ _ _) | decide +kernel

theorem test_meets_DroneStepsServeTheirSites_3 : ∃ (s : State) (core : Nat) (i : Issue),
    core < 256 ∧
    s.tablesOk = true ∧
    s.droneIssue? core 1 = some i ∧
    stepMasked (s.core core) i.w = false ∧
    s.stepLive core i.b i.w = true ∧
    let sites := (s.droneSites core i.w).filter fun n => !(s.site n).pending.isEmpty && (s.site n).passing.isNone
    sites ≠ [] := by
  refine ⟨(walking 255 (droneW 1 0)).onSite 1279 fun x => { x with state := .standby, pending := [.periodic] }, 255, issue1 (droneW 1 0), ?_⟩
  repeat' apply And.intro
  all_goals decide +kernel

theorem test_meets_DroneStepsServeTheirSites_4 : ∃ (s : State) (core : Nat) (i : Issue),
    core < 256 ∧
    s.tablesOk = true ∧
    s.droneIssue? core 2 = some i ∧
    stepMasked (s.core core) i.w = false ∧
    s.stepLive core i.b i.w = true ∧
    let sites := (s.droneSites core i.w).filter fun n => (s.plane (2 * n + s.scanSide n)).cls == 0
    sites ≠ [] := by
  refine ⟨walking 255 (droneW 2 0), 255, issue1 (droneW 2 0), ?_⟩
  repeat' apply And.intro
  all_goals decide +kernel

theorem test_meets_MarksOfATab_1 : ∃ (s : State) (core ns : Nat) (i : Issue),
    core < 256 ∧
    s.tablesOk = true ∧
    s.markIssue? core 0 = some i ∧
    (∀ k, k < 16 → ceLimit (s.counterEntry (core / 8) (s.core core).side k) = 0 ∨ ceCloseId (s.counterEntry (core / 8) (s.core core).side k) ≠ sfld i.w 4 15 0) := by
  refine ⟨walking 255 (markW 0 65535), 255, 1000, issue1 (markW 0 65535), ?_⟩
  repeat' apply And.intro
  all_goals decide +kernel

theorem test_meets_MarksOfATab_2 : ∃ (s : State) (core : Nat) (i : Issue),
    core < 256 ∧
    s.tablesOk = true ∧
    s.markIssue? core 1 = some i := by
  refine ⟨walking 255 (markW 1 7), 255, issue1 (markW 1 7), ?_⟩
  repeat' apply And.intro
  all_goals decide +kernel

theorem test_meets_MarksOfATab_3 : ∃ (s : State) (core : Nat) (i : Issue) (x : Tensor) (r : RunRec),
    core < 256 ∧
    s.tablesOk = true ∧
    s.markIssue? core 2 = some i ∧
    stepMasked (s.core core) i.w = false ∧
    sfld i.w 4 15 0 ≠ 0xFFFF ∧
    s.publishesPoison core i.b i.t (sfld i.w 4 15 0) = false ∧
    s.tensorOf core i.b i.t (sfld i.w 4 15 0) = some x ∧
    s.run? i.b (stepRun i.w) = some r := by
  refine ⟨withDesc 255 (leBytes 4 3 ++ leBytes 4 0 ++ leBytes 4 2 ++ leBytes 4 1) (walking 255 (markW 2 100)), 255, issue1 (markW 2 100), ⟨3, 0, 2, [0#8, 0#8]⟩, live 9 15, ?_⟩
  repeat' apply And.intro
  all_goals decide +kernel

theorem test_meets_EndAndBlocksOfATab_1 : ∃ (s : State) (core : Nat) (i : Issue),
    core < 256 ∧
    s.tablesOk = true ∧
    s.issue? core 0 = some i := by
  refine ⟨walking 255 endW, 255, issue1 endW, ?_⟩
  repeat' apply And.intro
  all_goals decide +kernel

theorem test_meets_EndAndBlocksOfATab_2 : ∃ (s : State) (core block b : Nat) (tab : Tab) (good : List Bool),
    core < 256 ∧
    s.tablesOk = true ∧
    s.fetches core block b tab ∧
    ((blockSources tab (s.firstFetch core block tab)).headD 1 = 0 → s.sourceHolds core block tab 0 = true) := by
  refine ⟨longWalk false, 255, 7, 9, longTab false, [true, true], ?_⟩
  repeat' apply And.intro
  all_goals decide +kernel

theorem test_meets_EndAndBlocksOfATab_3 : ∃ (s : State) (core block b x y : Nat) (l : List Nat) (tab : Tab),
    core < 256 ∧
    s.tablesOk = true ∧
    s.memOk = true ∧
    s.fetches core block b tab ∧
    blockSources tab (s.firstFetch core block tab) = x :: y :: l ∧
    x ≠ y ∧
    let at_ := tab.blockAt block
    let bytes := tab.blockBytes block
    at_ + bytes.length ≤ 2 ^ 23 := by
  refine ⟨(longWalk true).onCore 255 (fun c => { c with ring := [1] }), 255, 1, 9, 0, 1, [2], longTab true, ?_⟩
  repeat' apply And.intro
  all_goals decide +kernel

theorem test_meets_ResetSelectsFirmware_1 : ∃ (s : State) (straps : Nat) (testEn : Bool) (rootKeys : Bytes) (slots : List FwSlot) (f : FwSlot),
    s.dev.resetHeld = true ∧
    bit straps 0 = false ∧
    digest32 rootKeys = s.flash.rootFuse ∧
    s.flash.dirs.length = 2 ∧
    s.flash.gen + 1 < 2 ^ 32 ∧
    let gaveUp := s.flash.trial && decide (3 ≤ s.flash.attempts)
    let a := if gaveUp then 1 - s.flash.active else s.flash.active
    let areas := (Flash.factory slots s.flash).slots
    areas[a]? = some f ∧
    FwSlot.accepted s.flash.arbValue (a == 2) f = true := by
  refine ⟨(State.reset.onFlash fun f => { f with rootFuse := digest32 [] }), 8, true, [], [fw 5, fw 6], fw 5, ?_⟩
  repeat' apply And.intro
  all_goals first | decide +kernel | rfl

theorem test_meets_ResetSelectsFirmware_1_abandoned : ∃ (s : State) (straps : Nat) (testEn : Bool) (rootKeys : Bytes) (slots : List FwSlot) (f : FwSlot),
    s.dev.resetHeld = true ∧
    bit straps 0 = false ∧
    digest32 rootKeys = s.flash.rootFuse ∧
    s.flash.dirs.length = 2 ∧
    s.flash.gen + 1 < 2 ^ 32 ∧
    let gaveUp := s.flash.trial && decide (3 ≤ s.flash.attempts)
    let a := if gaveUp then 1 - s.flash.active else s.flash.active
    let areas := (Flash.factory slots s.flash).slots
    areas[a]? = some f ∧
    FwSlot.accepted s.flash.arbValue (a == 2) f = true ∧
    gaveUp = true := by
  refine ⟨abandoning, 8, false, [], [fw 5, fw 6], fw 6, ?_⟩
  repeat' apply And.intro
  all_goals first | decide +kernel | exact abandoning_slot

theorem test_meets_ResetSelectsFirmware_2_1 : ∃ (s : State) (straps : Nat) (testEn railsOk crystalOk flashOk : Bool) (rootKeys : Bytes) (slots : List FwSlot),
    s.dev.resetHeld = true ∧
    (railsOk && crystalOk) = false := by
  refine ⟨State.reset, 0, false, false, true, true, [], [], ?_⟩
  repeat' apply And.intro
  all_goals decide +kernel

theorem test_meets_ResetSelectsFirmware_2_2 : ∃ (s : State) (straps : Nat) (testEn railsOk crystalOk flashOk : Bool) (rootKeys : Bytes) (slots : List FwSlot),
    s.dev.resetHeld = true ∧
    railsOk = true ∧
    crystalOk = true ∧
    bit straps 0 = true ∨ digest32 rootKeys ≠ s.flash.rootFuse ∨ flashOk = false := by
  refine ⟨State.reset, 1, false, true, true, false, [], [], ?_⟩
  repeat' apply And.intro
  all_goals decide +kernel

theorem test_meets_ResetSelectsFirmware_3 : ∃ (s : State) (slot : FwSlot),
    s.dev.state = .boot ∧
    s.dev.resetHeld = false ∧
    s.dev.bootStuck = false ∧
    s.dev.bootPath = 3 ∧
    FwSlot.accepted s.flash.arbValue false slot = true ∧
    s.flash.dirs.length = 2 ∧
    s.flash.gen + 1 < 2 ^ 32 := by
  refine ⟨(dev .boot).onDev fun x => { x with bootPath := 3 }, fw 6, ?_⟩
  repeat' apply And.intro
  all_goals decide +kernel

theorem test_meets_ResetSelectsFirmware_4 : ∃ (s : State),
    s.dev.resetHeld = false ∧
    s.dev.debug = false := by
  refine ⟨serving, ?_⟩
  repeat' apply And.intro
  all_goals decide +kernel

theorem test_meets_BootReachesReady_1 : ∃ (s : State) (entropyOk : Bool),
    s.dev.state = .boot ∧
    s.dev.resetHeld = false ∧
    s.dev.bootStuck = false ∧
    s.dev.bootPath ≠ 3 ∧
    s.dev.recovered = false ∧
    s.tablesOk = true ∧
    s.dev.pairHalted.contains 2 = false := by
  refine ⟨State.reset.onDev (fun x => { x with resetHeld := false }) |>.onKeep fun k => { k with sideRec := some ⟨1, 7, 3, zeros 32⟩ }, true, ?_⟩
  repeat' apply And.intro
  all_goals decide +kernel

theorem test_meets_BootReachesReady_1_recovery : ∃ (s : State) (entropyOk : Bool),
    s.dev.state = .boot ∧
    s.dev.resetHeld = false ∧
    s.dev.bootStuck = false ∧
    s.dev.bootPath ≠ 3 ∧
    s.dev.recovered = false ∧
    s.tablesOk = true ∧
    s.dev.pairHalted.contains 2 = false ∧
    s.dev.bootPath = 2 := by
  refine ⟨State.reset.onDev fun x => { x with resetHeld := false, bootPath := 2 }, false, ?_⟩
  repeat' apply And.intro
  all_goals decide +kernel

theorem test_meets_BootReachesReady_2_1 : ∃ (s : State) (imageOk : Bool),
    s.dev.state = .selftest ∧
    5 ≤ s.dev.selftestRound ∧
    s.noPassRuns = true ∧
    s.dev.safeCauses = [] ∧
    s.dev.entropyBad = false ∧
    (s.bootImage = none ∨ imageOk = false ∨ ∃ n i, s.bootImage = some (n, i) ∧ (i.entries.zipIdx.all fun e => s.flashObjectOk n i e || (s.entryAt s.capo.side e.2).any fun x => x.2.verified) = false) ∧
    s.dev.safeNLow = false ∧
    s.degradedCondition = false := by
  refine ⟨(dev .selftest).onDev fun x => { x with selftestRound := 5 }, true, ?_⟩
  repeat' apply And.intro
  all_goals first | exact Or.inl rfl | decide +kernel

theorem test_meets_BootReachesReady_2_2 : ∃ (s : State) (imageOk : Bool),
    s.dev.state = .selftest ∧
    5 ≤ s.dev.selftestRound ∧
    s.noPassRuns = true ∧
    s.dev.safeCauses = [] ∧
    s.dev.entropyBad = false ∧
    (s.bootImage = none ∨ imageOk = false ∨ ∃ n i, s.bootImage = some (n, i) ∧ (i.entries.zipIdx.all fun e => s.flashObjectOk n i e || (s.entryAt s.capo.side e.2).any fun x => x.2.verified) = false) ∧
    s.dev.safeNLow = true := by
  refine ⟨(dev .selftest).onDev fun x => { x with safeNLow := true, selftestRound := 5 }, false, ?_⟩
  repeat' apply And.intro
  all_goals first | exact Or.inl rfl | decide +kernel

theorem test_meets_BootReachesReady_3 : ∃ (s : State) (n : Nat) (i : Image),
    s.dev.state = .selftest ∧
    5 ≤ s.dev.selftestRound ∧
    s.noPassRuns = true ∧
    s.bootImage = some (n, i) ∧
    i.entries.zipIdx.all (s.flashObjectOk n i) = true := by
  refine ⟨(((dev .selftest).onDev fun x => { x with selftestRound := 5 }).onKeep fun k => { k with sideRec := some ⟨1, 7, 3, zeros 32⟩ }).onFlash fun f => { f with images := [(0, img)] }, 0, img, ?_⟩
  repeat' apply And.intro
  all_goals decide +kernel

theorem test_meets_FirmwareIsDeliveredAndActivated_1 : ∃ (s : State) (r : Req) (x : Session) (data : Bytes) (slot : FwSlot),
    s.admitsSegment r x 0x9030 1 ∧
    s.begins r 0x9030 1 ∧
    s.romRecovery = false ∧
    data.length ≤ 4194304 := by
  refine ⟨updating (some true) false, rq 4, ses, zeros 1024, fw 7, ?_⟩
  repeat' apply And.intro
  all_goals decide +kernel

theorem test_meets_FirmwareIsDeliveredAndActivated_2 : ∃ (s : State) (r : Req) (x : Session) (y : Transfer) (offset : Nat) (data : Bytes) (slot : FwSlot),
    s.admitsSegment r x 0x9030 1 ∧
    s.follows r 0x9030 1 offset y ∧
    s.romRecovery = false ∧
    offset + data.length ≤ 4194304 := by
  refine ⟨(updating (some true) false).onDict fun x => { x with transfers := [⟨2, 1, 0x9030, 1, true, 4193280, zeros 1000, [], false, 0, []⟩] }, rq 4, ses, ⟨2, 1, 0x9030, 1, true, 4193280, zeros 1000, [], false, 0, []⟩, 4194280, zeros 24, fw 7, ?_⟩
  repeat' apply And.intro
  all_goals decide +kernel

theorem test_meets_FirmwareIsDeliveredAndActivated_3 : ∃ (s : State) (r : Req) (x : Session),
    s.writes r x 0x9030 2 [1#8] ∧
    s.flash.delivered = some true ∧
    s.flash.activateNext = false ∧
    s.flash.dirs.length = 2 ∧
    s.flash.gen + 1 < 2 ^ 32 := by
  refine ⟨updating (some true) false, rq 2, ses, ?_⟩
  repeat' apply And.intro
  all_goals decide +kernel

theorem test_meets_FirmwareIsDeliveredAndActivated_4 : ∃ (s : State) (r : Req) (x : Session),
    s.writes r x 0x9030 2 [2#8] ∧
    s.flash.delivered = some true ∧
    s.flash.activateNext = false ∧
    s.flash.dirs.length = 2 ∧
    s.flash.gen + 1 < 2 ^ 32 := by
  refine ⟨updating (some true) false, rq 2, ses, ?_⟩
  repeat' apply And.intro
  all_goals decide +kernel

theorem test_meets_FirmwareIsDeliveredAndActivated_5 : ∃ (s : State) (r : Req) (x : Session),
    s.writes r x 0x9030 2 [3#8] ∧
    s.flash.delivered = some true ∧
    s.flash.dirs.length = 2 ∧
    s.flash.gen + 1 < 2 ^ 32 := by
  refine ⟨updating (some true) true, rq 2, ses, ?_⟩
  repeat' apply And.intro
  all_goals decide +kernel

theorem test_meets_FirmwareIsDeliveredAndActivated_5_idle : ∃ (s : State) (r : Req) (x : Session),
    s.writes r x 0x9030 2 [3#8] ∧
    s.flash.delivered = some true ∧
    s.flash.dirs.length = 2 ∧
    s.flash.gen + 1 < 2 ^ 32 ∧
    s.flash.activateNext = false := by
  refine ⟨updating (some true) false, rq 2, ses, ?_⟩
  repeat' apply And.intro
  all_goals decide +kernel

theorem test_meets_FirmwareIsDeliveredAndActivated_6_1 : ∃ (s : State) (r : Req) (x : Session) (c : BitVec 8),
    s.writes r x 0x9030 2 [c] ∧
    s.flash.delivered ≠ some true ∧
    c = 1#8 := by
  refine ⟨updating (some false) false, rq 2, ses, 1#8, ?_⟩
  repeat' apply And.intro
  all_goals decide +kernel

theorem test_meets_FirmwareIsDeliveredAndActivated_6_2 : ∃ (s : State) (r : Req) (x : Session) (c : BitVec 8),
    s.writes r x 0x9030 2 [c] ∧
    s.flash.delivered ≠ some true ∧
    c = 2#8 := by
  refine ⟨updating none false, rq 2, ses, 2#8, ?_⟩
  repeat' apply And.intro
  all_goals decide +kernel

theorem test_meets_FirmwareIsDeliveredAndActivated_6_3 : ∃ (s : State) (r : Req) (x : Session) (c : BitVec 8),
    s.writes r x 0x9030 2 [c] ∧
    s.flash.delivered ≠ some true ∧
    c = 3#8 := by
  refine ⟨updating none false, rq 2, ses, 3#8, ?_⟩
  repeat' apply And.intro
  all_goals decide +kernel

theorem test_meets_KeysAreWritten_1 : ∃ (s : State) (r : Req) (data : Bytes),
    s.writesPlain r 0x9060 1 data ∧
    s.flash.provisioned = false ∧
    s.dev.state = .ready ∧
    data.length = 4096 ∧
    keyRecordOk 2 (data.take 2048) = true ∧
    num data 1984 1 = 2 ∧
    keyRecordOk 1 (data.drop 2048) = true ∧
    s.capo.staged = none := by
  refine ⟨dev .ready, plain 4, keyRec 2#8 ++ keyRec 1#8, ?_⟩
  repeat' apply And.intro
  all_goals decide +kernel

theorem test_meets_KeysAreWritten_2_1 : ∃ (s : State) (r : Req) (x : Session) (slot : Nat) (data : Bytes),
    s.writes r x 0x9010 1 data ∧
    data.length = 2048 ∧
    keyRecordOk 2 data = true ∧
    1 ≤ slot ∧
    slot ≤ 7 ∧
    ¬(slot = x.slot ∧ num data 1984 1 = 0) := by
  refine ⟨(open_ .ready).onDict fun x => { x with sessions := [ses, { ses with sid := 2, slot := 7 }] }, rq 4, ses, 7, keyRec 1#8, ?_⟩
  repeat' apply And.intro
  all_goals decide +kernel

theorem test_meets_KeysAreWritten_2_2 : ∃ (s : State) (r : Req) (x : Session) (slot : Nat) (data : Bytes),
    s.writes r x 0x9010 1 data ∧
    data.length = 2048 ∧
    keyRecordOk 2 data = true ∧
    slot = 0 := by
  refine ⟨open_ .ready, rq 4, ses, 0, keyRec 1#8, ?_⟩
  repeat' apply And.intro
  all_goals decide +kernel

theorem test_meets_KeysAreWritten_3_1 : ∃ (s : State) (r : Req) (x : Session) (slot : Nat) (data : Bytes),
    s.writes r x 0x9040 1 data ∧
    data.length = 2048 ∧
    keyRecordOk 1 data = true ∧
    1 ≤ slot ∧
    slot ≤ 7 ∧
    s.capo.staged = none := by
  refine ⟨open_ .ready, rq 4, ses, 7, keyRec 1#8, ?_⟩
  repeat' apply And.intro
  all_goals decide +kernel

theorem test_meets_KeysAreWritten_3_2 : ∃ (s : State) (r : Req) (x : Session) (slot : Nat) (data : Bytes) (i : Image),
    s.writes r x 0x9040 1 data ∧
    data.length = 2048 ∧
    keyRecordOk 1 data = true ∧
    1 ≤ slot ∧
    slot ≤ 7 ∧
    s.capo.staged = some i ∧
    s.capo.state = .staged ∧
    s.capo.selected = none ∧
    ({ s with flash := { s.flash with imageKeys := tput0 [] slot data s.flash.imageKeys } }).imageKey? i.keyid = none := by
  refine ⟨(open_ .ready).onCapo fun c => { c with state := .staged, staged := some img }, rq 4, ses, 1, keyRec 0#8, img, ?_⟩
  repeat' apply And.intro
  all_goals decide +kernel

theorem test_meets_KeysAreWritten_3_3 : ∃ (s : State) (r : Req) (x : Session) (slot : Nat) (data : Bytes),
    s.writes r x 0x9040 1 data ∧
    data.length = 2048 ∧
    keyRecordOk 1 data = true ∧
    slot = 0 := by
  refine ⟨open_ .ready, rq 4, ses, 0, keyRec 1#8, ?_⟩
  repeat' apply And.intro
  all_goals decide +kernel

theorem test_meets_MacsecKeysAndFrames_1 : ∃ (s : State) (r : Req) (x : Session) (mac an : Nat) (sci : Bytes) (sas : List SaWrite),
    s.writes r x 0x9050 2 [] ∧
    mac ≤ 1 ∧
    an ≤ 1 ∧
    sci.length = 8 ∧
    sas.length = 10 ∧
    (∀ a ∈ sas, a.sci.length = 8 ∧ a.sak.length = 32) := by
  refine ⟨open_ .ready, rq 2, ses, 1, 1, zeros 8, List.replicate 10 ⟨zeros 8, zeros 32, 1, true⟩, ?_⟩
  repeat' apply And.intro
  all_goals decide +kernel

theorem test_meets_MacsecKeysAndFrames_2_1 : ∃ (s : State) (mac channel an pn : Nat) (a : Sa),
    mac < 2 ∧
    channel < 4 ∧
    an < 2 ∧
    s.macsecOn mac = true ∧
    let key := mac * 16 + 2 + channel * 2 + an
    s.macsec.sas.find? (fun e => e.1 == key) = some (key, a) ∧
    a.pn ≤ pn + s.setting 0x9050 3 64 := by
  refine ⟨(serving.onDict fun x => { x with settings := [(0x905001, [1#8, 1#8])] }).onMacsec fun m => { m with sas := [(25, ⟨zeros 8, zeros 32, 164, true⟩)] }, 1, 3, 1, 100, ⟨zeros 8, zeros 32, 164, true⟩, ?_⟩
  repeat' apply And.intro
  all_goals decide +kernel

theorem test_meets_MacsecKeysAndFrames_2_2 : ∃ (s : State) (mac channel an pn : Nat) (a : Sa) (present : Bool),
    mac < 2 ∧
    channel < 4 ∧
    an < 2 ∧
    s.macsecOn mac = true ∧
    let key := mac * 16 + 2 + channel * 2 + an
    s.macsec.sas.find? (fun e => e.1 == key) = some (key, a) := by
  refine ⟨(serving.onDict fun x => { x with settings := [(0x905001, [1#8, 1#8])] }).onMacsec fun m => { m with sas := [(25, ⟨zeros 8, zeros 32, 164, true⟩)] }, 1, 3, 1, 100, ⟨zeros 8, zeros 32, 164, true⟩, true, ?_⟩
  repeat' apply And.intro
  all_goals decide +kernel

theorem test_meets_PortsTrainAndFall_1 : ∃ (s : State) (port : Nat) (nonce : Bytes),
    port < 6 ∧
    (s.port port).state = .training ∧
    s.dev.entropyBad = false := by
  refine ⟨withPort { state := .training }, 0, zeros 32, ?_⟩
  repeat' apply And.intro
  all_goals decide +kernel

theorem test_meets_PortsTrainAndFall_2 : ∃ (s : State) (port : Nat),
    port < 6 ∧
    (s.port port).state = .training := by
  refine ⟨withPort { state := .training }, 0, ?_⟩
  repeat' apply And.intro
  all_goals decide +kernel

theorem test_meets_PortsTrainAndFall_3 : ∃ (s : State) (port : Nat),
    port < 6 ∧
    s.serdesOff = false ∧
    ((s.port port).state = .absent ∨ (s.port port).state = .down) := by
  refine ⟨withPort { state := .absent }, 0, ?_⟩
  repeat' apply And.intro
  all_goals decide +kernel

theorem test_meets_PortsTrainAndFall_4_1 : ∃ (s : State) (port cls : Nat),
    port < 6 ∧
    (∀ m ∈ s.group.members, m ≠ s.group.devno → (s.onPort port fun x => { x with state := .down }).routePort m ≠ none) ∧
    let p := s.port port
    p.state = .up := by
  refine ⟨(((member 0).onGroup fun g => { g with members := [0, 3] }).onPort 0 fun _ => { upPort with quarantines := 1 }), 0, 0, ?_⟩
  repeat' apply And.intro
  all_goals decide +kernel

theorem test_meets_PortsTrainAndFall_4_2 : ∃ (s : State) (port cls : Nat),
    port < 6 ∧
    (∀ m ∈ s.group.members, m ≠ s.group.devno → (s.onPort port fun x => { x with state := .down }).routePort m ≠ none) ∧
    let p := s.port port
    p.starves cls = true := by
  refine ⟨(((member 0).onGroup fun g => { g with members := [0, 3] }).onPort 0 fun _ => { upPort with credits := [64, 64, 0, 64], queue := [⟨0, 2, 2, 0, 1, zeros 8, []⟩] }), 0, 2, ?_⟩
  repeat' apply And.intro
  all_goals decide +kernel

theorem test_meets_PortsTrainAndFall_4_3 : ∃ (s : State) (port cls : Nat),
    port < 6 ∧
    (∀ m ∈ s.group.members, m ≠ s.group.devno → (s.onPort port fun x => { x with state := .down }).routePort m ≠ none) ∧
    let p := s.port port
    p.state = .up ∧
    p.nextTx = [] ∧
    atBoundary p.txSeq = true := by
  refine ⟨(((member 0).onGroup fun g => { g with members := [0, 3] }).onPort 0 fun _ => { upPort with txSeq := 4294967296 }), 0, 0, ?_⟩
  repeat' apply And.intro
  all_goals decide +kernel

theorem test_meets_PortsTrainAndFall_4_4 : ∃ (s : State) (port cls : Nat),
    port < 6 ∧
    (∀ m ∈ s.group.members, m ≠ s.group.devno → (s.onPort port fun x => { x with state := .down }).routePort m ≠ none) ∧
    let p := s.port port
    (p.state = .attest ∨ p.state = .keyx) := by
  refine ⟨(((member 0).onGroup fun g => { g with members := [0, 3] }).onPort 0 fun _ => { state := .keyx }), 0, 0, ?_⟩
  repeat' apply And.intro
  all_goals decide +kernel

theorem test_meets_PortsTrainAndFall_5_1 : ∃ (s : State) (r : Req) (x : Session) (port : Nat),
    s.writes r x 0xA000 4 [] ∧
    port < 6 ∧
    (s.port port).state = .quarantined ∧
    (s.port port).quarantines < 3 := by
  refine ⟨withPort { state := .quarantined, quarantines := 2 }, rq 2, ses, 0, ?_⟩
  repeat' apply And.intro
  all_goals decide +kernel

theorem test_meets_PortsTrainAndFall_5_2 : ∃ (s : State) (r : Req) (x : Session) (port : Nat),
    s.writes r x 0xA000 4 [] ∧
    port < 6 ∧
    (s.port port).state = .quarantined ∧
    (s.port port).quarantines = 3 := by
  refine ⟨withPort { state := .quarantined, quarantines := 3 }, rq 2, ses, 0, ?_⟩
  repeat' apply And.intro
  all_goals decide +kernel

theorem test_meets_PortsExchangeKeys_1_1 : ∃ (s : State) (port dev partnerPort arrange progid imgseq : Nat) (nonce : Bytes),
    port < 6 ∧
    (s.port port).state = .attest ∧
    (s.port port).helloRx = [] ∧
    dev ≠ s.group.devno ∧
    dev = s.neighbour port ∧
    partnerPort = partnerOf port := by
  refine ⟨withPort { state := .attest }, 0, 1, 1, 274, 7, 3, zeros 32, ?_⟩
  repeat' apply And.intro
  all_goals decide +kernel

theorem test_meets_PortsExchangeKeys_1_2 : ∃ (s : State) (port dev partnerPort arrange progid imgseq : Nat) (nonce : Bytes),
    port < 6 ∧
    (s.port port).state = .attest ∧
    (s.port port).helloRx = [] ∧
    (dev = s.group.devno ∨ dev ≠ s.neighbour port ∨ partnerPort ≠ partnerOf port) ∧
    (∀ m ∈ s.group.members, m ≠ s.group.devno → s.routePort m ≠ none) := by
  refine ⟨(((member 0).onGroup fun g => { g with members := [0, 3] }).onPort 0 fun _ => { state := .attest, quarantines := 3 }), 0, 0, 1, 274, 7, 3, zeros 32, ?_⟩
  repeat' apply And.intro
  all_goals decide +kernel

theorem test_meets_PortsExchangeKeys_2 : ∃ (s : State) (port secver : Nat) (seed : Bytes),
    port < 6 ∧
    (s.port port).state = .attest ∧
    (s.port port).helloRx ≠ [] ∧
    s.flash.arbValue ≤ secver := by
  refine ⟨withPort { state := .attest, helloRx := zeros 54, partner := some (1, 1) }, 0, 0, zeros 96, ?_⟩
  repeat' apply And.intro
  all_goals decide +kernel

theorem test_meets_PortsExchangeKeys_2_responds : ∃ (s : State) (port secver : Nat) (seed : Bytes),
    port < 6 ∧
    (s.port port).state = .attest ∧
    (s.port port).helloRx ≠ [] ∧
    s.flash.arbValue ≤ secver ∧
    s.initiates port = false := by
  refine ⟨(withPort { state := .attest, helloRx := zeros 54, partner := some (1, 1) }).onGroup (fun g => { g with devno := 5 }), 0, 0, zeros 96, ?_⟩
  repeat' apply And.intro
  all_goals decide +kernel

theorem test_meets_PortsExchangeKeys_3 : ∃ (s : State) (port : Nat) (x e seed : Bytes),
    port < 6 ∧
    (s.port port).state = .keyx ∧
    s.initiates port = false := by
  refine ⟨(withPort { state := .keyx, helloRx := zeros 54, partner := some (1, 1) }).onGroup (fun g => { g with devno := 5 }), 0, zeros 32, zeros 1568, zeros 96, ?_⟩
  repeat' apply And.intro
  all_goals decide +kernel

theorem test_meets_PortsExchangeKeys_4 : ∃ (s : State) (port : Nat) (x c : Bytes),
    port < 6 ∧
    (s.port port).state = .keyx ∧
    s.initiates port = true := by
  refine ⟨withPort { state := .keyx, helloRx := zeros 54, partner := some (1, 1) }, 0, zeros 32, zeros 1568, ?_⟩
  repeat' apply And.intro
  all_goals decide +kernel

theorem test_meets_PortsExchangeKeys_5 : ∃ (s : State) (port : Nat) (seed : Bytes),
    port < 6 ∧
    (s.port port).state = .up ∧
    nearBoundary (s.port port).txSeq = true ∧
    (s.port port).rekeying = false ∧
    (s.port port).nextTx = [] := by
  refine ⟨withPort { upPort with txSeq := 4227858432, partner := some (1, 1) }, 0, zeros 96, ?_⟩
  repeat' apply And.intro
  all_goals decide +kernel

theorem test_meets_PortsExchangeKeys_6 : ∃ (s : State) (port : Nat) (x e seed : Bytes),
    port < 6 ∧
    (s.port port).state = .up := by
  refine ⟨withPort { upPort with partner := some (1, 1) }, 0, zeros 32, zeros 1568, zeros 96, ?_⟩
  repeat' apply And.intro
  all_goals decide +kernel

theorem test_meets_PortsExchangeKeys_7 : ∃ (s : State) (port : Nat) (x c : Bytes),
    port < 6 ∧
    (s.port port).state = .up ∧
    (s.port port).rekeying = true := by
  refine ⟨withPort { upPort with partner := some (1, 1), rekeying := true }, 0, zeros 32, zeros 1568, ?_⟩
  repeat' apply And.intro
  all_goals decide +kernel

theorem test_meets_FlitsAreExchanged_1_1 : ∃ (s : State) (port : Nat) (f : Flit),
    port < 6 ∧
    (s.port port).state = .up ∧
    f.crcOk = true ∧
    f.seqlo % 64 = (s.port port).rxSeq % 64 ∧
    let p := s.port port
    let n := ackCount p.unacked f.ackseq
    let c := p.credits.getD f.crclass 0 + f.credits
    let left := p.fwdLeft.getD f.cls 0
    let reserved := left = 0 ∧ (f.kind = 1 ∨ num f.payload 0 2 ∉ messageTypes)
    f.tagOk = true ∧
    f.kind ≤ 2 ∧
    (f.kind = 0 ∨ f.here = true ∧ ¬ reserved) ∧
    f.nak = false ∧
    c ≤ 64 ∧
    p.queue = [] := by
  refine ⟨withPort { upPort with rxSeq := 69 }, 0, { flit0 with kind := 2, payload := leBytes 2 0x2C ++ zeros 254 }, ?_⟩
  repeat' apply And.intro
  all_goals decide +kernel

theorem test_meets_FlitsAreExchanged_1_1_boundary : ∃ (s : State) (port : Nat) (f : Flit),
    port < 6 ∧
    (s.port port).state = .up ∧
    f.crcOk = true ∧
    f.seqlo % 64 = (s.port port).rxSeq % 64 ∧
    let p := s.port port
    let n := ackCount p.unacked f.ackseq
    let c := p.credits.getD f.crclass 0 + f.credits
    let left := p.fwdLeft.getD f.cls 0
    let reserved := left = 0 ∧ (f.kind = 1 ∨ num f.payload 0 2 ∉ messageTypes)
    f.tagOk = true ∧
    f.kind ≤ 2 ∧
    (f.kind = 0 ∨ f.here = true ∧ ¬ reserved) ∧
    f.nak = false ∧
    c ≤ 64 ∧
    p.queue = [] ∧
    atBoundary p.rxSeq = true := by
  refine ⟨withPort { upPort with rxSeq := 4294967296, nextRx := zeros 36 }, 0, { flit0 with kind := 0, seqlo := 0 }, ?_⟩
  repeat' apply And.intro
  all_goals decide +kernel

theorem test_meets_FlitsAreExchanged_1_2 : ∃ (s : State) (port : Nat) (f : Flit),
    port < 6 ∧
    (s.port port).state = .up ∧
    f.crcOk = true ∧
    f.seqlo % 64 = (s.port port).rxSeq % 64 ∧
    let p := s.port port
    let n := ackCount p.unacked f.ackseq
    let c := p.credits.getD f.crclass 0 + f.credits
    let left := p.fwdLeft.getD f.cls 0
    let reserved := left = 0 ∧ (f.kind = 1 ∨ num f.payload 0 2 ∉ messageTypes)
    f.tagOk = true ∧
    1 ≤ f.kind ∧
    f.kind ≤ 2 ∧
    f.here = true ∧
    reserved ∧
    f.nak = false ∧
    c ≤ 64 ∧
    p.queue = [] ∧
    (∀ m ∈ s.group.members, m ≠ s.group.devno → (s.onPort port fun x => { x with state := .down }).routePort m ≠ none) := by
  refine ⟨((member 0).onGroup fun g => { g with members := [0, 3] }).onPort 0 fun _ => { upPort with rxSeq := 69 }, 0, { flit0 with kind := 1 }, ?_⟩
  repeat' apply And.intro
  all_goals decide +kernel

theorem test_meets_FlitsAreExchanged_2 : ∃ (s : State) (port : Nat) (f : Flit),
    port < 6 ∧
    (s.port port).state = .up ∧
    (f.crcOk = false ∨ f.seqlo % 64 ≠ (s.port port).rxSeq % 64) := by
  refine ⟨withPort { upPort with rxSeq := 70 }, 0, flit0, ?_⟩
  repeat' apply And.intro
  all_goals decide +kernel

theorem test_meets_FlitsAreExchanged_2_crc : ∃ (s : State) (port : Nat) (f : Flit),
    port < 6 ∧
    (s.port port).state = .up ∧
    (f.crcOk = false ∨ f.seqlo % 64 ≠ (s.port port).rxSeq % 64) ∧
    f.crcOk = false := by
  refine ⟨withPort { upPort with rxSeq := 69 }, 0, { flit0 with crcOk := false }, ?_⟩
  repeat' apply And.intro
  all_goals decide +kernel

theorem test_meets_FlitsAreExchanged_3 : ∃ (s : State) (port : Nat),
    port < 6 ∧
    (s.port port).maySend = true ∧
    (s.port port).nextFlit = none := by
  refine ⟨withPort upPort, 0, ?_⟩
  repeat' apply And.intro
  all_goals decide +kernel

theorem test_meets_FlitsAreExchanged_4 : ∃ (s : State) (port : Nat),
    port < 6 ∧
    (s.port port).state = .up ∧
    (s.port port).unacked ≠ [] ∧
    (s.port port).replays < 8 := by
  refine ⟨withPort { upPort with unacked := [⟨0, 2, 2, 0, 1, zeros 256, zeros 272⟩], replays := 7 }, 0, ?_⟩
  repeat' apply And.intro
  all_goals decide +kernel

theorem test_meets_FlitsAreExchanged_5 : ∃ (s : State) (port cls : Nat),
    port < 6 ∧
    (s.port port).starves cls = true ∧
    cls ∉ (s.port port).starving := by
  refine ⟨withPort { upPort with credits := [64, 64, 0, 64], queue := [⟨0, 2, 2, 0, 1, zeros 8, []⟩] }, 0, 2, ?_⟩
  repeat' apply And.intro
  all_goals decide +kernel

theorem test_meets_MessagesMoveDataAndImages_1_1 : ∃ (s : State) (src : From) (ordinal run unit space line lines : Nat) (data : Bytes),
    src.port < 6 ∧
    s.memOk = true ∧
    s.tablesOk = true ∧
    s.hears src = true ∧
    run ≤ 15 ∧
    data.length = 64 * lines ∧
    s.inWindow run space unit line lines = true ∧
    s.awaitedRead src ordinal run unit space line lines = none ∧
    (s.peer src.dev).lines = 0 ∧
    (s.peer src.dev).early = [] ∧
    let a := s.windowMem run space unit line lines
    a.holds ((line + lines) * 64 - 1) = true ∧
    1 ≤ lines := by
  refine ⟨member 0, ⟨1, 0⟩, 9, 15, 255, 5, 100, 20, List.replicate 1280 1#8, ?_⟩
  repeat' apply And.intro
  all_goals decide +kernel

theorem test_meets_MessagesMoveDataAndImages_1_2 : ∃ (s : State) (src : From) (ordinal run unit space line lines : Nat) (data : Bytes),
    src.port < 6 ∧
    s.memOk = true ∧
    s.tablesOk = true ∧
    s.hears src = true ∧
    run ≤ 15 ∧
    data.length = 64 * lines ∧
    s.inWindow run space unit line lines = true ∧
    s.awaitedRead src ordinal run unit space line lines = none ∧
    (s.peer src.dev).lines = 0 ∧
    (s.peer src.dev).early = [] ∧
    let a := s.windowMem run space unit line lines
    a.holds ((line + lines) * 64 - 1) = true ∧
    lines = 1 ∧
    signBadWords data = [] ∧
    s.poisoned a line = false ∧
    s.badWords a line = [] ∧
    lineSignsOk (s.load a (line * 64) 64) = true := by
  refine ⟨member 0, ⟨1, 0⟩, 9, 15, 255, 5, 119, 1, List.replicate 64 255#8, ?_⟩
  repeat' apply And.intro
  all_goals decide +kernel

theorem test_meets_MessagesMoveDataAndImages_2 : ∃ (s : State) (src : From) (eseq ordinal run unit space line lines : Nat) (data : Bytes),
    src.port < 6 ∧
    s.hears src = true ∧
    run ≤ 15 ∧
    data.length = 64 * lines ∧
    eseq ≠ (s.peer src.dev).next ∧
    ((s.peer src.dev).next + 2 ^ 32 - eseq) % 2 ^ 32 < 2 ^ 31 := by
  refine ⟨(member 0).onPeer 1 (fun p => { p with next := 5 }), ⟨1, 0⟩, 4, 9, 15, 255, 5, 119, 1, List.replicate 64 1#8, ?_⟩
  repeat' apply And.intro
  all_goals decide +kernel

theorem test_meets_MessagesMoveDataAndImages_3 : ∃ (s : State) (src : From) (eseq ordinal run unit space line lines replyUnit replySpace replyLine : Nat),
    src.port < 6 ∧
    s.tablesOk = true ∧
    s.hears src = true ∧
    eseq < 2 ^ 32 ∧
    run ≤ 15 ∧
    s.inWindow run space unit line lines = true ∧
    let a := s.windowMem run space unit line lines
    (∀ k, k < lines → s.badWords a (line + k) = []) := by
  refine ⟨member 0, ⟨1, 0⟩, 4294967295, 9, 15, 255, 5, 119, 1, 256, 4, 7, ?_⟩
  repeat' apply And.intro
  all_goals decide +kernel

theorem test_meets_MessagesMoveDataAndImages_4 : ∃ (s : State) (src : From) (k : Token) (unit : Nat),
    src.port < 6 ∧
    s.tablesOk = true ∧
    s.hears src = true ∧
    (k.run, src.dev) ∈ s.group.depends ∧
    k.chan ≤ 15 ∧
    unit / 256 = s.group.devno ∧
    (s.peer src.dev).early = [] := by
  refine ⟨member 0, ⟨1, 0⟩, ⟨9, 256, 15, 15, false, false⟩, 255, ?_⟩
  repeat' apply And.intro
  all_goals decide +kernel

theorem test_meets_MessagesMoveDataAndImages_5 : ∃ (s : State) (src : From) (progid imgseq : Nat) (digests : List Bytes),
    src.port < 6 ∧
    s.fromMember src = true := by
  refine ⟨(member 0).onCapo (fun c => { c with neighbours := [(1, zeros 32)] }), ⟨1, 0⟩, 7, 3, [zeros 32, List.replicate 32 1#8], ?_⟩
  repeat' apply And.intro
  all_goals decide +kernel

theorem test_meets_MessagesMoveDataAndImages_6_1 : ∃ (s : State) (src : From) (digest : Bytes) (e : Nat × Bytes),
    src.port < 6 ∧
    s.fromMember src = true ∧
    s.capo.objects.find? (fun e => digest32 e.2 == digest) = some e := by
  refine ⟨(member 0).onCapo (fun c => { c with objects := [(0, zeros 4)] }), ⟨1, 0⟩, digest32 (zeros 4), (0, zeros 4), ?_⟩
  exact ⟨by decide, by decide +kernel, find_digest (zeros 4)⟩

theorem test_meets_MessagesMoveDataAndImages_6_2 : ∃ (s : State) (src : From) (digest : Bytes),
    src.port < 6 ∧
    s.fromMember src = true ∧
    (∀ e ∈ s.capo.objects, digest32 e.2 ≠ digest) := by
  refine ⟨(member 0).onCapo (fun c => { c with objects := [(0, zeros 4)] }), ⟨1, 0⟩, [], ?_⟩
  refine ⟨by decide, by decide +kernel, ?_⟩
  intro e _ h
  have l := digest32_length e.2
  rw [h] at l
  exact absurd l (by decide)

theorem test_meets_MessagesMoveDataAndImages_7 : ∃ (s : State) (src : From) (n : Nat) (i : Image) (e : Entry) (obj : Bytes) (late : Bool),
    src.port < 6 ∧
    s.fromMember src = true ∧
    s.capo.state = .staging ∧
    s.wanted s.freeSide n = some (i, e) ∧
    (∀ m x, m ≠ n → s.entryAt s.freeSide m = some x → x.2.digest ≠ e.digest) ∧
    s.capo.selected = none ∧
    s.setting 0x2230 4 1 = 0 := by
  refine ⟨((member 0).onDict fun x => { x with settings := [(0x223004, [0#8])] }).onCapo (fun c => { c with state := .staging, selected := none, staged := some { img with entries := [slow1 (zeros 32)] } }), ⟨1, 0⟩, 0, { img with entries := [slow1 (zeros 32)] }, slow1 (zeros 32), zeros 64, false, ?_⟩
  refine ⟨by decide, by decide +kernel, rfl, by decide +kernel, ?_, rfl, by decide +kernel⟩
  intro m x hm hx
  match m, hm, hx with
  | 0, hm, _ => exact absurd rfl hm
  | _ + 1, _, hx => exact nomatch (show (none : Option (Image × Entry)) = some x from hx)

theorem test_meets_BatchesOfAGroup_1 : ∃ (s : State) (src : From) (set absent : Nat) (aftercare : Bool),
    src.port < 6 ∧
    s.fromMember src = true := by
  refine ⟨member 0, ⟨1, 0⟩, 10, 5, true, ?_⟩
  repeat' apply And.intro
  all_goals decide +kernel

theorem test_meets_BatchesOfAGroup_2_1 : ∃ (s : State) (src : From) (ordinal epoch decision : Nat),
    src.port < 6 ∧
    s.fromMember src = true ∧
    src.dev = s.group.leader ∧
    s.notLeader = true ∧
    s.nextOrd ≤ ordinal ∧
    decision ≤ 2 ∧
    s.group.formed = true ∧
    (s.dev.state = .serving ∨ s.dev.state = .degraded) := by
  refine ⟨member 1, ⟨1, 0⟩, 10, 3, 2, ?_⟩
  repeat' apply And.intro
  all_goals decide +kernel

theorem test_meets_BatchesOfAGroup_2_2 : ∃ (s : State) (src : From) (ordinal epoch decision : Nat),
    src.port < 6 ∧
    s.fromMember src = true ∧
    src.dev = s.group.leader ∧
    s.notLeader = true ∧
    s.nextOrd ≤ ordinal ∧
    decision ≤ 2 ∧
    s.group.formed = true ∧
    s.dev.state ≠ .serving ∧
    s.dev.state ≠ .degraded := by
  refine ⟨(member 1).onDev (fun x => { x with state := .ready }), ⟨1, 0⟩, 10, 3, 0, ?_⟩
  repeat' apply And.intro
  all_goals decide +kernel

theorem test_meets_BatchesOfAGroup_3 : ∃ (s : State) (src : From) (o n status : Nat) (corrected done : Bool) (recs : List Decision) (r : RunRec),
    src.port < 6 ∧
    s.fromMember src = true ∧
    status ≤ 1 ∧
    n ≤ 15 ∧
    s.run? o n = some r ∧
    r.status = none := by
  refine ⟨member 0, ⟨1, 0⟩, 9, 15, 1, true, true, [⟨1, 2, 3, 4⟩], live 9 15, ?_⟩
  repeat' apply And.intro
  all_goals decide +kernel

theorem test_meets_BatchesOfAGroup_4 : ∃ (s : State) (src : From) (o n cause : Nat) (r : RunRec),
    src.port < 6 ∧
    s.fromMember src = true ∧
    1 ≤ cause ∧
    cause ≤ 7 ∧
    n ≤ 15 ∧
    s.run? o n = some r ∧
    r.status = none := by
  refine ⟨member 0, ⟨1, 0⟩, 9, 15, 7, live 9 15, ?_⟩
  repeat' apply And.intro
  all_goals decide +kernel

theorem test_meets_BatchesOfAGroup_5 : ∃ (s : State) (src : From) (o n cause : Nat) (r : RunRec),
    src.port < 6 ∧
    s.fromMember src = true ∧
    cause ≤ 7 ∧
    n ≤ 15 ∧
    s.run? o n = some r ∧
    r.status = none := by
  refine ⟨member 0, ⟨1, 0⟩, 9, 15, 7, live 9 15, ?_⟩
  repeat' apply And.intro
  all_goals decide +kernel

theorem test_meets_BatchesOfAGroup_6 : ∃ (s : State) (src : From),
    src.port < 6 ∧
    s.fromMember src = true := by
  refine ⟨member 0, ⟨1, 0⟩, ?_⟩
  repeat' apply And.intro
  all_goals decide +kernel

theorem test_meets_GroupChangesAndReplicas_1 : ∃ (s : State) (src : From) (kind b epoch : Nat),
    src.port < 6 ∧
    s.fromMember src = true ∧
    src.dev = s.group.leader ∧
    s.inGroup = true ∧
    kind ≤ 3 := by
  refine ⟨member 1, ⟨1, 0⟩, 1, 13, 4, ?_⟩
  repeat' apply And.intro
  all_goals decide +kernel

theorem test_meets_GroupChangesAndReplicas_1_refused : ∃ (s : State) (src : From) (kind b epoch : Nat),
    src.port < 6 ∧
    s.fromMember src = true ∧
    src.dev = s.group.leader ∧
    s.inGroup = true ∧
    kind ≤ 3 ∧
    let r := s.armHere kind b
    r.1 = false := by
  refine ⟨member 1, ⟨1, 0⟩, 2, 12, 4, ?_⟩
  repeat' apply And.intro
  all_goals decide +kernel

theorem test_meets_GroupChangesAndReplicas_2_1 : ∃ (s : State) (src : From) (kind : Nat) (a : GroupArm),
    src.port < 6 ∧
    s.fromMember src = true ∧
    s.group.leader = s.group.devno ∧
    kind ≤ 3 ∧
    s.armOf kind = some a ∧
    a.acks ≠ [] ∧
    (kind = 0 → s.noProgramme = false) := by
  refine ⟨(member 0).onGroup (fun g => { g with armed := [⟨1, 13, 4, none, [0]⟩] }), ⟨1, 0⟩, 1, ⟨1, 13, 4, none, [0]⟩, ?_⟩
  repeat' apply And.intro
  all_goals decide +kernel

theorem test_meets_GroupChangesAndReplicas_2_2 : ∃ (s : State) (src : From) (kind : Nat) (a : GroupArm),
    src.port < 6 ∧
    s.fromMember src = true ∧
    s.group.leader = s.group.devno ∧
    kind ≤ 3 ∧
    s.armOf kind = some a ∧
    a.acks ≠ [] := by
  refine ⟨((member 0).onGroup fun g => { g with armed := [⟨1, 13, 4, none, [0]⟩] }).onWalk (fun w => { w with policy := ⟨1, 13, []⟩ }), ⟨1, 0⟩, 1, ⟨1, 13, 4, none, [0]⟩, ?_⟩
  repeat' apply And.intro
  all_goals decide +kernel

theorem test_meets_GroupChangesAndReplicas_3 : ∃ (s : State) (src : From) (site : Nat),
    src.port < 6 ∧
    s.fromMember src = true ∧
    site < 1280 ∧
    (s.armOf 0).isSome = true := by
  refine ⟨(member 0).onGroup (fun g => { g with armed := [⟨0, 13, 4, none, [0]⟩] }), ⟨1, 0⟩, 1279, ?_⟩
  repeat' apply And.intro
  all_goals decide +kernel

theorem test_meets_GroupChangesAndReplicas_4_1 : ∃ (s : State) (src : From) (epoch : Nat) (value : Bytes),
    src.port < 6 ∧
    s.fromMember src = true ∧
    let held := (s.group.digests.filter fun d => d.1 != src.dev) ++ [(src.dev, epoch, padTo 32 value)]
    (∀ d ∈ s.digestsFor epoch, d.1 ≠ src.dev → d.2 = padTo 32 value) := by
  refine ⟨(member 0).onGroup (fun g => { g with digests := [(3, 5, zeros 32)] }), ⟨1, 0⟩, 5, zeros 32, ?_⟩
  repeat' apply And.intro
  all_goals decide +kernel

theorem test_meets_GroupChangesAndReplicas_4_2 : ∃ (s : State) (src : From) (epoch : Nat) (value : Bytes) (v : Bytes),
    src.port < 6 ∧
    s.fromMember src = true ∧
    let held := (s.group.digests.filter fun d => d.1 != src.dev) ++ [(src.dev, epoch, padTo 32 value)]
    s.capo.epochDigest = some (epoch, v) ∧
    v ≠ padTo 32 value ∧
    (∀ d ∈ s.group.digests, d.1 = src.dev ∨ d.2.1 ≠ epoch) := by
  refine ⟨(member 0).onCapo (fun c => { c with epochDigest := some (5, zeros 32) }), ⟨1, 0⟩, 5, List.replicate 32 1#8, zeros 32, ?_⟩
  repeat' apply And.intro
  all_goals decide +kernel

theorem test_meets_GroupChangesAndReplicas_5 : ∃ (s : State) (i : Image) (e : Nat × Bytes),
    s.capo.selected = some i ∧
    s.capo.epochDigest = some e ∧
    i.replset ≠ 0 ∧
    s.dev.bOpen ≠ none ∧
    s.inGroup = true ∧
    s.group.devno ≠ 255 := by
  refine ⟨(member 0).onCapo (fun c => { c with selected := some { img with replset := 1 }, epochDigest := some (5, zeros 32) }), { img with replset := 1 }, (5, zeros 32), ?_⟩
  repeat' apply And.intro
  all_goals decide +kernel

theorem test_meets_MembersLeaveAndJoin_1 : ∃ (s : State) (src : From) (o cause : Nat),
    src.port < 6 ∧
    s.fromMember src = true ∧
    s.leadsWithout [src.dev] = true := by
  refine ⟨member 0, ⟨1, 0⟩, 10, 3, ?_⟩
  repeat' apply And.intro
  all_goals decide +kernel

theorem test_meets_MembersLeaveAndJoin_2 : ∃ (s : State) (src : From) (m o cause : Nat),
    src.port < 6 ∧
    m < 24 ∧
    s.fromMember src = true ∧
    (src.dev = s.group.leader ∨ m = s.group.leader) ∧
    m ∈ s.group.members ∧
    m ≠ s.group.devno := by
  refine ⟨member 1, ⟨1, 0⟩, 3, 10, 0, ?_⟩
  repeat' apply And.intro
  all_goals decide +kernel

theorem test_meets_MembersLeaveAndJoin_2_leader : ∃ (s : State) (src : From) (m o cause : Nat),
    src.port < 6 ∧
    m < 24 ∧
    s.fromMember src = true ∧
    (src.dev = s.group.leader ∨ m = s.group.leader) ∧
    m ∈ s.group.members ∧
    m ≠ s.group.devno ∧
    m = s.group.leader := by
  refine ⟨((member 3).onPort 1 fun _ => { upPort with state := .down }), ⟨1, 0⟩, 3, 10, 3, ?_⟩
  repeat' apply And.intro
  all_goals decide +kernel

theorem test_meets_MembersLeaveAndJoin_3 : ∃ (s : State) (m : Nat),
    s.frozen = false ∧
    m ∈ s.group.members ∧
    m ≠ s.group.devno ∧
    s.memberLate m = true ∧
    s.leadsWithout [m] = true := by
  refine ⟨member 0, 3, ?_⟩
  repeat' apply And.intro
  all_goals decide +kernel

theorem test_meets_MembersLeaveAndJoin_4_1 : ∃ (s : State) (src : From) (o cause : Nat),
    src.port < 6 ∧
    src.dev < 24 ∧
    o ≤ ord48 ∧
    cause ≤ 255 ∧
    s.hears src = true ∧
    s.group.formed = true ∧
    src.dev ∉ s.group.members ∧
    (∀ j ∈ s.group.joinPending, j.1 ≠ src.dev) ∧
    s.mayJoin src.dev o = true ∧
    s.group.leader = s.group.devno ∧
    s.setting 0xA010 3 1 = 1 ∧
    s.armOf 3 = none ∧
    s.inGroup = true ∧
    s.group.devno ≠ 255 := by
  refine ⟨member 0, ⟨4, 0⟩, 0, 255, ?_⟩
  repeat' apply And.intro
  all_goals decide +kernel

theorem test_meets_MembersLeaveAndJoin_4_2 : ∃ (s : State) (src : From) (o cause : Nat),
    src.port < 6 ∧
    src.dev < 24 ∧
    o ≤ ord48 ∧
    cause ≤ 255 ∧
    s.hears src = true ∧
    s.group.formed = true ∧
    src.dev ∉ s.group.members ∧
    (∀ j ∈ s.group.joinPending, j.1 ≠ src.dev) ∧
    s.mayJoin src.dev o = true ∧
    s.group.leader ≠ s.group.devno := by
  refine ⟨member 1, ⟨4, 0⟩, 281474976710655, 0, ?_⟩
  repeat' apply And.intro
  all_goals decide +kernel

theorem test_meets_MembersLeaveAndJoin_5 : ∃ (s : State) (joining : Bool) (ids : List MemberId) (rows : List RunRow) (publishers windows : List (List Nat)) (depends : List (Nat × Nat)),
    1 < arrSize s.group.arrange ∧
    s.frozen = false ∧
    s.dev.state ≠ .boot ∧
    s.group.formed = false ∧
    let here := (List.range (arrSize s.group.arrange)).filter fun m => m == s.group.devno || ids.any fun x => x.dev == m
    (∀ x ∈ ids, x.dev = s.group.devno ∨ s.sameImage x = true) ∧
    s.publishersOk publishers = true ∧
    (∀ w ∈ windows, s.windowOk (windowOf w) = true) := by
  refine ⟨(walking 255 endW).onGroup (fun g => { g with arrange := 274, formed := false }), false, [⟨1, 7, 3, []⟩, ⟨7, 7, 3, []⟩], [⟨15, [], false, false⟩], [], [[15, 5, 255, 100, 900]], [(15, 1), (15, 7)], ?_⟩
  repeat' apply And.intro
  all_goals decide +kernel

theorem test_meets_MembersLeaveAndJoin_5_joining : ∃ (s : State) (joining : Bool) (ids : List MemberId) (rows : List RunRow) (publishers windows : List (List Nat)) (depends : List (Nat × Nat)),
    1 < arrSize s.group.arrange ∧
    s.frozen = false ∧
    s.dev.state ≠ .boot ∧
    s.group.formed = false ∧
    let here := (List.range (arrSize s.group.arrange)).filter fun m => m == s.group.devno || ids.any fun x => x.dev == m
    (∀ x ∈ ids, x.dev = s.group.devno ∨ s.sameImage x = true) ∧
    s.publishersOk publishers = true ∧
    (∀ w ∈ windows, s.windowOk (windowOf w) = true) ∧
    joining = true := by
  refine ⟨(walking 255 endW).onGroup (fun g => { g with arrange := 274, formed := false }), true, [⟨1, 7, 3, []⟩, ⟨7, 7, 3, []⟩], [⟨15, [], false, false⟩], [], [[15, 5, 255, 0, 1000]], [(15, 1), (15, 7)], ?_⟩
  repeat' apply And.intro
  all_goals decide +kernel

theorem test_meets_ObservationCommands_6 : ∃ (s : State) (r : Req) (x : Session) (mask : Nat),
    s.writes r x 0x7000 1 [] ∧
    1 ≤ mask ∧
    mask < 128 ∧
    s.obs.epochCores = [] ∧
    s.obs.epochClusters = [] ∧
    s.obs.epochBase = false ∧
    s.dev.batchOpening = true := by
  refine ⟨serving, rq 2, ses, 127, ?_⟩
  repeat' apply And.intro
  all_goals decide +kernel

theorem test_meets_ObservationCommands_7 : ∃ (s : State) (r : Req) (x : Session) (mask : Nat),
    s.writes r x 0x7000 1 [] ∧
    1 ≤ mask ∧
    mask < 128 ∧
    s.obs.epochCores = [] ∧
    s.obs.epochClusters = [] ∧
    s.obs.epochBase = false ∧
    s.dev.batchOpening = false := by
  refine ⟨open_ .ready, rq 2, ses, 127, ?_⟩
  repeat' apply And.intro
  all_goals decide +kernel

theorem test_meets_ObservationCommands_8 : ∃ (s : State) (r : Req) (x : Session) (mask : Nat),
    s.writes r x 0x7000 1 [] ∧
    1 ≤ mask ∧
    mask < 128 ∧
    (s.obs.epochCores ≠ [] ∨ s.obs.epochClusters ≠ [] ∨ s.obs.epochBase = true) := by
  refine ⟨serving.onObs fun o => { o with epochBase := true }, rq 2, ses, 1, ?_⟩
  repeat' apply And.intro
  all_goals decide +kernel

theorem test_meets_ObservationCommands_9 : ∃ (s : State) (r : Req) (x : Session) (seq : Nat),
    s.writes r x 0x5100 7 [] := by
  refine ⟨serving, rq 2, ses, 4, ?_⟩
  repeat' apply And.intro
  all_goals decide +kernel

theorem test_meets_MonitorsTakeTheirReadings_4_shared : ∃ (s : State) (d : Domain) (n : Nat),
    s.tablesOk = true ∧
    s.dev.resetHeld = false ∧
    s.domainCounts d = true ∧
    d = .xspi := by
  refine ⟨dev .ready, .xspi, 16777215, ?_⟩
  repeat' apply And.intro
  all_goals decide +kernel

theorem test_meets_MonitorsTakeTheirReadings_6 : ∃ (s : State) (r : Req) (x : Session) (v : Int),
    s.writes r x 0xB020 1 [] ∧
    -640 ≤ v ∧
    v ≤ 1360 := by
  refine ⟨open_ .ready, rq 2, ses, 1360, ?_⟩
  repeat' apply And.intro
  all_goals decide +kernel

theorem test_meets_MonitorsTakeTheirReadings_6_low : ∃ (s : State) (r : Req) (x : Session) (v : Int),
    s.writes r x 0xB020 1 [] ∧
    -640 ≤ v ∧
    v ≤ 1360 ∧
    v = -640 := by
  refine ⟨open_ .ready, rq 2, ses, -640, ?_⟩
  repeat' apply And.intro
  all_goals decide +kernel

theorem test_meets_ClocksPowerAndCopies_5_first : ∃ (s : State) (n : Nat) (i : Image) (e : Entry) (ok0 ok1 : Bool),
    n < 8192 ∧
    s.frozen = false ∧
    s.memOk = true ∧
    s.capo.side < 2 ∧
    s.capo.selected = some i ∧
    i.entries[n]? = some e ∧
    e.kind = 2 ∧
    e.verified = true ∧
    (ok0 = true ∨ ok1 = true) ∧
    let z := fun _ : Nat => 0#8
    let g := s.capo.side * 8192 + n
    ok0 = true := by
  refine ⟨holding 2, 0, oneEntry 2, ⟨2, 7, 0, 0, 64, 0, zeros 32, true, none, none, [], 0⟩, true, false, ?_⟩
  repeat' apply And.intro
  all_goals decide +kernel

theorem test_meets_ClocksPowerAndCopies_7 : ∃ (s : State) (n : Nat) (i : Image) (e : Entry) (ok0 ok1 : Bool),
    n < 8192 ∧
    s.frozen = false ∧
    s.capo.side < 2 ∧
    s.capo.selected = some i ∧
    i.entries[n]? = some e ∧
    e.kind = 3 ∧
    e.verified = true ∧
    (s.sourcesOf i e).filter (fun k => decide (1 ≤ k) && decide (k < 25)) = [] := by
  refine ⟨holding 3, 0, oneEntry 3, ⟨3, 7, 0, 0, 64, 0, zeros 32, true, none, none, [], 0⟩, false, false, ?_⟩
  repeat' apply And.intro
  all_goals decide +kernel

theorem test_meets_ClocksPowerAndCopies_7_good : ∃ (s : State) (n : Nat) (i : Image) (e : Entry) (ok0 ok1 : Bool),
    n < 8192 ∧
    s.frozen = false ∧
    s.capo.side < 2 ∧
    s.capo.selected = some i ∧
    i.entries[n]? = some e ∧
    e.kind = 3 ∧
    e.verified = true ∧
    (s.sourcesOf i e).filter (fun k => decide (1 ≤ k) && decide (k < 25)) = [] ∧
    let tab := e.unit % 256 * 2 + s.capo.side
    ok1 = true := by
  refine ⟨holding 3, 0, oneEntry 3, ⟨3, 7, 0, 0, 64, 0, zeros 32, true, none, none, [], 0⟩, false, true, ?_⟩
  repeat' apply And.intro
  all_goals decide +kernel

theorem test_meets_ArrayGrantsAndDrones_3_busy : ∃ (s : State) (cl : Nat) (cut : Bool) (faults : List (Nat × Int)),
    cl < 32 ∧
    s.tablesOk = true ∧
    s.frozen = false ∧
    s.clusterActive cl = true ∧
    (s.cluster cl).arrayCheck.retired = false ∧
    (cut = true ∨ s.arrayBusy cl (if s.arrayFullDup cl = true then 3 else 4) s.walk.tileNo = true) ∧
    cut = false := by
  refine ⟨serving.onCluster 31 fun c => { c with owner := some 3 }, 31, false, [(0, 1)], ?_⟩
  repeat' apply And.intro
  all_goals decide +kernel

theorem test_meets_DroneStepsServeTheirSites_1_window : ∃ (s : State) (core k : Nat) (c : Instr) (faults : KernelFaults) (i : Issue),
    core < 256 ∧
    s.tablesOk = true ∧
    s.droneIssue? core k = some i ∧
    (stepMasked (s.core core) i.w = true ∨ s.stepLive core i.b i.w = false) ∧
    ((k = 0 ∧ c = .droneKernelSlot core faults) ∨ (k = 1 ∧ c = .droneTuningWindow core) ∨ (k = 2 ∧ c = .droneScanSlot core)) ∧
    k = 1 := by
  refine ⟨walking 255 (droneW 1 1), 255, 1, .droneTuningWindow 255, ⟨[], [], []⟩, issue1 (droneW 1 1), ?_⟩
  repeat' apply And.intro
  all_goals decide +kernel

theorem test_meets_DroneStepsServeTheirSites_1_scan : ∃ (s : State) (core k : Nat) (c : Instr) (faults : KernelFaults) (i : Issue),
    core < 256 ∧
    s.tablesOk = true ∧
    s.droneIssue? core k = some i ∧
    (stepMasked (s.core core) i.w = true ∨ s.stepLive core i.b i.w = false) ∧
    ((k = 0 ∧ c = .droneKernelSlot core faults) ∨ (k = 1 ∧ c = .droneTuningWindow core) ∨ (k = 2 ∧ c = .droneScanSlot core)) ∧
    k = 2 := by
  refine ⟨walking 255 (droneW 2 1), 255, 2, .droneScanSlot 255, ⟨[], [], []⟩, issue1 (droneW 2 1), ?_⟩
  repeat' apply And.intro
  all_goals decide +kernel

theorem test_meets_MarksOfATab_4 : ∃ (s : State) (core : Nat) (i : Issue),
    core < 256 ∧
    s.tablesOk = true ∧
    s.markIssue? core 2 = some i ∧
    stepMasked (s.core core) i.w = false ∧
    sfld i.w 4 15 0 ≠ 0xFFFF ∧
    s.publishesPoison core i.b i.t (sfld i.w 4 15 0) = true := by
  refine ⟨(withDesc 255 (leBytes 4 3 ++ leBytes 4 0 ++ leBytes 4 2 ++ leBytes 4 1) (walking 255 (markW 2 100))).setPoison (.sram 255) 0 true, 255, issue1 (markW 2 100), ?_⟩
  repeat' apply And.intro
  all_goals decide +kernel

theorem test_meets_EndAndBlocksOfATab_2_copy : ∃ (s : State) (core block b : Nat) (tab : Tab) (good : List Bool),
    core < 256 ∧
    s.tablesOk = true ∧
    s.fetches core block b tab ∧
    ((blockSources tab (s.firstFetch core block tab)).headD 1 = 0 → s.sourceHolds core block tab 0 = true) ∧
    (blockSources tab (s.firstFetch core block tab)).headD 1 = 0 := by
  refine ⟨longWalk true, 255, 0, 9, longTab true, [], ?_⟩
  repeat' apply And.intro
  all_goals decide +kernel

theorem test_meets_EndAndBlocksOfATab_4 : ∃ (s : State) (core block b : Nat) (tab : Tab),
    core < 256 ∧
    s.tablesOk = true ∧
    s.fetches core block b tab := by
  refine ⟨(walking 255 endW).onCore 255 fun c => { c with seq := .draining }, 255, 0, 9, tab1 endW, ?_⟩
  repeat' apply And.intro
  all_goals decide +kernel

theorem test_meets_CameraPacketsFillFrames_4 : ∃ (s : State) (port vc : Nat) (f : Frame) (x : CapSet) (first : Nat × Nat),
    port < 16 ∧
    vc < 16 ∧
    s.intakeOn = true ∧
    s.walk.filling.filter (fun g => cfgPort g.cfg == port && cfgVc g.cfg == vc) = [f] ∧
    f.bad = false ∧
    f.lines = cfgSrcH f.cfg ∧
    s.walk.lost.contains f.stream = false ∧
    f.set = some first ∧
    s.walk.sets.find? (fun y => y.first == first) = some x ∧
    x.deadline = false := by
  refine ⟨seeing.onWalk fun w => { w with filling := [frame0], sets := [set0], window := some (0, 7) }, 15, 15, frame0, set0, (0, 7), ?_⟩
  repeat' apply And.intro
  all_goals decide +kernel

theorem test_meets_ObjectsOfAnImageAreFetched_4 : ∃ (s : State) (n : Nat) (i : Image) (e : Entry),
    s.entry? n = some (i, e) ∧
    s.capo.state = .staging ∧
    e.verified = false ∧
    e.source = none ∧
    e.round = 0 ∧
    s.sourceNow i e = none := by
  refine ⟨staging (zeros 32) [0, 4, 25], 1, twoEntries (zeros 32) [0, 4, 25], { slow1 (zeros 32) with tried := [0, 4, 25] }, ?_⟩
  repeat' apply And.intro
  all_goals decide +kernel

theorem test_meets_ObjectsOfAnImageAreFetched_4_none : ∃ (s : State) (n : Nat) (i : Image) (e : Entry),
    s.entry? n = some (i, e) ∧
    s.capo.state = .staging ∧
    e.verified = false ∧
    e.source = none ∧
    e.round = 0 ∧
    s.sourceNow i e = none ∧
    s.sourcesOf i e = [] := by
  refine ⟨((staging (zeros 32) []).onFlash fun f => { f with images := [] }).onCapo (fun c => { c with arrived := [], neighbours := [] }), 1, twoEntries (zeros 32) [], slow1 (zeros 32), ?_⟩
  repeat' apply And.intro
  all_goals decide +kernel

theorem test_meets_TuningPassesEnd_4 : ∃ (s : State),
    s.keep.setBuf = [] := by
  refine ⟨serving, ?_⟩
  repeat' apply And.intro
  all_goals decide +kernel

theorem test_meets_ReplayCommandsFeedBatches_5 : ∃ (s : State) (r : Req) (x : Session) (d : Bytes) (y : CapSet) (n : ReplayBatch),
    s.writes r x 0x3050 1 d ∧
    s.memOk = true ∧
    s.walk.replay = true ∧
    8 ≤ d.length ∧
    num d 0 1 = 1 ∧
    s.walk.replayNext = some n ∧
    s.walk.sets = [y] ∧
    y.buf < 3 ∧
    let k := num d 1 1
    let c := cfgStream y.cfg k
    let per := if cfgDt c = 0x1E then 2 * cfgSrcW c else cfgSrcW c
    let lines := (List.range (cfgSrcH c)).map fun l => unpackLine (cfgDt c) (((d.drop 8).drop (l * lineBytes c)).take (lineBytes c)) per
    let b := frameBytes (frameRows c lines)
    k < 32 ∧
    0 < cfgSrcW c ∧
    cfgEn c = true ∧
    bit n.absent k = false ∧
    k ∉ y.taken ∧
    (d.drop 8).length = lineBytes c * cfgSrcH c ∧
    b.length ≤ 2 ^ 24 := by
  refine ⟨(replaying.onWalk fun w => { w with replayNext := some ⟨9, 0, []⟩, sets := [{ set0 with taken := [] }] }), rq 2, ses, [1#8] ++ zeros 7 ++ List.replicate 16 1#8, { set0 with taken := [] }, ⟨9, 0, []⟩, ?_⟩
  repeat' apply And.intro
  all_goals decide +kernel

theorem test_meets_FlitsAreExchanged_1_1_data : ∃ (s : State) (port : Nat) (f : Flit),
    port < 6 ∧
    (s.port port).state = .up ∧
    f.crcOk = true ∧
    f.seqlo % 64 = (s.port port).rxSeq % 64 ∧
    let p := s.port port
    let n := ackCount p.unacked f.ackseq
    let c := p.credits.getD f.crclass 0 + f.credits
    let left := p.fwdLeft.getD f.cls 0
    let reserved := left = 0 ∧ (f.kind = 1 ∨ num f.payload 0 2 ∉ messageTypes)
    f.tagOk = true ∧
    f.kind ≤ 2 ∧
    (f.kind = 0 ∨ f.here = true ∧ ¬ reserved) ∧
    f.nak = false ∧
    c ≤ 64 ∧
    p.queue = [] ∧
    left ≠ 0 := by
  refine ⟨withPort { upPort with rxSeq := 69, fwdLeft := [2, 2, 2, 2] }, 0, { flit0 with kind := 1 }, ?_⟩
  repeat' apply And.intro
  all_goals decide +kernel

theorem test_meets_FlitsAreExchanged_1_3 : ∃ (s : State) (port : Nat) (f : Flit),
    port < 6 ∧
    (s.port port).state = .up ∧
    f.crcOk = true ∧
    f.seqlo % 64 = (s.port port).rxSeq % 64 ∧
    let p := s.port port
    let n := ackCount p.unacked f.ackseq
    let c := p.credits.getD f.crclass 0 + f.credits
    let left := p.fwdLeft.getD f.cls 0
    let reserved := left = 0 ∧ (f.kind = 1 ∨ num f.payload 0 2 ∉ messageTypes)
    f.tagOk = false ∧
    (∀ m ∈ s.group.members, m ≠ s.group.devno → (s.onPort port fun x => { x with state := .down }).routePort m ≠ none) := by
  refine ⟨((member 0).onGroup fun g => { g with members := [0, 3] }).onPort 0 fun _ => { upPort with rxSeq := 69, quarantines := 2 }, 0, { flit0 with tagOk := false }, ?_⟩
  repeat' apply And.intro
  all_goals decide +kernel

theorem test_meets_FlitsAreExchanged_6 : ∃ (s : State) (port cls : Nat),
    port < 6 ∧
    cls ∈ (s.port port).starving := by
  refine ⟨withPort { upPort with starving := [2] }, 0, 2, ?_⟩
  repeat' apply And.intro
  all_goals decide +kernel

theorem test_meets_MessagesMoveDataAndImages_1_3 : ∃ (s : State) (src : From) (ordinal run unit space line lines : Nat) (data : Bytes),
    src.port < 6 ∧
    s.memOk = true ∧
    s.tablesOk = true ∧
    s.hears src = true ∧
    run ≤ 15 ∧
    data.length = 64 * lines ∧
    s.inWindow run space unit line lines = true ∧
    s.awaitedRead src ordinal run unit space line lines = none ∧
    (s.peer src.dev).lines = 0 ∧
    (s.peer src.dev).early = [] ∧
    let a := s.windowMem run space unit line lines
    a.holds ((line + lines) * 64 - 1) = true ∧
    lines = 1 ∧
    signBadWords data ≠ [] := by
  refine ⟨member 0, ⟨1, 0⟩, 9, 15, 255, 5, 119, 1, List.replicate 64 1#8, ?_⟩
  repeat' apply And.intro
  all_goals decide +kernel

theorem test_meets_MessagesMoveDataAndImages_4_full : ∃ (s : State) (src : From) (k : Token) (unit : Nat),
    src.port < 6 ∧
    s.tablesOk = true ∧
    s.hears src = true ∧
    (k.run, src.dev) ∈ s.group.depends ∧
    k.chan ≤ 15 ∧
    unit / 256 = s.group.devno ∧
    (s.peer src.dev).early = [] ∧
    let c := s.core (unit % 256)
    let waits := 8 ≤ c.channelLoad k.chan ∨ c.crossing.any (fun x => x.chan == k.chan) = true
    8 ≤ c.channelLoad k.chan := by
  refine ⟨(member 0).onCore 255 (fun c => { c with inbound := List.replicate 8 ⟨9, 256, 15, 15, false, false⟩ }), ⟨1, 0⟩, ⟨9, 256, 15, 15, false, false⟩, 255, ?_⟩
  repeat' apply And.intro
  all_goals decide +kernel

theorem test_meets_PlanesAreWrittenAndScanned_6 : ∃ (s : State) (site side row cells : Nat) (q : Passing),
    site < 1280 ∧
    side < 2 ∧
    s.siteActive site = true ∧
    s.tablesOk = true ∧
    s.frozen = false ∧
    let pl := 2 * site + side
    let p := s.plane pl
    1 ≤ p.cls ∧
    p.cls ≤ 4 ∧
    p.running = 0 ∧
    p.awaits = false ∧
    (p.cls = 1 ∨ s.planeSelected site side = false) ∧
    (s.site site).state ≠ .retired ∧
    (s.site site).passing = some q ∧
    s.capo.vppQueue = [] ∧
    0 < cells ∧
    (p.loops = 0 ∨ p.row = row) ∧
    s.capo.vppBad = false ∧
    s.dev.pfailLow = false ∧
    s.vppLoad + loopCurrent cells ≤ 3000 := by
  refine ⟨(serving.onPlane 2559 fun p => { p with cls := 4 }).onSite 1279 fun x => { x with passing := some ⟨.periodic, 9, false, false, true, 0, 300, []⟩ }, 1279, 1, 1023, 544, ⟨.periodic, 9, false, false, true, 0, 300, []⟩, ?_⟩
  repeat' apply And.intro
  all_goals decide +kernel

theorem test_meets_MembersLeaveAndJoin_6 : ∃ (s : State) (joining : Bool) (ids : List MemberId) (rows : List RunRow) (publishers windows : List (List Nat)) (depends : List (Nat × Nat)),
    s.group.formed = true ∧
    s.inGroup = false := by
  refine ⟨(member 0).onGroup fun g => { g with members := [0] }, true, [], [], [], [], [], ?_⟩
  repeat' apply And.intro
  all_goals decide +kernel

theorem test_meets_EgoMotionAndWarp_1 : ∃ (s : State) (on : EgoVia) (data : Bytes) (secured late : Bool),
    s.dev.state ≠ .boot ∧
    s.walk.replay = false ∧
    s.egoCarrier on = true ∧
    (on.can = false → s.macDrops on.unit secured = false) ∧
    (leNat (s.pubCfg 0x3200 5 [1#8]) = 1 → s.egoTagOk data = true) ∧
    data.length = 32 ∧
    num data 0 2 = 0x4B45 ∧
    (∀ q, s.scene.egoSeq = some q → q < num data 8 8) ∧
    (sext 16 (num data 4 2)).natAbs ≤ 64 ∧
    (sext 16 (num data 6 2)).natAbs ≤ 64 ∧
    (sext 16 (num data 2 2)).natAbs ≤ 1280 ∧
    late = false := by
  refine ⟨((inBatch.onPub fun p => { p with cfg := [(0x320005, [0#8])] }).onWalk fun w => { w with batches := [{ bat 9 with ego := none }] }), ⟨true, 0, 0x340, 0⟩, egoHead ++ zeros 16, true, false, ?_⟩
  repeat' apply And.intro
  all_goals decide +kernel

theorem test_meets_EgoMotionAndWarp_1_held : ∃ (s : State) (on : EgoVia) (data : Bytes) (secured late : Bool),
    s.dev.state ≠ .boot ∧
    s.walk.replay = false ∧
    s.egoCarrier on = true ∧
    (on.can = false → s.macDrops on.unit secured = false) ∧
    (leNat (s.pubCfg 0x3200 5 [1#8]) = 1 → s.egoTagOk data = true) ∧
    data.length = 32 ∧
    num data 0 2 = 0x4B45 ∧
    (∀ q, s.scene.egoSeq = some q → q < num data 8 8) ∧
    (sext 16 (num data 4 2)).natAbs ≤ 64 ∧
    (sext 16 (num data 6 2)).natAbs ≤ 64 ∧
    (sext 16 (num data 2 2)).natAbs ≤ 1280 ∧
    late = false ∧
    let m : EgoMsg := { seq := num data 8 8, dyaw := sext 16 (num data 2 2), dx := sext 16 (num data 4 2), dy := sext 16 (num data 6 2)
                        digest := digest32 data }
    s.egoOpen = none := by
  refine ⟨(inBatch.onPub fun p => { p with cfg := [(0x320005, [0#8])] }), ⟨false, 1, 0, 49231⟩, leBytes 2 0x4B45 ++ leBytes 2 1280 ++ leBytes 2 64 ++ leBytes 2 64 ++ leBytes 8 5 ++ zeros 16, false, false, ?_⟩
  repeat' apply And.intro
  all_goals decide +kernel

theorem test_meets_EgoMotionAndWarp_1_tag : ∃ (s : State) (on : EgoVia) (data : Bytes) (secured late : Bool),
    s.dev.state ≠ .boot ∧
    s.walk.replay = false ∧
    s.egoCarrier on = true ∧
    (on.can = false → s.macDrops on.unit secured = false) ∧
    (leNat (s.pubCfg 0x3200 5 [1#8]) = 1 → s.egoTagOk data = true) ∧
    data.length = 32 ∧
    num data 0 2 = 0x4B45 ∧
    (∀ q, s.scene.egoSeq = some q → q < num data 8 8) ∧
    (sext 16 (num data 4 2)).natAbs ≤ 64 ∧
    (sext 16 (num data 6 2)).natAbs ≤ 64 ∧
    (sext 16 (num data 2 2)).natAbs ≤ 1280 ∧
    late = false ∧
    let m : EgoMsg := { seq := num data 8 8, dyaw := sext 16 (num data 2 2), dx := sext 16 (num data 4 2), dy := sext 16 (num data 6 2)
                        digest := digest32 data }
    s.egoTagOk data = true := by
  refine ⟨inBatch, ⟨false, 0, 0, 49231⟩, egoData, false, false, ?_⟩
  repeat' apply And.intro
  all_goals first | decide +kernel | exact fun _ => egoData_tag _ rfl rfl | exact egoData_tag _ rfl rfl | exact egoData_length | (rw [egoData_num _ _ (by omega)]; decide +kernel) | (intro q hq; rw [egoData_num _ _ (by omega)]; exact absurd hq (by decide))

theorem test_meets_ImportDatagramsCompleteTensors_1 : ∃ (s : State) (addr data : Bytes) (port : Nat) (on : MacVia) (src tgt : Fmt),
    on.mac < 2 ∧
    s.macDrops on.mac on.secured = false ∧
    s.memOk = true ∧
    s.dev.state ≠ .boot ∧
    s.dev.state ≠ .halted ∧
    s.walk.replay = false ∧
    let i := num data 4 1
    let c := s.importCfg i
    let len := num data 20 2
    let first := num data 16 4
    let seq := num data 8 8
    let w := src.width
    let elems := len / (w / 8)
    let raw := assemble [(first * (w / 8), slice data 24 len)] (packedLen src c.count)
    let conv := (List.range c.count).map fun k => floatImport src tgt c.mant c.shift c.zp (elemRaw w raw k)
    let codes := packRaw tgt.width (conv.map fun v => unsext tgt.width v.1)
    let x := tget0 ({} : ImportStream) s.walk.imports i
    outFmt c.srcfmt = some src ∧
    outFmt c.target = some tgt ∧
    data.length = 24 + len + 16 ∧
    num data 0 4 = 0x4B52494D ∧
    i < 8 ∧
    c.count ≠ 0 ∧
    num data 5 1 = c.srcfmt ∧
    num data 6 2 = 0 ∧
    num data 22 2 = 0 ∧
    len ≤ 1024 ∧
    padTo 16 addr = c.addr ∧
    port = c.port ∧
    elems * (w / 8) = len ∧
    first = 0 ∧
    elems = c.count ∧
    (∀ q, q ∈ x.doneSeq → q < seq) ∧
    x.seq = none ∧
    packedLen src c.count ≤ len ∧
    s.importTagOk i len data = true := by
  refine ⟨(inBatch.onDict fun x => { x with settings := [(0x306701, [8#8, 0#8] ++ leBytes 2 0 ++ leBytes 4 2 ++ leBytes 4 4194304 ++ zeros 4 ++ List.replicate 16 1#8 ++ leBytes 2 5000)] }), List.replicate 16 1#8, importData, 5000, ⟨1, false⟩, .fp16, .int8, ?_⟩
  have n : ∀ o k, o + k ≤ 28 → num importData o k = num importHead o k := import_num importTag
  have l : slice importData 24 4 = slice importHead 24 4 := import_slice importTag 24 4 (by omega)
  have e : importData.length = 44 := import_length
  simp only [n 0 4 (by omega), n 4 1 (by omega), n 5 1 (by omega), n 6 2 (by omega), n 8 8 (by omega), n 16 4 (by omega), n 20 2 (by omega), n 22 2 (by omega), e]
  repeat' apply And.intro
  all_goals first | decide +kernel | (refine (import_tag _ importTag importTag_length rfl ?_).trans (beq_self_eq_true _); decide +kernel)

theorem test_meets_ImportDatagramsCompleteTensors_2 : ∃ (s : State) (addr data : Bytes) (port : Nat) (on : MacVia),
    on.mac < 2 ∧
    s.macDrops on.mac on.secured = false ∧
    s.importTagOk (num data 4 1) (num data 20 2) data = false ∧
    s.dev.state ≠ .boot ∧
    s.dev.state ≠ .halted ∧
    s.walk.replay = false := by
  refine ⟨serving, [], importForged, 5000, ⟨0, false⟩, ?_⟩
  have n : ∀ o k, o + k ≤ 28 → num importForged o k = num importHead o k := import_num _
  simp only [n 4 1 (by omega), n 20 2 (by omega)]
  repeat' apply And.intro
  all_goals first | decide +kernel | (refine (import_tag _ (importTag.map (· + 1#8)) (by rw [List.length_map, importTag_length]) rfl ?_).trans importTag_other; decide +kernel)

/-! ### Ill-formed commands: one ill-formed term for each check of `Instr.wf` -/

/-- A sweep whose searches take the steps that R252 gives them. -/
def plainSweep : Sweep :=
  let z (w : Nat) : Search := ⟨List.replicate w 0, List.replicate w 0, []⟩
  ⟨z 8, z 8, z 6⟩

theorem test_wf_endpoint : (Instr.start { rq 2 with ep := 4 }).wf = false := by decide
theorem test_wf_op_byte : (Instr.start (rq 256)).wf = false := by decide
theorem test_wf_tid : (Instr.start { rq 2 with tid := 256 }).wf = false := by decide
theorem test_wf_sid : (Instr.start { rq 2 with sid := 256 }).wf = false := by decide
theorem test_wf_seq : (Instr.start { rq 2 with seq := 4294967296 }).wf = false := by decide
theorem test_wf_identifier : (Instr.start { rq 2 with via := { via0 with canId := 2 ^ 30 } }).wf = false := by decide
theorem test_wf_frame : (Instr.start { rq 2 with via := { via0 with frame := 3 } }).wf = false := by decide
theorem test_wf_destination_port : (Instr.start { rq 2 with via := { via0 with dport := 65536 } }).wf = false := by decide
theorem test_wf_source_port : (Instr.start { rq 2 with via := { via0 with sport := 65536 } }).wf = false := by decide
theorem test_wf_bows_site : (Instr.droneKernelSlot 0 ⟨[], [], [(1280, ⟨0, 0, [], []⟩)]⟩).wf = false := by decide
theorem test_wf_import_mac : (Instr.importDatagram [] 0 [] ⟨2, true⟩).wf = false := by decide
theorem test_wf_index : (Instr.read (rq 1) 65536 0).wf = false := by decide
theorem test_wf_subindex : (Instr.read (rq 1) 0 256).wf = false := by decide
theorem test_wf_write_length : (Instr.write (rq 2) 0x2000 1 (zeros 1025)).wf = false := by decide +kernel
theorem test_wf_segment_offset : (Instr.segRead (rq 3) 0x2000 1 4294967296).wf = false := by decide
theorem test_wf_segment_length : (Instr.segWrite (rq 4) 0x2000 1 0 (zeros 1025) false).wf = false := by decide +kernel
theorem test_wf_datagram_endpoint : (Instr.badPduDiscard 4 0 0 0 0).wf = false := by decide
theorem test_wf_transfer_object : (Instr.transferTimeout 0 0 65536 0).wf = false := by decide
theorem test_wf_core : (Instr.hang 256).wf = false := by decide
theorem test_wf_unit_site : (Instr.freezeTimeout (.site 1280)).wf = false := by decide
theorem test_wf_unit_cluster : (Instr.freezeTimeout (.array 32)).wf = false := by decide
theorem test_wf_unit_die : (Instr.freezeTimeout (.die 4)).wf = false := by decide
theorem test_wf_unit_pair : (Instr.freezeTimeout (.pair 4)).wf = false := by decide
theorem test_wf_unit_ddr : (Instr.freezeTimeout (.ddr 2)).wf = false := by decide
theorem test_wf_unit_exham : (Instr.freezeTimeout (.exham 6)).wf = false := by decide
theorem test_wf_manifest_segment : (Instr.manifestDelivery (rq 4) 0 (zeros 1025) false true true).wf = false := by decide +kernel
theorem test_wf_programmed_row : (Instr.programLoopStart 0 0 1024 0).wf = false := by decide
theorem test_wf_programmed_cells : (Instr.programLoopComplete 0 0 0 545).wf = false := by decide
theorem test_wf_site : (Instr.programLoopStart 1280 0 0 0).wf = false := by decide
theorem test_wf_side : (Instr.programLoopStart 0 2 0 0).wf = false := by decide
theorem test_wf_readback_digest : (Instr.sealReadbackDone 0 0 (zeros 31)).wf = false := by decide
theorem test_wf_scan_digest : (Instr.planeScanDone 0 0 (zeros 33) 0).wf = false := by decide
theorem test_wf_csi_port : (Instr.csi2FrameStart 16 0 0 false).wf = false := by decide
theorem test_wf_csi_channel : (Instr.csi2FrameEnd 0 16 0 false).wf = false := by decide
theorem test_wf_csi_ecc : (Instr.csi2FrameStart 0 0 3 false).wf = false := by decide
theorem test_wf_csi_data_type : (Instr.csi2LongPacket 0 0 64 0 true []).wf = false := by decide
theorem test_wf_stream : (Instr.streamLoss 32).wf = false := by decide
theorem test_wf_ordinal : (Instr.frameBufferRelease 281474976710656).wf = false := by decide
theorem test_wf_converter_fret : (Instr.bow 0 [⟨16, 0, 0, 1, false, false⟩] []).wf = false := by decide
theorem test_wf_converter_column : (Instr.bow 0 [⟨0, 544, 0, 1, false, false⟩] []).wf = false := by decide
theorem test_wf_converter_half : (Instr.bow 0 [] [⟨0, 0, 2, 1, false, false⟩]).wf = false := by decide
theorem test_wf_token_channel : (Instr.tokenArrival 0 ⟨0, 0, 16, 0, false, false⟩).wf = false := by decide
theorem test_wf_bad_word_space : (Instr.bowStep 0 [⟨5, 0, false, []⟩]).wf = false := by decide
theorem test_wf_bad_word : (Instr.shapeStep 0 [⟨0, 262144, false, []⟩]).wf = false := by decide
theorem test_wf_bad_word_of_move : (Instr.moveStep 0 [⟨2, 0, false, []⟩]).wf = false := by decide
theorem test_wf_margins_site : (Instr.droneKernelSlot 0 ⟨[], [(1280, 1)], []⟩).wf = false := by decide
theorem test_wf_pass_readback : (Instr.tuningPassComplete 0 ⟨[(0, 531, 1)], plainSweep, plainSweep, []⟩).wf = false := by decide
theorem test_wf_pass_steps : (Instr.tuningPassComplete 0 ⟨[], ⟨⟨[64], [], []⟩, plainSweep.gain, plainSweep.off⟩, plainSweep, []⟩).wf = false := by decide
theorem test_wf_pass_level : passWf ⟨[], plainSweep, plainSweep, [⟨4352, 0, 0, 0, false, false⟩]⟩ = false ∧ passWf ⟨[], plainSweep, plainSweep, []⟩ = true := by decide
theorem test_wf_domain : (Instr.calibrationToken [(.core 256, 0)] false false).wf = false := by decide
theorem test_wf_domain_of_a_link : domainWf (.link 3 2) = false := by decide
theorem test_wf_grant : (Instr.takeStep 0 true (some 4096)).wf = false := by decide
theorem test_wf_run : (Instr.runDeathNotice 0 0 16 0).wf = false := by decide
theorem test_wf_drone_unit : (Instr.droneKernelSlot 0 ⟨[(.site 1280, [])], [], []⟩).wf = false := by decide
theorem test_wf_tab_block : (Instr.tabBlockFetch 0 65536 []).wf = false := by decide
theorem test_wf_cluster : (Instr.arrayGrant 32 0).wf = false := by decide
theorem test_wf_core_of_cluster : (Instr.arrayGrant 0 8).wf = false := by decide
theorem test_wf_mac : (Instr.linkDown 2).wf = false := by decide
theorem test_wf_key_slot : (Instr.clientKeySlotWrite (rq 4) 8 []).wf = false := by decide
theorem test_wf_macsec_association : (Instr.macsecKeyWrite (rq 4) 0 [] 2 []).wf = false := by decide
theorem test_wf_macsec_number : (Instr.macsecFrameReceived 0 0 0 4294967296 true true).wf = false := by decide
theorem test_wf_port : (Instr.quarantineRelease (rq 2) 6).wf = false := by decide
theorem test_wf_partner : (Instr.hello 0 24 0 0 0 0 []).wf = false := by decide
theorem test_wf_flit_kind : (Instr.flitReceived 0 ⟨8, false, 0, 0, 0, 0, 0, 0, 0, true, true, true, []⟩).wf = false := by decide
theorem test_wf_flit_payload : (Instr.flitReceived 0 ⟨0, false, 0, 0, 0, 0, 0, 0, 0, true, true, true, zeros 257⟩).wf = false := by
  decide +kernel
theorem test_wf_flit_credits : (Instr.flitReceived 0 ⟨0, false, 0, 0, 0, 0, 0, 128, 0, true, true, true, []⟩).wf = false := by decide
theorem test_wf_flit_class : (Instr.starvationEvent 0 4).wf = false := by decide
theorem test_wf_member : (Instr.memberTimeout 24).wf = false := by decide
theorem test_wf_sender : (Instr.fence ⟨24, 0⟩ 0).wf = false := by decide
theorem test_wf_counter : (Instr.counterIncrement 7 true).wf = false := by decide
theorem test_wf_window_address : (Instr.windowPageWrite (rq 2) 65536 1 0 []).wf = false := by decide
theorem test_wf_protect_byte : (Instr.blockProtectWrite (rq 2) 256).wf = false := by decide
theorem test_wf_lockstep_pair : (Instr.lockstepMismatch 4).wf = false := by decide

/-! ### Values worked out in the spec -/

/-- Totals in which column c holds v and every other column holds 0. -/
def totalsWith (c v : Nat) : List Nat := (List.replicate 532 0).set c v

/-- 02_count_exact_crossbar.md, the examples after Table 02-6: column 200 one high, column 455 one low, two columns. -/
theorem test_syndrome_high_column : synDecide 1 201 (totalsWith 200 18) 412 = .correct 200 false := by decide +kernel
theorem test_syndrome_low_column : synDecide 1023 568 (totalsWith 455 17) 412 = .correct 455 true := by decide +kernel
theorem test_syndrome_two_columns : synDecide 2 312 (totalsWith 10 18) 412 = .replay := by decide +kernel

/-- Rows r, r + 1, … of a bow, all driven, with no cell set. -/
def drivenRows (first n : Nat) : List (Nat × Nat) := (List.range n).map fun i => (first + i, 0)

/-- 02, the example after R52: fret 5 splits into 23 and 23 rows, frets 6 and 9 do not. -/
theorem test_fret_splits : (fretDrive (drivenRows 320 46) (fun _ => 43) false 5).split = true := by decide +kernel
theorem test_fret_halves : (fretDrive (drivenRows 320 46) (fun _ => 43) false 5).half1.length = 23 := by decide +kernel
theorem test_fret_few_ones : (fretDrive (drivenRows 384 52) (fun _ => 38) false 6).split = false := by decide +kernel
theorem test_fret_few_rows : (fretDrive (drivenRows 576 31) (fun _ => 64) false 9).split = false := by decide +kernel

/-- A bridge descriptor with a scale and a zero point, and nothing else. -/
def scale (outfmt : Nat) (shift zp : Int) : BDesc :=
  ⟨outfmt, 0, 0, false, 1, false, false, false, 0, 8388608, shift, zp, 0, 0, 0, 0, 0, false⟩

/-- Table 03-6. -/
theorem test_requant_half_up : requant (scale 0 33 0) 1296 96 = ⟨122, .nearHi⟩ := by decide +kernel
theorem test_requant_half_down : requant (scale 0 33 0) 1328 96 = ⟨124, .nearHi⟩ := by decide +kernel
theorem test_requant_negative : requant (scale 0 33 0) (-1328) 96 = ⟨-124, .nearLo⟩ := by decide +kernel
theorem test_requant_clips : requant (scale 0 33 0) 1360 96 = ⟨127, .hi⟩ := by decide +kernel
theorem test_requant_zero_point : requant (scale 0 33 (-3)) 1360 96 = ⟨125, .nearHi⟩ := by decide +kernel

/-- 03, the example after R101: FP8-E4M3. -/
theorem test_export_ties_down : requant (scale 10 23 0) 17 1 = ⟨0x58, .none⟩ := by decide +kernel
theorem test_export_ties_up : requant (scale 10 23 0) 19 1 = ⟨0x5A, .none⟩ := by decide +kernel
theorem test_export_sign : requant (scale 10 23 0) (-19) 1 = ⟨0xDA, .none⟩ := by decide +kernel
theorem test_export_clips : requant (scale 10 23 0) 500 1 = ⟨0x7E, .hi⟩ := by decide +kernel
theorem test_export_near : requant (scale 10 23 0) 430 1 = ⟨0x7D, .none⟩ := by decide +kernel

/-- 03, the example after R97: average pooling. -/
theorem test_average_pool : poolOne { scale 0 0 0 with pool := 2 } [9, 10, 9, 10] = some 10 := by decide +kernel
theorem test_average_pool_negative : poolOne { scale 0 0 0 with pool := 2 } [-9, -10, -9, -10] = some (-10) := by decide +kernel
theorem test_average_pool_edge : poolOne { scale 0 0 0 with pool := 2 } [9, 10] = some 10 := by decide +kernel

/-- 03, the example after R80: B1 weights give 2 · 8 − 6 = 10 over the eight bows of the inputs 3, −2, 5 and 0. -/
theorem test_b1_bows :
    ((List.range 8).map fun b =>
      bowTerm .b1 true 8 b [bits (3 : Nat) b b + bits (5 : Nat) b b] (bits 3 b b + bits 254 b b + bits 5 b b) 0).sum = 10 := by
  decide +kernel

/-- 04, the example after R119. -/
theorem test_softmax_row :
    softmaxRow ((((List.replicate 256 0).set 0 32768).set 2 25520).set 10 9388) [40, 38, 30, 40] 4 = [83, 65, 24, 83] := by
  decide +kernel

/-- R252, worked by hand: a ramp of 6 bits whose mids 32, 40 and 42 read high and 48, 44 and 43 do not ends at 42. -/
theorem test_edge_search : edge 6 [64, 0, 32, 31, 40, 0] = 42 := by decide

/-- R254: raw values 121 and 122 give 122; the example of 09 gives 130 from 131 and 130. -/
theorem test_candidate : candidate 121 122 = 122 := by decide +kernel
theorem test_candidate_down : candidate 131 130 = 130 := by decide +kernel

/-- 11, the example of the warp: DYAW 64, DX 3, DY 0. -/
theorem test_warp_cos : warpCos 64 = 32763 := by decide +kernel
theorem test_warp_sin : warpSin 64 = 572 := by decide +kernel
theorem test_warp_cell : warpSource (64, 3, 0) 32763 572 (512 * 1024 + 600) = some (514 * 1024 + 603) := by decide +kernel
theorem test_warp_corner : warpSource (64, 3, 0) 32763 572 (1023 * 1024 + 1023) = none := by decide +kernel

/-- 16, the example of a hang: core C1.6.0 has unit code 0x070. -/
theorem test_core_code : coreCode 0 (64 + 8 * 6) = 0x070 := by decide

/-- 17, the example of the coolant: 78 °C at the inlet (in sixteenths) limits the power to 90 W. -/
theorem test_power_limit : (State.reset.onPower fun p => { p with inlet := some (78 * 16) }).powerLimit = 90 := by decide +kernel

/-- 15, the example of the window: the last byte of the write wraps within page 252. -/
theorem test_page_wraps :
    loadPage [] 58 ((List.range 10).map fun i => BitVec.ofNat 8 i) =
      [(58, 0), (59, 1), (60, 2), (61, 3), (62, 4), (63, 5), (0, 6), (1, 7), (2, 8), (3, 9)] := by decide +kernel

/-! ### The queue of commands -/

theorem test_idle : step State.reset = .next State.reset := by rfl

theorem test_first_in_first_out :
    (match step { State.reset with pending := [.periodicBatch, .egoMotionWindowEnd] } with
      | .next t => t.pending | _ => []) = [.egoMotionWindowEnd] := by rfl

end Sys2Proof.Tests
end

section
/-!
SUPPORT. Units in their tables: what a core, a cluster and a work-counter bank read after an update of one of them, and folds that change nothing.
-/

namespace Sys2Proof.Machine

/-! ### Cores, clusters and work-counter banks in their tables -/

/-- The table of cores is in canonical form. -/
def State.coresOk (s : State) : Prop := twf (fun _ => ({} : Core)) s.cores = true

/-- The table of clusters and the work-counter banks of cluster `cl` are in canonical form. -/
def State.banksOk (s : State) (cl : Nat) : Prop :=
  twf (fun _ => ({} : Cluster)) s.clusters = true ∧ twf (fun _ => ({} : CtrBank)) (s.cluster cl).banks = true

theorem coresOk_of_tablesOk (s : State) (h : s.tablesOk = true) : s.coresOk := by
  simp only [State.tablesOk, Bool.and_eq_true] at h
  obtain ⟨⟨⟨⟨⟨⟨⟨⟨⟨⟨-, hcores⟩, -⟩, -⟩, -⟩, -⟩, -⟩, -⟩, -⟩, -⟩, -⟩ := h
  exact hcores

/-- An entry of a table is listed, or it is the default. -/
theorem tget_mem_or_default {α : Type} (d : Nat → α) (t : Tbl α) (k : Nat) : (∃ e ∈ t, tget d t k = e.2) ∨ tget d t k = d k := by
  induction t with
  | nil => exact .inr rfl
  | cons e t ih =>
    rw [show tget d (e :: t) k = if e.1 = k then e.2 else tget d t k from rfl]
    split
    · exact .inl ⟨e, List.mem_cons_self, rfl⟩
    · exact ih.imp_left fun ⟨x, hx, hv⟩ => ⟨x, List.mem_cons_of_mem e hx, hv⟩

theorem banksOk_of_tablesOk (s : State) (cl : Nat) (h : s.tablesOk = true) : s.banksOk cl := by
  simp only [State.tablesOk, Bool.and_eq_true, List.all_eq_true] at h
  obtain ⟨⟨⟨⟨⟨⟨⟨⟨⟨-, hclusters⟩, hbanks⟩, -⟩, -⟩, -⟩, -⟩, -⟩, -⟩, -⟩ := h
  refine ⟨hclusters, ?_⟩
  rcases tget_mem_or_default (fun _ => ({} : Cluster)) s.clusters cl with ⟨e, he, hv⟩ | hv
  · rw [State.cluster, tget0, hv]; exact hbanks e he
  · rw [State.cluster, tget0, hv]; rfl

/-- A core reads what was written to it; the other cores are as they were. -/
theorem core_onCore (s : State) (n m : Nat) (f : Core → Core) (h : s.coresOk) :
    (s.onCore n f).core m = if n = m then f (s.core n) else s.core m := tget_tmod _ n m f _ h

theorem coresOk_onCore (s : State) (n : Nat) (f : Core → Core) (h : s.coresOk) : (s.onCore n f).coresOk := twf_tmod _ n f _ h

/-- A cluster reads what was written to it; the other clusters are as they were. -/
theorem cluster_onCluster (s : State) (n m : Nat) (f : Cluster → Cluster) (h : twf (fun _ => ({} : Cluster)) s.clusters = true) :
    (s.onCluster n f).cluster m = if n = m then f (s.cluster n) else s.cluster m := tget_tmod _ n m f _ h

theorem banksOk_onCluster (s : State) (n : Nat) (f : Cluster → Cluster) (h : s.banksOk n)
    (hf : twf (fun _ => ({} : CtrBank)) (f (s.cluster n)).banks = true) : (s.onCluster n f).banksOk n :=
  ⟨twf_tmod (fun _ => ({} : Cluster)) n f s.clusters h.1, by rw [cluster_onCluster s n n f h.1, if_pos rfl]; exact hf⟩

theorem closeBank_banks (c : Cluster) (key : Nat) :
    (c.closeBank key).banks = tmod (fun _ => {}) key (fun x => { x with state := .closed, captures := [], sent := [] }) c.banks := rfl

/-- Closing a bank keeps the canonical form of the banks, and so does writing one. -/
theorem banksOk_closeBank (s : State) (n key : Nat) (h : s.banksOk n) : (s.onCluster n (Cluster.closeBank key)).banksOk n :=
  banksOk_onCluster s n _ h (by rw [closeBank_banks]; exact twf_tmod _ key _ (s.cluster n).banks h.2)

theorem banksOk_onCtrBank (s : State) (n k b : Nat) (f : CtrBank → CtrBank) (h : s.banksOk n) : (s.onCtrBank n k b f).banksOk n :=
  banksOk_onCluster s n _ h (twf_tmod (fun _ => ({} : CtrBank)) (k * 2 + b % 2) f (s.cluster n).banks h.2)

/-- A bank of a batch reads what was written to it; the batch's other banks are as they were. -/
theorem ctrBank_onCtrBank (s : State) (n k j b : Nat) (f : CtrBank → CtrBank) (h : s.banksOk n) :
    (s.onCtrBank n k b f).ctrBank n j b = if k = j then f (s.ctrBank n k b) else s.ctrBank n j b := by
  rw [State.ctrBank, State.onCtrBank, cluster_onCluster s n n _ h.1, if_pos rfl]
  refine (tget_tmod (fun _ => ({} : CtrBank)) (k * 2 + b % 2) (j * 2 + b % 2) f (s.cluster n).banks h.2).trans ?_
  by_cases hj : k = j
  · subst hj; rw [if_pos rfl, if_pos rfl]; rfl
  · rw [if_neg (by omega), if_neg hj]; rfl

/-- Closing a bank leaves the other banks of its batch. -/
theorem ctrBank_closeBank_ne (s : State) (n k j b : Nat) (h : s.banksOk n) (hj : k ≠ j) :
    (s.onCluster n (Cluster.closeBank (k * 2 + b % 2))).ctrBank n j b = s.ctrBank n j b := by
  rw [State.ctrBank, cluster_onCluster s n n _ h.1, if_pos rfl, closeBank_banks, tget0, tget_tmod _ _ _ _ _ h.2, if_neg (by omega)]
  rfl

/-- An operation that leaves the cores alone leaves each of them. -/
theorem core_of_frame (l : List Part) (s t : State) (h : changesOnly l s t) (hl : Part.cores ∉ l) (m : Nat) : t.core m = s.core m := by
  have : t.cores = s.cores := h .cores hl
  rw [State.core, State.core, this]

theorem coresOk_of_frame (l : List Part) (s t : State) (h : changesOnly l s t) (hl : Part.cores ∉ l) (hs : s.coresOk) : t.coresOk := by
  have : t.cores = s.cores := h .cores hl
  rwa [State.coresOk, this]

theorem cluster_of_frame (l : List Part) (s t : State) (h : changesOnly l s t) (hl : Part.clusters ∉ l) (m : Nat) :
    t.cluster m = s.cluster m := by
  have : t.clusters = s.clusters := h .clusters hl
  rw [State.cluster, State.cluster, this]

/-! ### Folds -/

/-- A fold whose steps change nothing changes nothing. -/
theorem foldl_eq_self {α β : Type} (f : β → α → β) (b : β) (l : List α) (h : ∀ x ∈ l, f b x = b) : l.foldl f b = b := by
  refine List.foldlRecOn (motive := (· = b)) l f rfl fun c hc x hx => ?_
  rw [hc]
  exact h x hx

/-- A reflexive and transitive relation that holds across each step of a fold holds across the fold. -/
theorem foldl_rel {α β : Type} (R : β → β → Prop) (refl : ∀ b, R b b) (trans : ∀ a b c, R a b → R b c → R a c) (f : β → α → β)
    (h : ∀ b x, R b (f b x)) (l : List α) (b : β) : R b (l.foldl f b) :=
  List.foldlRecOn (motive := R b) l f (refl b) fun c hc x _ => trans b c _ hc (h c x)

end Sys2Proof.Machine
end

section
/-!
PROOFS. How an ordinal reaches the cores: the cluster accepts it, a core receives it, and the core starts its batch
(01_engine_to_package.md R22; 05_tablature.md R139, R141; 06_mapping_and_tiles.md R169).
-/

namespace Sys2Proof.Machine

/-! ### CLUSTER_ORDINAL_ACCEPT -/

/-- The work counter `k` of a cluster opens its bank for batch `b`, when its counter table entry gives it tiles (R169). -/
def State.openBank (cl b : Nat) (s : State) (k : Nat) : State :=
  if ceLimit (s.counterEntry cl (s.devSide b) k) = 0 then s
  else (s.onCluster cl (Cluster.closeBank (k * 2 + b % 2))).onCtrBank cl k b fun _ => { state := .opened, ordinal := b }

/-- The state that an accepted ordinal leaves: first among the accepted, its banks opened, the event counters at the epoch that it reached. -/
def State.acceptOrdinal (cl b : Nat) (s : State) : State :=
  let s2 := (List.range 16).foldl (State.openBank cl b) (s.onCluster cl fun c => { c with accepted := (b :: c.accepted).take 4 })
  if s2.epochReached b && s2.obs.epochClusters.contains cl then s2.switchCluster cl else s2

/-- A cluster can accept the ordinal of batch `b` now (R22, R169). -/
structure AcceptsOrdinal (s : State) (cl b : Nat) : Prop where
  inRange : cl < 32
  live : s.frozen = false
  active : s.clusterActive cl = true
  opened : (s.batch? b).isSome = true
  above : ∀ x, x ∈ (s.cluster cl).accepted → x < b
  skipsNone : s.clusterSkipsNone cl b = true
  ended : b < 2 ∨ s.clusterEnded cl (b - 2) = true

theorem exec_clusterOrdinalAccept (s : State) (cl b : Nat) (h : AcceptsOrdinal s cl b) :
    exec (.clusterOrdinalAccept cl b) s = .next (s.acceptOrdinal cl b) := by
  show execClusterOrdinalAccept cl b s = _
  have habove : (s.cluster cl).accepted.all (fun x => decide (x < b)) = true := by simpa using h.above
  have hended : (decide (b < 2) || s.clusterEnded cl (b - 2)) = true := by simpa using h.ended
  simp only [execClusterOrdinalAccept, if_pos h.inRange, h.live, h.active, h.opened, habove, h.skipsNone, hended]
  rfl

/-- Opening a bank leaves the accepted ordinals, the other banks of the batch and the other clusters. -/
structure BankStep (cl b k : Nat) (s t : State) : Prop where
  frame : changesOnly [.clusters] s t
  ok : t.banksOk cl
  accepted : (t.cluster cl).accepted = (s.cluster cl).accepted
  others : ∀ m, m ≠ cl → t.cluster m = s.cluster m
  opened : ceLimit (s.counterEntry cl (s.devSide b) k) ≠ 0 → t.ctrBank cl k b = { state := .opened, ordinal := b }
  stays : ∀ j, j ≠ k → t.ctrBank cl j b = s.ctrBank cl j b

theorem openBank_step (s : State) (cl b k : Nat) (h : s.banksOk cl) : BankStep cl b k s (s.openBank cl b k) := by
  unfold State.openBank
  split
  next hzero => exact ⟨changesOnly_refl _ s, h, rfl, fun _ _ => rfl, fun hne => absurd hzero hne, fun _ _ => rfl⟩
  next =>
    let s1 := s.onCluster cl (Cluster.closeBank (k * 2 + b % 2))
    have h1 : s1.banksOk cl := banksOk_closeBank s cl _ h
    have hread (m : Nat) : s1.cluster m = if cl = m then (s.cluster cl).closeBank (k * 2 + b % 2) else s.cluster m :=
      cluster_onCluster s cl m _ h.1
    refine ⟨changesOnly_trans _ _ _ _ (onCluster_frame s cl _) (onCluster_frame s1 cl _), banksOk_onCtrBank s1 cl k b _ h1, ?_,
      fun m hm => ?_, fun _ => ?_, fun j hj => ?_⟩
    · rw [State.onCtrBank, cluster_onCluster s1 cl cl _ h1.1, if_pos rfl, hread, if_pos rfl]
      rfl
    · rw [State.onCtrBank, cluster_onCluster s1 cl m _ h1.1, if_neg (Ne.symm hm), hread, if_neg (Ne.symm hm)]
    · rw [ctrBank_onCtrBank s1 cl k k b _ h1, if_pos rfl]
    · rw [ctrBank_onCtrBank s1 cl k j b _ h1, if_neg (Ne.symm hj), ctrBank_closeBank_ne s cl k j b h (Ne.symm hj)]

/-- The counter table entry of a batch's side stays while clusters change. -/
theorem batchEntry_of_frame (s t : State) (cl b k : Nat) (h : changesOnly [.clusters] s t) :
    t.counterEntry cl (t.devSide b) k = s.counterEntry cl (s.devSide b) k := by
  have hmem : t.mem = s.mem := h .mem (by decide)
  have hcapo : t.capo = s.capo := h .capo (by decide)
  simp only [State.counterEntry, State.devSide, hmem, hcapo]

/-- The banks of the first `n` work counters opened, one after the other. -/
structure BanksOpened (cl b n : Nat) (s t : State) : Prop where
  frame : changesOnly [.clusters] s t
  ok : t.banksOk cl
  accepted : (t.cluster cl).accepted = (s.cluster cl).accepted
  others : ∀ m, m ≠ cl → t.cluster m = s.cluster m
  opened : ∀ k, k < n → ceLimit (s.counterEntry cl (s.devSide b) k) ≠ 0 → t.ctrBank cl k b = { state := .opened, ordinal := b }

theorem openBanks_opened (s : State) (cl b n : Nat) (h : s.banksOk cl) :
    BanksOpened cl b n s ((List.range n).foldl (State.openBank cl b) s) := by
  induction n with
  | zero => exact ⟨changesOnly_refl _ s, h, rfl, fun _ _ => rfl, fun k hk => absurd hk (Nat.not_lt_zero k)⟩
  | succ n ih =>
    rw [List.range_succ, List.foldl_append]
    have step := openBank_step _ cl b n ih.ok
    refine ⟨changesOnly_trans _ _ _ _ ih.frame step.frame, step.ok, step.accepted.trans ih.accepted,
      fun m hm => (step.others m hm).trans (ih.others m hm), fun k hk hne => ?_⟩
    rcases Nat.lt_succ_iff_lt_or_eq.1 hk with hlt | rfl
    · exact (step.stays k (by omega)).trans (ih.opened k hlt hne)
    · exact step.opened (by rwa [batchEntry_of_frame _ _ _ _ _ ih.frame])

theorem switchCluster_frame (s : State) (cl : Nat) : changesOnly [.obs] s (s.switchCluster cl) := onObs_frame s _

/-- An accepted ordinal stands first among the accepted of its cluster, and every work counter with tiles has its bank open (R169). -/
theorem acceptOrdinal_opens (s : State) (cl b : Nat) (h : s.banksOk cl) :
    ((s.acceptOrdinal cl b).cluster cl).accepted = (b :: (s.cluster cl).accepted).take 4 ∧
    (∀ k, k < 16 → ceLimit (s.counterEntry cl (s.devSide b) k) ≠ 0 →
      (s.acceptOrdinal cl b).ctrBank cl k b = { state := .opened, ordinal := b }) ∧
    (∀ m, m ≠ cl → (s.acceptOrdinal cl b).cluster m = s.cluster m) ∧ changesOnly [.clusters, .obs] s (s.acceptOrdinal cl b) := by
  obtain ⟨hclusters, hbanks⟩ := h
  let s1 := s.onCluster cl fun c => { c with accepted := (b :: c.accepted).take 4 }
  have hread : ∀ m, s1.cluster m = if cl = m then { s.cluster cl with accepted := (b :: (s.cluster cl).accepted).take 4 } else s.cluster m :=
    fun m => cluster_onCluster s cl m _ hclusters
  have hself : s1.cluster cl = { s.cluster cl with accepted := (b :: (s.cluster cl).accepted).take 4 } := (hread cl).trans (if_pos rfl)
  have hframe : changesOnly [.clusters] s s1 := onCluster_frame s cl _
  have hok : s1.banksOk cl := banksOk_onCluster s cl _ ⟨hclusters, hbanks⟩ hbanks
  have hopen := openBanks_opened s1 cl b 16 hok
  have hlast : changesOnly [.obs] ((List.range 16).foldl (State.openBank cl b) s1) (s.acceptOrdinal cl b) :=
    changesOnly_ite _ _ _ _ _ (switchCluster_frame _ cl) (changesOnly_refl _ _)
  have hlastRead : ∀ m, (s.acceptOrdinal cl b).cluster m = ((List.range 16).foldl (State.openBank cl b) s1).cluster m :=
    cluster_of_frame _ _ _ hlast (by decide)
  refine ⟨?_, fun k hk hne => ?_, fun m hm => ?_, ?_⟩
  · rw [hlastRead, hopen.accepted, hself]
  · rw [State.ctrBank, hlastRead]
    exact hopen.opened k hk (by rwa [batchEntry_of_frame _ _ _ _ _ hframe])
  · rw [hlastRead, hopen.others m hm, hread, if_neg (Ne.symm hm)]
  · exact changesOnly_trans _ _ _ _ (changesOnly_mono _ _ _ _ (changesOnly_trans _ _ _ _ hframe hopen.frame) (by decide))
      (changesOnly_mono _ _ _ _ hlast (by decide))

/-! ### ORDINAL_RECEIVED -/

/-- A core can take the ordinal of batch `b`, whose record is `x`, with this boot count and epoch now (R22). -/
structure ReceivesOrdinal (s : State) (core b boot epoch : Nat) (x : Batch) : Prop where
  inRange : core < 256
  live : s.frozen = false
  opened : s.batch? b = some x
  active : s.coreActive core = true
  accepted : b ∈ (s.cluster (core / 8)).accepted
  sameEpoch : x.epoch = epoch
  sameBoot : boot = s.dev.bootCount
  aboveHeld : ∀ m, m ∈ (s.core core).ordinals → m.ordinal < b
  aboveWalked : ∀ c, (s.core core).cur = some c → c < b
  aboveDone : ∀ c, (s.core core).done = some c → c < b
  skipsNone : s.coreSkipsNone core b = true

theorem exec_ordinalReceived (s : State) (core b boot epoch : Nat) (x : Batch) (h : ReceivesOrdinal s core b boot epoch x) :
    exec (.ordinalReceived core b boot epoch) s =
      .next (s.onCore core fun c => { c with ordinals := c.ordinals ++ [⟨b, boot, epoch⟩] }) := by
  show execOrdinalReceived core b boot epoch s = _
  have below (o : Option Nat) (ho : ∀ c, o = some c → c < b) : o.elim true (fun c => decide (c < b)) = true := by
    cases o with
    | none => rfl
    | some c => simpa using ho c rfl
  have hheld : (s.core core).ordinals.all (fun m => decide (m.ordinal < b)) = true := by simpa using h.aboveHeld
  simp [execOrdinalReceived, h.inRange, h.live, h.opened, h.active, h.accepted, h.sameEpoch, h.sameBoot, hheld, below _ h.aboveWalked,
    below _ h.aboveDone, h.skipsNone]

/-! ### CORE_BATCH_START -/

/-- A core whose standby copies nothing into it keeps its engines (02 Table 02-11). -/
theorem substitute_eq_self (s : State) (core b : Nat) (h : (s.site (core * 5 + 4)).state ≠ .copying) : s.substitute core b = s := by
  unfold State.substitute
  dsimp only
  split
  · next hcopy _ => exact absurd hcopy h
  · rfl

/-- A core of which no site leaves loses no engine (10 R296). -/
theorem dropLost_eq_self (s : State) (core : Nat) (h : ∀ k, k < 5 → (s.site (core * 5 + k)).leaving = false) : s.dropLost core = s :=
  foldl_eq_self _ s _ fun k hk => by simp [h k (List.mem_range.1 hk)]

theorem resetSites_frame (s : State) (core b : Nat) : changesOnly [.sites] s (s.resetSites core b) :=
  changesOnly_foldl _ _ (fun t _ => onSite_frame t _ _) _ s

/-- `d` is the core `c` but for its sequencer state and the tokens that come to its port. -/
def Core.alike (c d : Core) : Prop := ∃ q waiting coming, d = { c with seq := q, crossing := waiting, inbound := coming }

theorem Core.alike_refl (c : Core) : c.alike c := ⟨c.seq, c.crossing, c.inbound, rfl⟩

theorem Core.alike_trans (c d e : Core) (h : c.alike d) (k : d.alike e) : c.alike e := by
  obtain ⟨_, _, _, rfl⟩ := h
  obtain ⟨q, waiting, coming, rfl⟩ := k
  exact ⟨q, waiting, coming, rfl⟩

/-- A step leaves every core alike, and the table of cores in canonical form. -/
def coresAlike (s t : State) : Prop := s.coresOk → t.coresOk ∧ ∀ n, (s.core n).alike (t.core n)

theorem coresAlike_refl (s : State) : coresAlike s s := fun h => ⟨h, fun n => (s.core n).alike_refl⟩

theorem coresAlike_trans (s t u : State) (h : coresAlike s t) (k : coresAlike t u) : coresAlike s u := fun hs =>
  have ⟨ht, hst⟩ := h hs
  have ⟨hu, htu⟩ := k ht
  ⟨hu, fun n => Core.alike_trans _ _ _ (hst n) (htu n)⟩

theorem coresAlike_of_frame (l : List Part) (s t : State) (h : changesOnly l s t) (hl : Part.cores ∉ l) : coresAlike s t := fun hs =>
  ⟨coresOk_of_frame l s t h hl hs, fun n => by rw [core_of_frame l s t h hl n]; exact Core.alike_refl _⟩

theorem coresAlike_onCore (s : State) (n : Nat) (f : Core → Core) (h : ∀ c : Core, c.alike (f c)) : coresAlike s (s.onCore n f) := fun hs =>
  ⟨coresOk_onCore s n f hs, fun m => by
    rw [core_onCore s n m f hs]
    split
    · next hm => subst hm; exact h _
    · exact Core.alike_refl _⟩

theorem admitToken_frame (s : State) (core chan : Nat) : changesOnly [.cores] s (s.admitToken core chan) := by
  unfold State.admitToken
  dsimp only
  split
  · exact changesOnly_ite _ _ _ _ _ (changesOnly_trans _ _ _ _ (onCore_frame s _ _) (onCore_frame _ _ _)) (changesOnly_refl _ s)
  · exact changesOnly_refl _ s

theorem admitToken_alike (s : State) (core chan : Nat) : coresAlike s (s.admitToken core chan) := by
  unfold State.admitToken
  dsimp only
  split
  · next t _ =>
    split
    · exact coresAlike_trans _ _ _ (coresAlike_onCore s core _ fun c => ⟨c.seq, c.crossing.erase t, c.inbound, rfl⟩)
        (coresAlike_onCore _ core _ fun c => ⟨c.seq, c.crossing, c.inbound ++ [t], rfl⟩)
    · exact coresAlike_refl s
  · exact coresAlike_refl s

theorem admitTokens_frame (s : State) (core : Nat) : changesOnly [.cores] s (s.admitTokens core) :=
  changesOnly_foldl _ _ (fun t k => admitToken_frame t core (k % 4)) _ s

theorem admitTokens_alike (s : State) (core : Nat) : coresAlike s (s.admitTokens core) :=
  foldl_rel coresAlike coresAlike_refl coresAlike_trans _ (fun t k => admitToken_alike t core (k % 4)) _ s

theorem refreshSeq_frame (s : State) (core : Nat) : changesOnly [.cores] s (s.refreshSeq core) :=
  changesOnly_ite _ _ _ _ _ (onCore_frame s _ _) (changesOnly_refl _ s)

theorem refreshSeq_alike (s : State) (core : Nat) : coresAlike s (s.refreshSeq core) := by
  unfold State.refreshSeq
  dsimp only
  split
  · exact coresAlike_onCore s core _ fun c => ⟨_, c.crossing, c.inbound, rfl⟩
  · exact coresAlike_refl s

theorem switchCore_frame (s : State) (core : Nat) : changesOnly [.obs] s (s.switchCore core) := onObs_frame s _

theorem keepArmed_frame (s : State) (digest : Bytes) : changesOnly [.flash] s (s.keepArmed digest) :=
  changesOnly_ite _ _ _ _ _ (changesOnly_refl _ s) (onFlash_frame s _)

theorem nameImageSlot_frame (s : State) (digest : Bytes) : changesOnly [.flash] s (s.nameImageSlot digest) := by
  unfold State.nameImageSlot
  split
  · exact changesOnly_ite _ _ _ _ _ (changesOnly_refl _ s) (onFlash_frame s _)
  · exact changesOnly_refl _ s

/-- Selecting a side changes the capo, and what the keep store and the boot flash hold about it (07 R201). -/
theorem capoSelect_frame (s : State) : changesOnly [.capo, .flash, .keep] s s.capoSelect := by
  unfold State.capoSelect
  extract_lets side img i s1
  have h1 : changesOnly [.capo, .flash, .keep] s s1 :=
    changesOnly_trans _ _ _ _ (changesOnly_trans _ _ _ _ (changesOnly_mono _ _ _ _ (keepArmed_frame s []) (by decide))
      (changesOnly_mono _ _ _ _ (nameImageSlot_frame _ _) (by decide))) (changesOnly_mono _ _ _ _ (onCapo_frame _ _) (by decide))
  exact changesOnly_trans _ _ _ _ h1 (changesOnly_trans _ _ _ _ (changesOnly_mono _ _ _ _ (onKeep_frame _ _) (by decide))
    (changesOnly_mono _ _ _ _ (append_frame _ _ _ _ _) (by decide)))

/-! ### Ports with nothing to do -/

/-- No core waits for room at a port while every core's jobs there are those of a state where none waited, or none. -/
theorem blockedOn_eq_nil (s t : State) (core : Nat) (h : s.blockedOn core = []) (hdev : t.dev = s.dev) (hgroup : t.group = s.group)
    (hsync : ∀ n, (t.core n).sync = (s.core n).sync ∨ (t.core n).sync = []) : t.blockedOn core = [] := by
  simp only [State.blockedOn, State.activeCores, List.filter_eq_nil_iff] at h ⊢
  intro n hn
  have hn' : n ∈ (List.range 256).filter s.coreActive := by
    have hactive (c : Nat) : t.coreActive c = s.coreActive c := by
      rw [State.coreActive, State.coreActive, State.clusterActive, State.clusterActive, hdev]
    rwa [funext hactive] at hn
  rcases hsync n with hs | hs
  · rw [hs, hgroup]; exact h n hn'
  · simp [hs]

/-- A port without a job, and for which no other waits, does nothing. -/
theorem pump_eq_self (s : State) (core : Nat) (hsync : (s.core core).sync = []) (hblocked : s.blockedOn core = []) : s.pump core = s := by
  have hstep : s.syncStep core = none := by simp [State.syncStep, hsync]
  have once (fuel : Nat) : pumpSync (fuel + 2) [core] s = s := by simp only [pumpSync, hstep]
  rw [State.pump, hblocked]
  exact once 4094

/-! ### The start -/

/-- The blocks of its tab that a core's tab buffer holds at the start of a batch: all of a resident tab (05 R155). -/
def State.residentBlocks (s : State) (core : Nat) : List Nat :=
  (s.tab? core (s.core core).side).elim [] fun t => if t.resident then List.range t.blocks else []

/-- The state in which a core has entered its next batch: its sites reset, its registers at the start, its channels with room (R139, R141). -/
def State.enterBatch (core : Nat) (m : OrdinalMsg) (draining : Bool) (s : State) : State :=
  (((s.resetSites core m.ordinal).onCore core fun c =>
    c.enter m draining ((s.resetSites core m.ordinal).residentBlocks core)).countEvent (core / 8) 0x4C 1).admitTokens core

/-- What follows the start: the core's counters at the epoch that the batch reached, and the new side selected once every core has started (R468, 07
R201). -/
def State.afterStart (core b : Nat) (s : State) : State :=
  let s3 := if s.epochReached b && s.obs.epochCores.contains core then s.switchCore core else s
  let s4 := if s3.switchStarted then s3.capoSelect else s3
  s4.refreshSeq core

theorem exec_coreBatchStart (s : State) (core : Nat) (m : OrdinalMsg) (hcore : core < 256) (hstart : s.startable core = some m)
    (hsealed : s.coreSealed core m.ordinal = true) (hcopy : (s.site (core * 5 + 4)).state ≠ .copying)
    (hleave : ∀ k, k < 5 → (s.site (core * 5 + k)).leaving = false) :
    exec (.coreBatchStart core) s = .next (((s.enterBatch core m s.dev.draining).pump core).afterStart core m.ordinal) := by
  show execCoreBatchStart core s = _
  simp only [execCoreBatchStart, if_pos hcore, hstart, substitute_eq_self s core _ hcopy, dropLost_eq_self s core hleave, hsealed]
  -- the port's work stays closed: both sides name the same
  generalize State.pump core = pump
  rfl

/-- A core that enters a batch has the registers that `Core.enter` gives it; the other cores keep their jobs. -/
theorem enterBatch_cores (s : State) (core : Nat) (m : OrdinalMsg) (draining : Bool) (h : s.coresOk) :
    (s.enterBatch core m draining).coresOk ∧
    (∃ blocks, ((s.core core).enter m draining blocks).alike ((s.enterBatch core m draining).core core)) ∧
    (∀ n, n ≠ core → (s.core n).alike ((s.enterBatch core m draining).core n)) := by
  let s1 := s.resetSites core m.ordinal
  let blocks := s1.residentBlocks core
  let s2 := s1.onCore core fun c => c.enter m draining blocks
  have hsites : changesOnly [.sites] s s1 := resetSites_frame s core m.ordinal
  have h1 : s1.coresOk := coresOk_of_frame _ _ _ hsites (by decide) h
  have hread (n : Nat) : s2.core n = if core = n then (s.core core).enter m draining blocks else s.core n := by
    rw [core_onCore s1 core n _ h1, core_of_frame _ _ _ hsites (by decide), core_of_frame _ _ _ hsites (by decide)]
  have hafter : coresAlike s2 (s.enterBatch core m draining) := coresAlike_trans _ _ _
    (coresAlike_of_frame _ _ _ (countEvent_frame s2 (core / 8) 0x4C 1) (by decide)) (admitTokens_alike _ core)
  obtain ⟨hok, halike⟩ := hafter (coresOk_onCore s1 core _ h1)
  refine ⟨hok, ⟨blocks, ?_⟩, fun n hn => ?_⟩
  · have hself := halike core
    rwa [hread, if_pos rfl] at hself
  · have hother := halike n
    rwa [hread, if_neg (Ne.symm hn)] at hother

theorem enterBatch_frame (s : State) (core : Nat) (m : OrdinalMsg) (draining : Bool) :
    changesOnly [.cores, .obs, .sites] s (s.enterBatch core m draining) :=
  changesOnly_trans _ _ _ _ (changesOnly_trans _ _ _ _ (changesOnly_trans _ _ _ _
    (changesOnly_mono _ _ _ _ (resetSites_frame s core m.ordinal) (by decide)) (changesOnly_mono _ _ _ _ (onCore_frame _ _ _) (by decide)))
    (changesOnly_mono _ _ _ _ (countEvent_frame _ _ _ _) (by decide))) (changesOnly_mono _ _ _ _ (admitTokens_frame _ core) (by decide))

/-- A core that starts has no job in its port, so the port does nothing when no other core waits for it. -/
theorem pump_enterBatch (s : State) (core : Nat) (m : OrdinalMsg) (draining : Bool) (h : s.coresOk) (hblocked : s.blockedOn core = []) :
    (s.enterBatch core m draining).pump core = s.enterBatch core m draining := by
  obtain ⟨-, ⟨blocks, _, _, _, hself⟩, hothers⟩ := enterBatch_cores s core m draining h
  have hframe := enterBatch_frame s core m draining
  have hsync : ((s.enterBatch core m draining).core core).sync = [] := by rw [hself]; rfl
  refine pump_eq_self _ _ hsync (blockedOn_eq_nil s _ core hblocked (hframe .dev (by decide)) (hframe .group (by decide)) fun n => ?_)
  by_cases hn : n = core
  · exact .inr (by rw [hn, hsync])
  · obtain ⟨_, _, _, heq⟩ := hothers n hn
    exact .inl (by rw [heq])

theorem afterStart_frame (s : State) (core b : Nat) : changesOnly [.capo, .cores, .flash, .keep, .obs] s (s.afterStart core b) := by
  unfold State.afterStart
  extract_lets s3 s4
  have h3 : changesOnly [.obs] s s3 := changesOnly_ite _ _ _ _ _ (switchCore_frame s core) (changesOnly_refl _ s)
  have h4 : changesOnly [.capo, .flash, .keep] s3 s4 := changesOnly_ite _ _ _ _ _ (capoSelect_frame s3) (changesOnly_refl _ s3)
  exact changesOnly_trans _ _ _ _ (changesOnly_trans _ _ _ _ (changesOnly_mono _ _ _ _ h3 (by decide)) (changesOnly_mono _ _ _ _ h4 (by decide)))
    (changesOnly_mono _ _ _ _ (refreshSeq_frame s4 core) (by decide))

theorem afterStart_alike (s : State) (core b : Nat) : coresAlike s (s.afterStart core b) := by
  unfold State.afterStart
  extract_lets s3 s4
  have h3 : changesOnly [.obs] s s3 := changesOnly_ite _ _ _ _ _ (switchCore_frame s core) (changesOnly_refl _ s)
  have h4 : changesOnly [.capo, .flash, .keep] s3 s4 := changesOnly_ite _ _ _ _ _ (capoSelect_frame s3) (changesOnly_refl _ s3)
  exact coresAlike_trans _ _ _ (coresAlike_trans _ _ _ (coresAlike_of_frame _ _ _ h3 (by decide)) (coresAlike_of_frame _ _ _ h4 (by decide)))
    (refreshSeq_alike s4 core)

/-- A core that can start a batch holds its ordinal first, and reports the epoch that came with it (R22). -/
theorem startable_epochAt (s : State) (core : Nat) (m : OrdinalMsg) (h : s.startable core = some m) : (s.core core).epochAt m.ordinal = m.epoch := by
  unfold State.startable at h
  dsimp only at h
  split at h
  · exact absurd h nofun
  · split at h
    · next hcond =>
      obtain ⟨-, -, -, -, -, hepoch⟩ := hcond
      obtain rfl := Option.some.inj h
      exact hepoch
    · exact absurd h nofun

/-- The registers at the start of a batch (R139, R141): every predicate is true, every limit 65,535, every tile NONE. -/
theorem Core.enter_registers (c : Core) (m : OrdinalMsg) (draining : Bool) (blocks : List Nat) :
    (∀ k, (c.enter m draining blocks).pred k = true) ∧ (∀ k, (c.enter m draining blocks).limit k = 65535) ∧
    (∀ k, (c.enter m draining blocks).tile k = 65535) := by
  have const {α : Type} (d : α) (n k : Nat) : (List.replicate n d).getD k d = d := by
    rw [List.getD_eq_getElem?_getD, List.getElem?_replicate]
    split <;> rfl
  refine ⟨fun k => ?_, fun k => ?_, const 65535 4⟩
  · show (if k = 0 then true else (List.replicate 8 true).getD k true) = true
    rw [const, ite_self]
  · show (if k = 0 then 65535 else (List.replicate 8 65535).getD k 65535) = 65535
    rw [const, ite_self]

/-- A started core walks the first of its ordinals from step 0, with nothing in flight and its registers at the start. -/
theorem coreBatchStart_starts (s : State) (core : Nat) (m : OrdinalMsg) (draining : Bool) (h : s.coresOk) (hstart : s.startable core = some m) :
    let t := (s.enterBatch core m draining).afterStart core m.ordinal
    (t.core core).cur = some m.ordinal ∧ (t.core core).next = 0 ∧ (t.core core).flight = [] ∧ (t.core core).ordinals = (s.core core).ordinals.tail ∧
      (∀ k, (t.core core).pred k = true) ∧ (∀ k, (t.core core).limit k = 65535) ∧ (∀ k, (t.core core).tile k = 65535) ∧
      (t.core core).epoch = m.epoch := by
  intro t
  obtain ⟨hok, ⟨blocks, henter⟩, -⟩ := enterBatch_cores s core m draining h
  obtain ⟨_, _, _, heq⟩ := Core.alike_trans _ _ _ henter ((afterStart_alike _ core m.ordinal hok).2 core)
  obtain ⟨hpred, hlimit, htile⟩ := (s.core core).enter_registers m draining blocks
  rw [show t.core core = _ from heq]
  exact ⟨rfl, rfl, rfl, rfl, hpred, hlimit, htile, startable_epochAt s core m hstart⟩

/-- Settles O26: the banks that an accepted ordinal opens by induction on the work counters, and the start of a batch through the registers of
`Core.enter`, which everything after it leaves but for the sequencer state and the tokens on their way. -/
theorem ordinalsReachCores : Obligations.OrdinalsReachCores := by
  refine ⟨?accept, ?receive, ?start⟩
  case accept =>
    intro s cl b hcl htables hfrozen hactive hopen habove hskips hended
    exact ⟨_, exec_clusterOrdinalAccept s cl b ⟨hcl, hfrozen, hactive, hopen, habove, hskips, hended⟩,
      acceptOrdinal_opens s cl b (banksOk_of_tablesOk s cl htables)⟩
  case receive =>
    intro s core b boot epoch x hcore htables hfrozen hopen hactive haccepted hepoch hboot hheld hcur hdone hskips
    have hok := coresOk_of_tablesOk s htables
    refine ⟨_, exec_ordinalReceived s core b boot epoch x
      ⟨hcore, hfrozen, hopen, hactive, haccepted, hepoch, hboot, hheld, hcur, hdone, hskips⟩, ?_, fun m hm => ?_, onCore_frame s core _⟩
    · rw [core_onCore s _ _ _ hok, if_pos rfl]
    · rw [core_onCore s _ _ _ hok, if_neg (Ne.symm hm)]
  case start =>
    intro s core m hcore htables hstart hsealed hblocked hcopy hleave
    have hok := coresOk_of_tablesOk s htables
    have hexec := exec_coreBatchStart s core m hcore hstart hsealed hcopy hleave
    rw [pump_enterBatch s core m s.dev.draining hok hblocked] at hexec
    obtain ⟨hcur, hnext, hflight, hords, hpred, hlimit, htile, hepoch⟩ := coreBatchStart_starts s core m s.dev.draining hok hstart
    exact ⟨_, hexec, hcur, hnext, hflight, hords, hpred, hlimit, htile, hepoch,
      changesOnly_trans _ _ _ _ (changesOnly_mono _ _ _ _ (enterBatch_frame s core m s.dev.draining) (by decide))
        (changesOnly_mono _ _ _ _ (afterStart_frame _ core m.ordinal) (by decide))⟩

end Sys2Proof.Machine
end

section
/-!
PROOFS. How a batch opens on a device outside a group (01_engine_to_package.md Table 01-7; 11_cameras_results_scene.md R318, R321): the records of
the batch and of its runs are made once, and nothing that follows at the opening takes them back.
-/

namespace Sys2Proof.Machine

/-! ### Before the opening -/

/-- A step before an opening leaves memory, planes and the images in flash. -/
structure KeepsImages (s t : State) : Prop where
  mem : t.mem = s.mem
  planes : t.planes = s.planes
  images : t.flash.images = s.flash.images

theorem KeepsImages.refl (s : State) : KeepsImages s s := ⟨rfl, rfl, rfl⟩

theorem KeepsImages.trans {s t u : State} (h : KeepsImages s t) (k : KeepsImages t u) : KeepsImages s u :=
  ⟨k.mem.trans h.mem, k.planes.trans h.planes, k.images.trans h.images⟩

theorem KeepsImages.of_frame {l : List Part} {s t : State} (h : changesOnly l s t) (hl : ∀ p ∈ [Part.mem, .planes, .flash], p ∉ l) :
    KeepsImages s t :=
  ⟨h .mem (hl _ (by decide)), h .planes (hl _ (by decide)), congrArg Flash.images (h .flash (hl _ (by decide)))⟩

theorem KeepsImages.ite {s a b : State} {c : Prop} [Decidable c] (h : KeepsImages s a) (k : KeepsImages s b) :
    KeepsImages s (if c then a else b) := by
  split
  · exact h
  · exact k

theorem keepArmed_keepsImages (s : State) (digest : Bytes) : KeepsImages s (s.keepArmed digest) := by
  unfold State.keepArmed
  exact .ite (.refl s) ⟨rfl, rfl, rfl⟩

theorem capoRest_frame (s : State) : changesOnly [.cores] s s.capoRest := changesOnly_foldl _ _ (fun t _ => onCore_frame t _ _) _ s

theorem capoWithdrawn_keepsImages (s : State) (outcome : Nat) (to_ : CapoState) : KeepsImages s (s.capoWithdrawn outcome to_) :=
  ((KeepsImages.of_frame (capoRest_frame s) (by decide)).trans (keepArmed_keepsImages _ _)).trans (.of_frame (onCapo_frame _ _) (by decide))

theorem capoDecide_keepsImages (s : State) (b decision : Nat) : KeepsImages s (s.capoDecide b decision) := by
  unfold State.capoDecide
  extract_lets ok
  exact .ite (.ite ((KeepsImages.of_frame (onCapo_frame s _) (by decide)).trans (.of_frame (lifeCount_frame _ _) (by decide)))
    (capoWithdrawn_keepsImages s _ _)) (.refl s)

theorem onChange_frame (s : State) (k : Kind) (f : Change → Change) : changesOnly [.walk] s (s.onChange k f) := by
  cases k <;> exact onWalk_frame s _

theorem changeDecide_frame (s : State) (k : Kind) (b decision : Nat) : changesOnly [.walk] s (s.changeDecide k b decision) :=
  changesOnly_ite _ _ _ _ _ (onChange_frame s k _) (changesOnly_refl _ s)

theorem joinDecide_frame (s : State) (b decision : Nat) : changesOnly [.group] s (s.joinDecide b decision) :=
  changesOnly_ite _ _ _ _ _ (changesOnly_refl _ s) (onGroup_frame s _)

/-- The decisions at an opening leave memory, planes and images (07 R199, 10 R281, 11 R324, 12 R376). -/
theorem decideAll_keepsImages (s : State) (b decision : Nat) : KeepsImages s (s.decideAll b decision) :=
  (((capoDecide_keepsImages s b decision).trans (.of_frame (changeDecide_frame _ _ _ _) (by decide))).trans
    (.of_frame (changeDecide_frame _ _ _ _) (by decide))).trans (.of_frame (joinDecide_frame _ _ _) (by decide))

/-- The parts that admitting members may change. -/
def admitParts : List Part := [.dev, .group] ++ recordParts

theorem takeOver_frame (s : State) : changesOnly admitParts s s.takeOver := by
  unfold State.takeOver
  exact changesOnly_ite _ _ _ _ _ (changesOnly_refl _ s) (changesOnly_trans _ _ _ _ (changesOnly_mono _ _ _ _ (onDev_frame s _) (by decide))
    (changesOnly_foldl _ _ (fun t _ => changesOnly_mono _ _ _ _ (groupMsg_frame t _ _ _ _) (by decide)) _ _))

theorem electLeader_frame (s : State) : changesOnly admitParts s s.electLeader := by
  unfold State.electLeader
  extract_lets l s1
  have h1 : changesOnly admitParts s s1 := changesOnly_trans _ _ _ _ (changesOnly_mono _ _ _ _ (onGroup_frame s _) (by decide))
    (changesOnly_mono _ _ _ _ (record_frame _ _) (by decide))
  exact changesOnly_ite _ _ _ _ _ (changesOnly_refl _ s) (changesOnly_ite _ _ _ _ _ (changesOnly_trans _ _ _ _ h1 (takeOver_frame s1)) h1)

theorem admitMembers_frame (s : State) (b : Nat) : changesOnly admitParts s (s.admitMembers b) := by
  unfold State.admitMembers
  extract_lets l s1
  refine changesOnly_ite _ _ _ _ _ (changesOnly_refl _ s) ?_
  exact changesOnly_trans _ _ _ _ (changesOnly_trans _ _ _ _ (changesOnly_mono _ _ _ _ (onGroup_frame s _) (by decide))
    (changesOnly_foldl _ _ (fun t _ => changesOnly_mono _ _ _ _ (record_frame t _) (by decide)) l s1)) (electLeader_frame _)

/-! ### What the records of an opening are -/

/-- What names a batch in its record, and what its opening gave it. -/
def Batch.key (x : Batch) : Nat × Nat × List Int := (x.ordinal, x.epoch, x.temps)

/-- What names a run in its record. -/
def RunRec.key (x : RunRec) : Nat × Nat := (x.ordinal, x.run)

/-- A run of a batch has a record when one is listed under its name. -/
theorem run?_isSome_iff (s : State) (b r : Nat) : (s.run? b r).isSome = true ↔ (b, r) ∈ s.walk.runs.map RunRec.key := by
  simp [State.run?, List.find?_isSome, RunRec.key]

/-- The parts that the opening of a batch may change: the capo, memory, planes and flash are not among them. -/
def openParts : List Part := [.dev, .sites, .cores, .clusters, .walk, .scene, .pub, .group, .power] ++ recordParts

/-- Of these, the parts that hold no record of the opening. -/
def quietParts : List Part := [.sites, .cores, .clusters, .scene, .pub, .group, .power] ++ recordParts

/-- A step after the opening leaves its records: the latest ordinal, the mode epoch, and the names of batches and runs. -/
structure KeepsOpening (s t : State) : Prop where
  frame : changesOnly openParts s t
  bOpen : t.dev.bOpen = s.dev.bOpen
  epoch : t.dev.modeEpoch = s.dev.modeEpoch
  batches : t.walk.batches.map Batch.key = s.walk.batches.map Batch.key
  runs : t.walk.runs.map RunRec.key = s.walk.runs.map RunRec.key

namespace KeepsOpening

theorem refl (s : State) : KeepsOpening s s := ⟨changesOnly_refl _ s, rfl, rfl, rfl, rfl⟩

theorem trans {s t u : State} (h : KeepsOpening s t) (k : KeepsOpening t u) : KeepsOpening s u :=
  ⟨changesOnly_trans _ _ _ _ h.frame k.frame, k.bOpen.trans h.bOpen, k.epoch.trans h.epoch, k.batches.trans h.batches, k.runs.trans h.runs⟩

theorem ite {s a b : State} {c : Prop} [Decidable c] (h : KeepsOpening s a) (k : KeepsOpening s b) : KeepsOpening s (if c then a else b) := by
  split
  · exact h
  · exact k

theorem foldl {α : Type} (f : State → α → State) (h : ∀ s x, KeepsOpening s (f s x)) (l : List α) (s : State) : KeepsOpening s (l.foldl f s) :=
  foldl_rel KeepsOpening refl (fun _ _ _ => trans) f h l s

theorem of_frame {l : List Part} {s t : State} (h : changesOnly l s t) (hl : ∀ p, p ∈ l → p ∈ quietParts) : KeepsOpening s t := by
  have hq : changesOnly quietParts s t := changesOnly_mono _ _ _ _ h hl
  have hdev : t.dev = s.dev := hq .dev (by decide)
  have hwalk : t.walk = s.walk := hq .walk (by decide)
  exact ⟨changesOnly_mono _ _ _ _ hq (by decide), by rw [hdev], by rw [hdev], by rw [hwalk], by rw [hwalk]⟩

/-- An update of the walk that keeps the names of batches and runs. -/
theorem onWalk (s : State) (f : Walk → Walk) (hb : (f s.walk).batches.map Batch.key = s.walk.batches.map Batch.key)
    (hr : (f s.walk).runs.map RunRec.key = s.walk.runs.map RunRec.key) : KeepsOpening s (s.onWalk f) :=
  ⟨changesOnly_mono _ _ _ _ (onWalk_frame s f) (by decide), rfl, rfl, hb, hr⟩

/-- Rewriting some entries of a list under their names keeps the list of names. -/
theorem map_key_map_ite {α β : Type} (key : α → β) (p : α → Prop) [DecidablePred p] (f : α → α) (h : ∀ x, key (f x) = key x) (l : List α) :
    (l.map fun x => if p x then f x else x).map key = l.map key := by
  rw [List.map_map]
  refine List.map_congr_left fun x _ => ?_
  rw [Function.comp_apply]
  split
  · exact h x
  · rfl

theorem onRun (s : State) (b r : Nat) (f : RunRec → RunRec) (h : ∀ x, (f x).key = x.key := by intro _; rfl) : KeepsOpening s (s.onRun b r f) :=
  onWalk s _ rfl (map_key_map_ite RunRec.key _ f h _)

theorem onBatch (s : State) (b : Nat) (f : Batch → Batch) (h : ∀ x, (f x).key = x.key := by intro _; rfl) : KeepsOpening s (s.onBatch b f) :=
  onWalk s _ (map_key_map_ite Batch.key _ f h _) rfl

/-- A record is about what happened: it changes no batch and no run. -/
theorem record (s : State) (r : Rec) : KeepsOpening s (s.record r) := of_frame (record_frame s r) (by decide)

/-- A run that dies keeps its record. -/
theorem killRun (s : State) (b r cause : Nat) : KeepsOpening s (s.killRun b r cause) := by
  unfold State.killRun
  split
  · exact refl s
  · refine ite (refl s) (ite (onRun s b r _) ?_)
    exact (((onRun s b r _).trans (of_frame (closeBanks_frame _ _ _) (by decide))).trans
      (of_frame (voidStats_frame _ _ _) (by decide))).trans (foldl _ (fun t _ => of_frame (groupMsg_frame t _ _ _ _) (by decide)) _ _)

theorem killCoreRunsBy (s : State) (cause core b : Nat) : KeepsOpening s (s.killCoreRunsBy cause core b) := by
  unfold State.killCoreRunsBy
  split
  · exact foldl _ (fun t r => killRun t b r cause) _ s
  · exact refl s

/-- The runs that a condition names die, one after the other. -/
theorem killRuns (b cause : Nat) (p : State → Nat → Bool) (l : List Nat) (s : State) :
    KeepsOpening s (l.foldl (fun t r => if p t r then t.killRun b r cause else t) s) :=
  foldl _ (fun t r => ite (killRun t b r cause) (refl t)) l s

/-- A trace record takes free values and goes to its ring and the region (16 R470, R472). -/
theorem trace (s : State) (ring cal : Nat) (waited : Bool) (r : TraceRec) : KeepsOpening s (s.trace ring cal waited r) := by
  have free (t : State) : KeepsOpening t t.useFree := ⟨changesOnly_mono _ _ _ _ (useFree_frame t) (by decide), rfl, rfl, rfl, rfl⟩
  have counted (t : State) (f : Obs → Obs) (cl code n : Nat) : KeepsOpening t ((t.onObs f).countEvent cl code n) :=
    (of_frame (onObs_frame t f) (by decide)).trans (of_frame (countEvent_frame _ _ _ _) (by decide))
  have region (t : State) (cl kind : Nat) (bytes : Bytes) : KeepsOpening t (t.traceRegion cl kind bytes) :=
    ite (ite (counted t _ _ _ _) (counted t _ _ _ _)) (refl t)
  exact (((free s).trans (free _)).trans (of_frame (onObs_frame _ _) (by decide))).trans (region _ _ _ _)

theorem serviceTokens (s : State) (k b : Nat) (isEmpty : Bool) : KeepsOpening s (s.serviceTokens k b isEmpty) :=
  foldl _ (fun t _ => foldl _ (fun u _ => (of_frame (onCore_frame u _ _) (by decide)).trans (trace _ _ _ _ _)) _ t) _ s

theorem egoDecide (s : State) (b : Nat) (apply : Bool) : KeepsOpening s (s.egoDecide b apply) := by
  unfold State.egoDecide
  extract_lets held last s1 s2 s3
  have h1 : KeepsOpening s s1 := onBatch s b _
  have h2 : KeepsOpening s s2 := h1.trans (of_frame (onScene_frame s1 _) (by decide))
  have h3 : KeepsOpening s2 s3 := ite (record s2 _) (ite (record s2 _) (refl s2))
  exact (h2.trans h3).trans (serviceTokens s3 _ _ _)

theorem egoAtOpen (s : State) (b : Nat) : KeepsOpening s (s.egoAtOpen b) := by
  unfold State.egoAtOpen
  split
  · exact refl s
  · extract_lets holds
    refine ite ?_ (ite (egoDecide s b true) (refl s))
    split
    · exact ite (egoDecide s b true) (refl s)
    · exact egoDecide s b false
    · exact (egoDecide s b false).trans (killRuns b 8 (fun t r => t.hasScene b r) _ _)

theorem epochAtOpen (s : State) (b : Nat) : KeepsOpening s (s.epochAtOpen b) := by
  unfold State.epochAtOpen
  refine ite ?_ (refl s)
  extract_lets s1
  have h1 : KeepsOpening s s1 := ite (of_frame (onObs_frame s _) (by decide)) (refl s)
  exact h1.trans (foldl _ (fun t c => of_frame (switchCore_frame t c) (by decide)) _ s1)

theorem useImports (s : State) (b : Nat) : KeepsOpening s (s.useImports b) := by
  refine foldl _ (fun t i => ite ?_ ?_) _ s
  · exact (onWalk t _ rfl rfl).trans (onBatch _ b _)
  · exact (killRuns b 1 (fun u r => (u.runImports (s.devSide b) r).contains i) _ t).trans (record _ _)

/-- Runs that cannot be served die, and a core whose tab is fetched again does not walk the batch (log 74). -/
theorem openDeaths (s : State) (b : Nat) : KeepsOpening s (s.openDeaths b) := by
  unfold State.openDeaths
  extract_lets s1
  have h1 : KeepsOpening s s1 := by
    refine foldl _ (fun t c => ?_) _ s
    extract_lets t1
    have ht : KeepsOpening t t1 := ite (killCoreRunsBy t 4 c b) (refl t)
    exact ite (((ht.trans (killCoreRunsBy t1 6 c b)).trans (onBatch _ b _)).trans (of_frame (onCore_frame _ c _) (by decide))) ht
  exact h1.trans (foldl _ (fun t (d : Nat × Nat) => ite (refl t) (killRun t b d.1 7)) _ s1)

theorem tellReady (s : State) : KeepsOpening s s.tellReady := by
  unfold State.tellReady
  split
  · exact ite (of_frame (groupMsg_frame s _ _ _ _) (by decide)) (refl s)
  · exact refl s

end KeepsOpening

/-! ### The opening -/

/-- A batch with this ordinal, mode epoch and readings opens: it is the latest, its record is first, and each run of its side has a record. -/
structure Opens (b epoch : Nat) (temps : List Int) (s t : State) : Prop where
  frame : changesOnly openParts s t
  bOpen : t.dev.bOpen = some b
  modeEpoch : t.dev.modeEpoch = epoch
  batches : (t.walk.batches.map Batch.key).head? = some (b, epoch, temps)
  runs : ∀ r, r ∈ s.runsOf (s.devSide b) → (b, r) ∈ t.walk.runs.map RunRec.key

theorem Opens.keeps {b epoch : Nat} {temps : List Int} {s t u : State} (h : Opens b epoch temps s t) (k : KeepsOpening t u) :
    Opens b epoch temps s u :=
  ⟨changesOnly_trans _ _ _ _ h.frame k.frame, k.bOpen.trans h.bOpen, k.epoch.trans h.modeEpoch, by rw [k.batches]; exact h.batches,
    fun r hr => by rw [k.runs]; exact h.runs r hr⟩

/-- The runs of a batch's side stay at an opening: it changes neither the capo nor the tabs. -/
theorem batchRuns_of_frame (s t : State) (b : Nat) (h : changesOnly openParts s t) : t.runsOf (t.devSide b) = s.runsOf (s.devSide b) := by
  have hmem : t.mem = s.mem := h .mem (by decide)
  have hcapo : t.capo = s.capo := h .capo (by decide)
  have hside : t.devSide b = s.devSide b := by rw [State.devSide, State.devSide, hcapo]
  have htabs : t.tabsOf (s.devSide b) = s.tabsOf (s.devSide b) := by rw [State.tabsOf, State.tabsOf, hmem]
  rw [State.runsOf, State.runsOf, hside, htabs]

/-- K-ARR with the right answer changes the array's check and its counts. -/
theorem droneRan_true_frame (s : State) (cl b : Nat) : changesOnly openParts s (s.droneRan cl b true) := by
  unfold State.droneRan
  extract_lets s1
  have h1 : changesOnly openParts s s1 := changesOnly_trans _ _ _ _ (changesOnly_trans _ _ _ _ (changesOnly_trans _ _ _ _
    (changesOnly_mono _ _ _ _ (onCluster_frame s cl _) (by decide)) (changesOnly_mono _ _ _ _ (onCluster_frame _ cl _) (by decide)))
    (changesOnly_mono _ _ _ _ (countEvent_frame _ _ _ _) (by decide))) (changesOnly_mono _ _ _ _ (countEvent_frame _ _ _ _) (by decide))
  rw [if_pos rfl]
  exact changesOnly_trans _ _ _ _ h1 (changesOnly_mono _ _ _ _ (passCheck_frame s1 _ b) (by decide))

theorem coverArrays_frame (s : State) (b : Nat) : changesOnly openParts s (s.coverArrays b) :=
  changesOnly_foldl _ _ (fun t cl => changesOnly_ite _ _ _ _ _ (droneRan_true_frame t cl (b - 1)) (changesOnly_refl _ t)) _ s

theorem openingSamples_frame (s : State) (temps : List Int) : changesOnly openParts s (s.openingSamples temps) := by
  unfold State.openingSamples
  extract_lets hot tbin v vbin sums rate s1 s2
  have sample (t : State) (n bin : Nat) : changesOnly openParts t (t.histogram n bin) := changesOnly_mono _ _ _ _ (histogram_frame t n bin) (by decide)
  have h1 : changesOnly openParts s s1 := changesOnly_trans _ _ _ _ (sample s _ _) (sample _ _ _)
  have h2 : changesOnly openParts s1 s2 := changesOnly_ite _ _ _ _ _
    (changesOnly_trans _ _ _ _ (changesOnly_trans _ _ _ _ (sample s1 _ _) (sample _ _ _)) (sample _ _ _)) (changesOnly_refl _ s1)
  exact changesOnly_trans _ _ _ _ (changesOnly_trans _ _ _ _ h1 h2) (changesOnly_mono _ _ _ _ (onObs_frame s2 _) (by decide))

theorem changeEffect_frame (s : State) (b : Nat) : changesOnly openParts s (s.changeEffect b) := by
  unfold State.changeEffect
  extract_lets p s1 i
  have effect (t : State) (f : Walk → Walk) : changesOnly openParts t (t.onWalk f) := changesOnly_mono _ _ _ _ (onWalk_frame t f) (by decide)
  have h1 : changesOnly openParts s s1 := changesOnly_ite _ _ _ _ _ (effect s _) (changesOnly_refl _ s)
  exact changesOnly_trans _ _ _ _ h1 (changesOnly_ite _ _ _ _ _ (effect s1 _) (changesOnly_refl _ s1))

/-- The opening makes the records of the batch and of the runs that the device takes part in, and what follows keeps them. -/
theorem openBatch_opens (s : State) (b epoch : Nat) (temps : List Int) : Opens b epoch temps s (s.openBatch b epoch temps) := by
  unfold State.openBatch
  extract_lets s0 set other cfg absent fresh s1 batch runs s2 s3 s3' s4 s5 s6 s7 s8 tr s9
  have before : changesOnly openParts s s1 := changesOnly_trans _ _ _ _ (changesOnly_trans _ _ _ _ (coverArrays_frame s b)
    (openingSamples_frame s0 temps)) (changeEffect_frame _ b)
  have made : changesOnly openParts s1 s3 := changesOnly_trans _ _ _ _ (changesOnly_trans _ _ _ _
    (changesOnly_mono _ _ _ _ (onWalk_frame s1 _) (by decide)) (changesOnly_mono _ _ _ _ (onDev_frame s2 _) (by decide)))
    (changesOnly_mono _ _ _ _ (onPub_frame _ _) (by decide))
  have listed (r : Nat) (hr : r ∈ s.runsOf (s.devSide b)) : (b, r) ∈ s3.walk.runs.map RunRec.key := by
    rw [← batchRuns_of_frame s s1 b before] at hr
    have hrange : r ∈ List.range 16 := (List.mem_filter.1 hr).1
    have htakes : s1.takesPart b r = true := by simp [State.takesPart, hr]
    have hrun : newRun b r ∈ runs := List.mem_map_of_mem (List.mem_filter.2 ⟨hrange, htakes⟩)
    exact List.mem_map_of_mem (f := RunRec.key) (List.mem_append_right _ hrun)
  have h3 : Opens b epoch temps s s3 := ⟨changesOnly_trans _ _ _ _ before made, rfl, rfl, rfl, listed⟩
  have k3 : KeepsOpening s3 s3' := .ite (.refl s3) (.foldl _ (fun t c => .of_frame (onCore_frame t c _) (by decide)) _ s3)
  have k4 : KeepsOpening s3' s4 := (KeepsOpening.of_frame (onPower_frame s3' _) (by decide)).trans (.of_frame (onGroup_frame _ _) (by decide))
  have k5 : KeepsOpening s4 s5 := .foldl _ (fun t n => .of_frame (onSite_frame t n _) (by decide)) _ s4
  have k6 : KeepsOpening s5 s6 := by
    refine .foldl _ (fun t k => ?_) _ s5
    extract_lets t1
    have ht : KeepsOpening t t1 := .ite (.record t _) (.refl t)
    exact ht.trans (.killRuns b 1 (fun u r => (u.runStreams (u.devSide b) r).contains k) _ t1)
  have k7 : KeepsOpening s6 s7 := ((KeepsOpening.useImports s6 b).trans (.openDeaths _ b)).trans (.serviceTokens _ 0 b false)
  have k8 : KeepsOpening s7 s8 := .ite (.refl s7) (.serviceTokens s7 3 b false)
  have k9 : KeepsOpening s8 s9 := .of_frame (onObs_frame s8 _) (by decide)
  exact (((((((h3.keeps k3).keeps k4).keeps k5).keeps k6).keeps k7).keeps k8).keeps k9).keeps ((KeepsOpening.egoAtOpen s9 b).trans (.epochAtOpen _ b))

/-! ### BATCH_OPEN -/

/-- A device outside a group that may open opens the batch after the latest one, after decisions that leave memory, planes and images. -/
theorem exec_batchOpen (s : State) (temps : List Int) (drainWins : Bool) (hgroup : s.inGroup = false) (hmay : s.mayOpen drainWins = true)
    (hlive : s.walk.replay = false) :
    ∃ u epoch, KeepsImages s u ∧ exec (.batchOpen temps drainWins) s = .next ((u.openBatch s.nextOrd epoch temps).tellReady) := by
  have hdue : s.ordinalDue = s.nextOrd := by simp [State.ordinalDue, hlive]
  let d := s.openDecision s.nextOrd
  let s1 := s.decideAll s.nextOrd d
  let epoch := if s1.epochStep s.nextOrd then s1.dev.modeEpoch + 1 else s1.dev.modeEpoch
  let s2 := (s1.admitMembers s.nextOrd).groupMsg 0x21 255 [s.nextOrd, epoch, d] []
  refine ⟨s2, epoch, ?_, ?_⟩
  · exact ((decideAll_keepsImages s s.nextOrd d).trans (.of_frame (admitMembers_frame s1 _) (by decide))).trans
      (.of_frame (groupMsg_frame _ _ _ _ _) (by decide))
  · show execBatchOpen temps drainWins s = _
    simp [execBatchOpen, State.notLeader, hgroup, hmay, hdue, s2, epoch, s1, d]

theorem exec_batchOpen_of_not_mayOpen (s : State) (temps : List Int) (drainWins : Bool) (h : s.mayOpen drainWins = false) :
    exec (.batchOpen temps drainWins) s = .next s := by
  show execBatchOpen temps drainWins s = _
  simp [execBatchOpen, h]

theorem exec_batchOpen_of_notLeader (s : State) (temps : List Int) (drainWins : Bool) (h : s.notLeader = true) :
    exec (.batchOpen temps drainWins) s = .next s := by
  show execBatchOpen temps drainWins s = _
  simp [execBatchOpen, h]

/-- Settles O30: the opening makes the records of its batch and runs, and every later part of it keeps their names. -/
theorem batchesOpenInOrder : Obligations.BatchesOpenInOrder := by
  refine ⟨?opens, exec_batchOpen_of_not_mayOpen, exec_batchOpen_of_notLeader⟩
  case opens =>
    intro s temps drainWins hgroup hmay hlive
    obtain ⟨u, epoch, himages, hexec⟩ := exec_batchOpen s temps drainWins hgroup hmay hlive
    have hopen : Opens s.nextOrd epoch temps u _ := (openBatch_opens u s.nextOrd epoch temps).keeps (.tellReady _)
    have hafter : KeepsImages s (u.openBatch s.nextOrd epoch temps).tellReady :=
      ⟨(hopen.frame .mem (by decide)).trans himages.mem, (hopen.frame .planes (by decide)).trans himages.planes,
        (congrArg Flash.images (hopen.frame .flash (by decide))).trans himages.images⟩
    have hhead := hopen.batches
    rw [List.head?_map, Option.map_eq_some_iff] at hhead
    obtain ⟨x, hx, hkey⟩ := hhead
    obtain ⟨l, hl⟩ := List.head?_eq_some_iff.1 hx
    obtain ⟨hordinal, hepoch, htemps⟩ : x.ordinal = s.nextOrd ∧ x.epoch = epoch ∧ x.temps = temps := by
      simpa [Batch.key] using hkey
    refine ⟨_, x, l, hexec, hopen.bOpen, hl, hordinal, htemps, hepoch.trans hopen.modeEpoch.symm, fun r hr => ?_, hafter.mem, hafter.planes,
      hafter.images⟩
    rw [batchRuns_of_frame u _ s.nextOrd hopen.frame] at hr
    exact (run?_isSome_iff _ _ _).2 (hopen.runs r hr)

end Sys2Proof.Machine
end

section
/-!
SUPPORT. Bytes of an area: a load reads one memory from one address, a store writes the bytes of its area and no other byte, and poison tags,
counters and completions write none (05_tablature.md R509; 10_fault_containment.md R273, R275).
-/

namespace Sys2Proof.Machine

/-! ### Loads -/

/-- The memory that holds an area: areas of one kind share one. -/
def Area.kind : Area → Nat
  | .sram _ => 0 | .sb _ => 1 | .dram => 2 | .bdsram => 3 | .slow _ => 4 | .frame _ _ => 5 | .scene => 6 | .imports _ _ => 7 | .remote _ => 8

/-- Where an area begins in its memory. -/
def Area.base : Area → Nat
  | .sram c => c * 2 ^ 20
  | .sb c => c * 2 ^ 23
  | .slow d => d * 2 ^ 35
  | .frame t b => (t * 3 + b) * 2 ^ 24
  | .imports t b => (t * 3 + b) * 2 ^ 23
  | .dram | .bdsram | .scene | .remote _ => 0

/-- The areas that an operand of a step can name on this device (R509). -/
def Area.isOperand : Area → Bool
  | .scene | .imports _ _ | .remote _ => false
  | _ => true

/-- The memory from which a load of an area's line reads. -/
def State.bytesOf (s : State) (a : Area) (line : Nat) : Mem :=
  match a with
  | .sram _ => s.mem.sram
  | .sb _ => s.mem.sb
  | .dram => s.mem.dram
  | .bdsram => s.mem.bdsram
  | .slow d => s.slowCopy d line
  | .frame _ _ => s.mem.frames
  | .imports _ _ => s.mem.imports
  | .scene | .remote _ => []

theorem load_eq_mread (s : State) (a : Area) (x n : Nat) :
    s.load a x n = mread (fun _ => 0#8) (s.bytesOf a (x / 64)) (a.base + x) n := by
  cases a <;> simp [State.load, State.bytesOf, Area.base, mread, tget, zeros, List.map_const']

@[simp] theorem load_length (s : State) (a : Area) (x n : Nat) : (s.load a x n).length = n := by
  simp [load_eq_mread, mread]

/-- Loads read the memories and, for the copy of a slower-tier line, the images of the two sides. -/
theorem load_congr (s t : State) (hmem : t.mem = s.mem) (hcapo : t.capo = s.capo) (a : Area) (x n : Nat) : t.load a x n = s.load a x n := by
  cases a <;> simp [State.load, State.slowCopy, State.segmentOf, State.sideImage, hmem, hcapo]

theorem load_of_frame (l : List Part) (s t : State) (h : changesOnly l s t) (hmem : Part.mem ∉ l) (hcapo : Part.capo ∉ l) (a : Area)
    (x n : Nat) : t.load a x n = s.load a x n := load_congr s t (h .mem hmem) (h .capo hcapo) a x n

theorem load_setPoison (s : State) (b : Area) (line : Nat) (p : Bool) (a : Area) (x n : Nat) :
    (s.setPoison b line p).load a x n = s.load a x n := by cases a <;> rfl

/-! ### Stores -/

theorem bytesOf_store (s : State) (a b : Area) (x line : Nat) (d : Bytes) (ha : a.isOperand = true) :
    (s.store a x d).bytesOf b line =
      if a.kind = b.kind then mwrite (fun _ => 0#8) (a.base + x) d (s.bytesOf b line) else s.bytesOf b line := by
  have hslow (e : Nat) : (s.store (.slow e) x d).bytesOf b line =
      if Area.kind (.slow e) = b.kind then mwrite (fun _ => 0#8) (e * 2 ^ 35 + x) d (s.bytesOf b line) else s.bytesOf b line := by
    cases b
    case slow f =>
      show (s.store (.slow e) x d).slowCopy f line = mwrite _ _ d (s.slowCopy f line)
      unfold State.slowCopy
      rw [show (s.store (.slow e) x d).segmentOf f line = s.segmentOf f line from rfl]
      split
      · exact (apply_ite (mwrite _ _ d) _ _ _).symm
      · rfl
    all_goals rfl
  cases a
  case slow e => exact hslow e
  case scene | imports | remote => exact absurd ha nofun
  case dram | bdsram => rw [Area.base, Nat.zero_add]; cases b <;> rfl
  all_goals cases b <;> rfl

theorem wf_bytesOf (s : State) (a : Area) (line : Nat) (h : s.memOk = true) : Memory.wf (fun _ => 0#8) (s.bytesOf a line) = true := by
  simp only [State.memOk, Bool.and_eq_true] at h
  obtain ⟨⟨⟨⟨⟨⟨⟨⟨⟨⟨⟨hsram, hsb⟩, hbd⟩, hdram⟩, hslow⟩, halt⟩, hframes⟩, himports⟩, -⟩, -⟩, -⟩, -⟩ := h
  cases a
  case slow d =>
    show Memory.wf _ (s.slowCopy d line) = true
    unfold State.slowCopy
    split
    · split
      · exact halt
      · exact hslow
    · exact hslow
  case scene | remote => rfl
  all_goals assumption

theorem holds_mono (a : Area) (x y : Nat) (h : a.holds y = true) (hxy : x ≤ y) : a.holds x = true := by
  cases a <;> simp_all [Area.holds] <;> omega

/-- An address inside its area is no address of another area of the same memory. -/
theorem area_eq_of_base_add_eq (a b : Area) (x y : Nat) (hop : a.isOperand = true) (hkind : a.kind = b.kind) (hx : a.holds x = true)
    (hy : b.holds y = true) (heq : a.base + x = b.base + y) : a = b ∧ x = y := by
  cases a <;> cases b <;> simp_all [Area.kind, Area.isOperand, Area.holds, Area.base] <;> omega

theorem mread_congr (d : Nat → Byte) (m m' : Mem) (x n : Nat) (h : ∀ i, i < n → tget d m (x + i) = tget d m' (x + i)) :
    mread d m x n = mread d m' x n := List.map_congr_left fun i hi => h i (List.mem_range.1 hi)

/-- Bytes that are stored are loaded again. -/
theorem load_store_same (s : State) (a : Area) (x : Nat) (d : Bytes) (hok : s.memOk = true) (hop : a.isOperand = true) :
    (s.store a x d).load a x d.length = d := by
  rw [load_eq_mread, bytesOf_store s a a x _ d hop, if_pos rfl]
  refine List.ext_getElem (by simp [mread]) fun i h1 h2 => ?_
  simp [mread, tget_mwrite_inside _ _ i d _ (wf_bytesOf s a _ hok) h2]

/-- A store leaves every byte of every other area, and those of its own area outside its bytes. -/
theorem load_store_other (s : State) (a b : Area) (x y n : Nat) (d : Bytes) (hok : s.memOk = true) (hop : a.isOperand = true)
    (hx : a.holds (x + d.length - 1) = true) (hy : b.holds (y + n - 1) = true) (hout : b ≠ a ∨ y + n ≤ x ∨ x + d.length ≤ y) :
    (s.store a x d).load b y n = s.load b y n := by
  rw [load_eq_mread, load_eq_mread, bytesOf_store s a b x _ d hop]
  split
  · next hkind =>
    refine mread_congr _ _ _ _ _ fun i hi => tget_mwrite_outside _ _ _ d _ (wf_bytesOf s b _ hok) ?_
    refine Decidable.byContradiction fun hin => ?_
    obtain ⟨rfl, hxy⟩ := area_eq_of_base_add_eq a b (b.base + y + i - a.base) (y + i) hop hkind
      (holds_mono a _ _ hx (by omega)) (holds_mono b _ _ hy (by omega)) (by omega)
    rcases hout with hne | hlo | hhi
    · exact hne rfl
    · omega
    · omega
  · rfl

/-! ### Lines -/

theorem load_storeLines (s : State) (a b : Area) (x y n : Nat) (d : Bytes) (p : Bool) :
    (s.storeLines a x d p).load b y n = if d = [] then s.load b y n else (s.store a x d).load b y n := by
  cases d with
  | nil => rfl
  | cons c d =>
    rw [if_neg (by simp)]
    refine List.foldlRecOn (motive := fun t : State => t.load b y n = (s.store a x (c :: d)).load b y n) _ _ rfl fun t ht i _ => ?_
    dsimp only
    split
    · rw [load_setPoison, ht]
    · split
      · rw [load_setPoison, ht]
      · exact ht

theorem storeLines_parity (s : State) (a : Area) (x : Nat) (d : Bytes) (p : Bool) (h : s.mem.parity = []) :
    (s.storeLines a x d p).mem.parity = [] := by
  have hstore : (s.store a x d).mem.parity = [] := by
    have : (s.store a x d).mem.parity = parityAfter a x d.length s.mem.parity := by cases a <;> rfl
    rw [this, h, parityAfter]
    split <;> rfl
  unfold State.storeLines
  split
  · exact h
  · refine List.foldlRecOn (motive := fun t : State => t.mem.parity = []) _ _ hstore fun t ht i _ => ?_
    dsimp only
    split
    · exact ht
    · split <;> exact ht

end Sys2Proof.Machine
end

section
/-!
SUPPORT. Steps that issue and complete: what issue gives the core, what completion may change, and that it leaves no step in flight under its
number (05_tablature.md R134, R135, R142).
-/

namespace Sys2Proof.Machine

/-! ### Issue -/

/-- A core as a step that issues and stays in flight leaves it. -/
def State.issuedCore (s : State) (core : Nat) (i : Issue) : Core :=
  { s.core core with
    next := (s.core core).next + 1
    flight := (s.core core).flight ++
      [⟨stepNo i.w, stepUnit i.w, false, (s.stepRes core i.t i.w).1, (s.stepRes core i.t i.w).2, false, 0⟩] }

/-- A step issues and is in flight. -/
def State.launch (core : Nat) (i : Issue) (s : State) : State := (s.fly core i false false).issued core false

theorem launch_frame (s : State) (core : Nat) (i : Issue) : changesOnly [.cores, .obs] s (s.launch core i) :=
  changesOnly_trans _ _ _ _ (changesOnly_mono _ _ _ _ (onCore_frame s core _) (by decide)) (changesOnly_trans _ _ _ _
    (changesOnly_mono _ _ _ _ (onCore_frame _ core _) (by decide)) (changesOnly_mono _ _ _ _ (countCore_frame _ core 1 1) (by decide)))

theorem core_launch (s : State) (core : Nat) (i : Issue) (h : s.coresOk) :
    (s.launch core i).coresOk ∧ (s.launch core i).core core = s.issuedCore core i := by
  have hcount := countCore_frame ((s.fly core i false false).onCore core fun c => { c with next := c.next + 1 }) core 1 1
  have hfly : (s.fly core i false false).coresOk := coresOk_onCore s core _ h
  refine ⟨coresOk_of_frame _ _ _ hcount (by decide) (coresOk_onCore _ core _ hfly), (core_of_frame _ _ _ hcount (by decide) core).trans ?_⟩
  rw [core_onCore _ core core _ hfly, if_pos rfl, State.fly, core_onCore s core core _ h, if_pos rfl]
  rfl

/-! ### Completion -/

/-- Freeing the room of a step changes no more than the room of flights and the lines taken of the checking area. -/
theorem freeRoom_cases (s : State) (core stepno : Nat) :
    s.freeRoom core stepno = s ∨ ∃ (f : Core → Core) (g : Cluster → Cluster), (∀ c, (f c).next = c.next) ∧ (∀ c, (g c).banks = c.banks) ∧
      s.freeRoom core stepno = (s.onCore core f).onCluster (core / 8) g := by
  unfold State.freeRoom
  dsimp only
  split
  · exact .inl rfl
  · refine .inr ⟨_, _, ?_, ?_, rfl⟩ <;> exact fun _ => rfl

theorem freeRoom_frame (s : State) (core stepno : Nat) : changesOnly [.clusters, .cores] s (s.freeRoom core stepno) := by
  rcases freeRoom_cases s core stepno with heq | ⟨f, g, -, -, heq⟩
  · rw [heq]; exact changesOnly_refl _ s
  · rw [heq]
    exact changesOnly_trans _ _ _ _ (changesOnly_mono _ _ _ _ (onCore_frame s core f) (by decide))
      (changesOnly_mono _ _ _ _ (onCluster_frame _ _ g) (by decide))

theorem core_freeRoom (s : State) (core stepno : Nat) (h : s.coresOk) :
    (s.freeRoom core stepno).coresOk ∧ ((s.freeRoom core stepno).core core).next = (s.core core).next := by
  rcases freeRoom_cases s core stepno with heq | ⟨f, g, hnext, -, heq⟩
  · rw [heq]; exact ⟨h, rfl⟩
  · have hcluster := onCluster_frame (s.onCore core f) (core / 8) g
    rw [heq, core_of_frame _ _ _ hcluster (by decide), core_onCore s core core f h, if_pos rfl]
    exact ⟨coresOk_of_frame _ _ _ hcluster (by decide) (coresOk_onCore s core f h), hnext _⟩

/-- It leaves the work-counter banks. -/
theorem ctrBank_freeRoom (s : State) (core stepno n k b : Nat) (h : twf (fun _ => ({} : Cluster)) s.clusters = true) :
    (s.freeRoom core stepno).ctrBank n k b = s.ctrBank n k b := by
  rcases freeRoom_cases s core stepno with heq | ⟨f, g, -, hbanks, heq⟩
  · rw [heq]
  · rw [heq, State.ctrBank, State.ctrBank, cluster_onCluster (s.onCore core f) (core / 8) n g h]
    split
    · next hn => rw [hbanks, ← hn]; rfl
    · rfl

theorem watchStep_frame (s : State) (core b stepno : Nat) (masked dead : Bool) :
    changesOnly [.obs] s (s.watchStep core b stepno masked dead) := by
  unfold State.watchStep
  dsimp only
  refine changesOnly_ite _ _ _ _ _ ?_ (changesOnly_refl _ s)
  split
  · split
    · exact changesOnly_trans _ _ _ _ (onObs_frame s _) (countEvent_frame _ _ _ _)
    · exact missWatch_frame s
  · exact missWatch_frame s

/-- The state in which a step has left the flight. -/
def State.landed (core stepno : Nat) (s : State) : State :=
  (s.freeRoom core stepno).onCore core fun c => { c with flight := c.flight.filter fun f => f.stepno != stepno }

/-- After it a completion only takes a watch, notes the end of a run and lets the core go on. -/
theorem completeStep_after_landed (s : State) (core b : Nat) (w : StepWord) (masked : Bool) :
    changesOnly [.cores, .obs, .walk] (s.landed core (stepNo w)) (s.completeStep core b w masked) ∧
    coresAlike (s.landed core (stepNo w)) (s.completeStep core b w masked) := by
  unfold State.completeStep
  extract_lets n run s1 s2 ends s3
  have h2 : changesOnly [.obs] s1 s2 := watchStep_frame s1 core b n masked _
  have h3 : changesOnly [.walk] s2 s3 := changesOnly_ite _ _ _ _ _ (onRun_frame s2 b run _) (changesOnly_refl _ s2)
  exact ⟨changesOnly_trans _ _ _ _ (changesOnly_trans _ _ _ _ (changesOnly_mono _ _ _ _ h2 (by decide))
      (changesOnly_mono _ _ _ _ h3 (by decide))) (changesOnly_mono _ _ _ _ (refreshSeq_frame s3 core) (by decide)),
    coresAlike_trans _ _ _ (coresAlike_trans _ _ _ (coresAlike_of_frame _ _ _ h2 (by decide)) (coresAlike_of_frame _ _ _ h3 (by decide)))
      (refreshSeq_alike s3 core)⟩

theorem completeStep_frame (s : State) (core b : Nat) (w : StepWord) (masked : Bool) :
    changesOnly [.clusters, .cores, .obs, .walk] s (s.completeStep core b w masked) :=
  changesOnly_trans _ _ _ _ (changesOnly_trans _ _ _ _ (changesOnly_mono _ _ _ _ (freeRoom_frame s core _) (by decide))
    (changesOnly_mono _ _ _ _ (onCore_frame _ core _) (by decide)))
    (changesOnly_mono _ _ _ _ (completeStep_after_landed s core b w masked).1 (by decide))

/-- A step that completes goes on behind the same next step, and none is in flight under its number. -/
theorem completeStep_core (s : State) (core b : Nat) (w : StepWord) (masked : Bool) (h : s.coresOk) :
    ((s.completeStep core b w masked).core core).next = (s.core core).next ∧
    ∀ f ∈ ((s.completeStep core b w masked).core core).flight, f.stepno ≠ stepNo w := by
  obtain ⟨hfree, hnext⟩ := core_freeRoom s core (stepNo w) h
  obtain ⟨-, halike⟩ := (completeStep_after_landed s core b w masked).2 (coresOk_onCore _ core _ hfree)
  obtain ⟨_, _, _, heq⟩ := halike core
  rw [heq, State.landed, core_onCore _ core core _ hfree, if_pos rfl]
  exact ⟨hnext, fun f hf => by simpa using (List.mem_filter.1 hf).2⟩

/-- A completion leaves the work-counter banks: only room of the checking area may become free. -/
theorem ctrBank_completeStep (s : State) (core b n k c : Nat) (w : StepWord) (masked : Bool)
    (h : twf (fun _ => ({} : Cluster)) s.clusters = true) : (s.completeStep core b w masked).ctrBank n k c = s.ctrBank n k c := by
  have hafter := cluster_of_frame _ _ _ (completeStep_after_landed s core b w masked).1 (by decide) n
  have hland := cluster_of_frame _ _ _ (onCore_frame (s.freeRoom core (stepNo w)) core fun c =>
    { c with flight := c.flight.filter fun f => f.stepno != stepNo w }) (by decide) n
  rw [← ctrBank_freeRoom s core (stepNo w) n k c h, State.ctrBank, State.ctrBank, hafter, State.landed, hland]

end Sys2Proof.Machine
end

section
/-!
PROOFS. MOVE steps: what one line reads and writes when no word of it is bad, and by induction on the lines what a step copies, adds or
captures (05_tablature.md R142, R157, R509; 03_integer_pipeline.md R81, R82; 06_mapping_and_tiles.md R172; 10_fault_containment.md
R273).
-/

namespace Sys2Proof.Machine

/-! ### A MOVE step that runs when it issues -/

theorem noteJournal_eq_self (s : State) (core b : Nat) (bad : List BadWord) (h : ∀ y ∈ bad, y.space ≠ 4) : s.noteJournal core b bad = s := by
  have hnone : bad.filter (fun w => w.space == 4) = [] := List.filter_eq_nil_iff.2 fun y hy => by simpa using h y hy
  unfold State.noteJournal
  rw [hnone]
  rfl

/-- With nothing before it in the move port, a MOVE step that issues runs at once. -/
theorem moveIssue_runs (s : State) (core : Nat) (bad : List BadWord) (i : Issue) (hmask : stepMasked (s.core core) i.w = false)
    (hpresent : movePresent (s.core core) i.w ≠ 0) (hport : ∀ f ∈ (s.core core).flight, f.unit ≠ 9)
    (hroom : s.dupWaits core i.w (movePresent (s.core core) i.w) = false) :
    s.moveIssue core bad i = (s.launch core i).moveFirst core bad i := by
  have hbehind : (s.core core).flight.any (fun f => f.unit == 9) = false := List.any_eq_false.2 fun f hf => by simpa using hport f hf
  have hmasked : (stepMasked (s.core core) i.w || movePresent (s.core core) i.w == 0) = false := by simp [hmask, hpresent]
  unfold State.moveIssue
  dsimp only
  rw [hmasked, hbehind, hroom]
  rfl

theorem moveFirst_of_done (s u : State) (core : Nat) (bad : List BadWord) (i : Issue) (hjournal : ∀ y ∈ bad, y.space ≠ 4)
    (h : s.moveRun core bad i = (u, false)) : s.moveFirst core bad i = u.completeStep core i.b i.w false := by
  unfold State.moveFirst
  rw [noteJournal_eq_self s core i.b bad hjournal, h]
  rfl

theorem moveFirst_of_waiting (s u : State) (core : Nat) (bad : List BadWord) (i : Issue) (hjournal : ∀ y ∈ bad, y.space ≠ 4)
    (hdup : (s.core core).dupGrant i.w = none) (h : s.moveRun core bad i = (u, true)) : s.moveFirst core bad i = u.refreshSeq core := by
  unfold State.moveFirst
  rw [noteJournal_eq_self s core i.b bad hjournal, h, hdup]
  rfl

/-- A MOVE step between two memories of the device, with every present line inside its buffers (R142, R157). -/
theorem moveRun_local (s : State) (core : Nat) (bad : List BadWord) (i : Issue) (sa da : Area)
    (hsrc : (moveSrc (s.core core) i.w).space ≠ 6) (hdst : (moveDst (s.core core) i.w).space ≠ 6)
    (hsa : s.areaOf core i.b i.t (moveSrc (s.core core) i.w) = some sa) (hda : s.areaOf core i.b i.t (moveDst (s.core core) i.w) = some da)
    (hrs : s.reach i.b i.t (moveSrc (s.core core) i.w) (movePresent (s.core core) i.w) = movePresent (s.core core) i.w)
    (hrd : s.reach i.b i.t (moveDst (s.core core) i.w) (movePresent (s.core core) i.w) = movePresent (s.core core) i.w) :
    s.moveRun core bad i =
      (s.copyLines core i (moveSrc (s.core core) i.w) (moveDst (s.core core) i.w) sa da bad (sfld i.w 4 19 19 == 1)
        (movePresent (s.core core) i.w), false) := by
  unfold State.moveRun
  dsimp only
  rw [if_neg hsrc, if_neg hdst, hsa, hda, hrs, hrd]
  simp

/-- A MOVE step from another device's memory, with every present line inside its buffers (R368). -/
theorem moveRun_remote (s : State) (core : Nat) (bad : List BadWord) (i : Issue) (hsrc : (moveSrc (s.core core) i.w).space = 6)
    (hrs : s.reach i.b i.t (moveSrc (s.core core) i.w) (movePresent (s.core core) i.w) = movePresent (s.core core) i.w)
    (hrd : s.reach i.b i.t (moveDst (s.core core) i.w) (movePresent (s.core core) i.w) = movePresent (s.core core) i.w) :
    s.moveRun core bad i =
      (s.sendRead core i (moveSrc (s.core core) i.w) (moveDst (s.core core) i.w) (movePresent (s.core core) i.w), true) := by
  unfold State.moveRun
  dsimp only
  rw [hrs, hrd, if_pos hsrc]
  simp [hsrc]

/-! ### What the step's operands are once it has issued -/

theorem sideOf_launch (s : State) (core b : Nat) (i : Issue) (h : s.coresOk) : (s.launch core i).sideOf core b = s.sideOf core b := by
  unfold State.sideOf
  rw [(core_launch s core i h).2]
  rfl

theorem areaOf_launch (s : State) (core b : Nat) (i : Issue) (t : Tab) (o : Opnd) (h : s.coresOk) :
    (s.launch core i).areaOf core b t o = s.areaOf core b t o := by
  unfold State.areaOf
  rw [sideOf_launch s core b i h]
  rfl

theorem areaOf_isOperand (s : State) (core b : Nat) (t : Tab) (o : Opnd) (a : Area) (h : s.areaOf core b t o = some a) :
    a.isOperand = true := by
  unfold State.areaOf at h
  split at h
  · obtain rfl := Option.some.inj h; rfl
  · obtain rfl := Option.some.inj h; rfl
  · split at h
    · split at h <;> (obtain rfl := Option.some.inj h; rfl)
    · obtain rfl := Option.some.inj h; rfl
  · obtain rfl := Option.some.inj h; rfl
  · split at h
    · obtain rfl := Option.some.inj h; rfl
    · exact absurd h nofun
  · split at h
    · obtain rfl := Option.some.inj h; rfl
    · exact absurd h nofun
  · obtain ⟨f, -, rfl⟩ := Option.map_eq_some_iff.1 h; rfl
  · exact absurd h nofun

/-! ### Reading a line with no bad word -/

theorem badIn_eq_nil (bad : List BadWord) (space k : Nat) (lost : Bool) (h : ∀ y ∈ bad, y.word / 16 ≠ k) : badIn bad space k lost = [] := by
  unfold badIn
  rw [List.filter_eq_nil_iff.2 fun y hy => by simp [h y hy]]
  rfl

theorem repairRead_eq_self (s : State) (core : Nat) (i : Issue) (o : Opnd) (a : Area) (line : Nat) (evs : List BowEvents)
    (h : s.mem.parity = []) : s.repairRead core i o a line [] evs = s := by
  have hgood : s.badWords a line = [] := by simp [State.badWords, h]
  unfold State.repairRead
  rw [hgood]
  rfl

theorem lineSignsOk_of_signBadWords (x : Bytes) (h : signBadWords x = []) : lineSignsOk x = true := by
  refine List.all_eq_true.2 fun j hj => ?_
  have hnone := List.flatMap_eq_nil_iff.1 h j hj
  cases hsign : containerOk (num x (8 * j) 8) with
  | true => rfl
  | false => rw [hsign] at hnone; exact absurd hnone nofun

/-- A step has read a line: it counts, and the first poisoned one kills the step's run (R273). -/
def State.noticed (core : Nat) (i : Issue) (a : Area) (line : Nat) (seen : Bool) (s : State) : State :=
  (if s.poisoned a line && !seen then s.poisonDeath core i.b (stepRun i.w) (stepNo i.w) else s).countSb a 0x19

theorem readLine_eq (core : Nat) (i : Issue) (o : Opnd) (a : Area) (space k : Nat) (bad : List BadWord) (reduce : Bool) (m : Moving)
    (hparity : m.s.mem.parity = []) (hbad : ∀ y ∈ bad, y.word / 16 ≠ k)
    (hsign : reduce = true → signBadWords (m.s.load a ((o.line + k) * 64) 64) = []) :
    State.readLine core i o a space k bad reduce m =
      (⟨m.s.noticed core i a (o.line + k) m.poison, m.poison || m.s.poisoned a (o.line + k)⟩, m.s.load a ((o.line + k) * 64) 64) := by
  have hstored : badIn bad space k false ++ (if reduce then signBadWords (m.s.load a ((o.line + k) * 64) 64) else []) = [] := by
    rw [badIn_eq_nil bad space k false hbad, List.nil_append]
    split
    · next hr => exact hsign hr
    · rfl
  have hsigns : (reduce && !m.s.poisoned a (o.line + k) && !lineSignsOk (m.s.load a ((o.line + k) * 64) 64)) = false := by
    cases reduce with
    | false => rfl
    | true => rw [lineSignsOk_of_signBadWords _ (hsign rfl)]; simp
  unfold State.readLine
  dsimp only
  rw [hstored, badIn_eq_nil bad space k true hbad, List.foldl_nil, repairRead_eq_self _ _ _ _ _ _ _ hparity, hsigns]
  rfl

/-! ### What reading may change -/

theorem countSb_frame (s : State) (a : Area) (code : Nat) : changesOnly [.obs] s (s.countSb a code) := by
  unfold State.countSb
  split
  · exact countEvent_frame s _ _ _
  · exact changesOnly_refl _ s

/-- The parts that the death of a step's run may change. -/
def deathParts : List Part := [.clusters, .cores, .group, .walk] ++ recordParts

/-- Reading leaves the bytes of every memory, and the core but for the dead runs that it knows. -/
def readsOnly (core : Nat) (s t : State) : Prop :=
  changesOnly deathParts s t ∧ (s.coresOk → t.coresOk ∧ ∃ l m, t.core core = { s.core core with dead := l, deadFrom := m })

theorem readsOnly_of_frame (l : List Part) (core : Nat) (s t : State) (h : changesOnly l s t) (hl : ∀ p ∈ l, p ∈ deathParts)
    (hcores : Part.cores ∉ l) : readsOnly core s t :=
  ⟨changesOnly_mono _ _ _ _ h hl, fun hok => ⟨coresOk_of_frame l s t h hcores hok, _, _, core_of_frame l s t h hcores core⟩⟩

theorem readsOnly_trans (core : Nat) (s t u : State) (h : readsOnly core s t) (k : readsOnly core t u) : readsOnly core s u :=
  ⟨changesOnly_trans _ _ _ _ h.1 k.1, fun hok => by
    obtain ⟨hok', _, _, heq⟩ := h.2 hok
    obtain ⟨hok'', _, _, heq'⟩ := k.2 hok'
    exact ⟨hok'', _, _, by rw [heq', heq]⟩⟩

theorem coreLearns_readsOnly (s : State) (core b r : Nat) : readsOnly core s (s.coreLearns core b r) := by
  refine ⟨changesOnly_mono _ _ _ _ (coreLearns_frame s core b r) (by decide), fun hok => ⟨coresOk_onCore s core _ hok, ?_⟩⟩
  rw [State.coreLearns, core_onCore s core core _ hok, if_pos rfl]
  split
  · exact ⟨_, _, rfl⟩
  · exact ⟨_, _, rfl⟩

theorem poisonDeath_readsOnly (s : State) (core b r stepno : Nat) : readsOnly core s (s.poisonDeath core b r stepno) :=
  readsOnly_trans _ _ _ _ (readsOnly_trans _ _ _ _ (readsOnly_trans _ _ _ _
    (readsOnly_of_frame _ core _ _ (countEvent_frame s _ _ _) (by decide) (by decide))
    (readsOnly_of_frame _ core _ _ (killRun_frame _ b r 3) (by decide) (by decide))) (coreLearns_readsOnly _ core b r))
    (readsOnly_of_frame _ core _ _ (record_frame _ _) (by decide) (by decide))

theorem noticed_readsOnly (s : State) (core : Nat) (i : Issue) (a : Area) (line : Nat) (seen : Bool) :
    readsOnly core s (s.noticed core i a line seen) := by
  refine readsOnly_trans _ _ _ _ ?_ (readsOnly_of_frame _ core _ _ (countSb_frame _ a _) (by decide) (by decide))
  split
  · exact poisonDeath_readsOnly s core _ _ _
  · exact readsOnly_of_frame [] core s s (changesOnly_refl _ s) (by decide) (by decide)

theorem load_of_readsOnly (core : Nat) (s t : State) (h : readsOnly core s t) (a : Area) (x n : Nat) : t.load a x n = s.load a x n :=
  load_of_frame _ s t h.1 (by decide) (by decide) a x n

theorem dupGrant_of_readsOnly (core : Nat) (s t : State) (w : StepWord) (h : readsOnly core s t) (hok : s.coresOk) :
    (t.core core).dupGrant w = (s.core core).dupGrant w := by
  obtain ⟨-, _, _, heq⟩ := h.2 hok
  rw [heq]
  rfl

/-! ### Writing a line -/

theorem addContainers_length (x y : Bytes) : (addContainers x y).length = 64 := by
  have hcontainer (v : Int) : (leBytesI 8 v).length = 8 := by rw [leBytesI, leBytes, List.length_map, List.length_range]
  simp only [addContainers, List.length_flatMap, hcontainer]
  rfl

/-- The line that a MOVE step writes: its source line, or the sums of its containers and those that stood there (R81, R82). -/
def movedLine (reduce : Bool) (x old : Bytes) : Bytes := if reduce then addContainers x old else x

/-- With no duplicate grant and no bad word, a line is stored at its destination. -/
theorem writeLine_stores (core : Nat) (i : Issue) (o : Opnd) (a : Area) (k : Nat) (bad : List BadWord) (reduce : Bool) (x : Bytes) (m : Moving)
    (hok : m.s.coresOk) (hdup : (m.s.core core).dupGrant i.w = none) (hparity : m.s.mem.parity = []) (hbad : ∀ y ∈ bad, y.word / 16 ≠ k)
    (hsign : reduce = true → signBadWords (m.s.load a ((o.line + k) * 64) 64) = []) :
    ∃ u p code, readsOnly core m.s u ∧ (State.writeLine core i o a k bad reduce x m).s =
      ((u.storeLines a ((o.line + k) * 64) (movedLine reduce x (m.s.load a ((o.line + k) * 64) 64)) p).countSb a 0x1A).countEvent
        (core / 8) code 1 := by
  cases reduce with
  | false =>
    refine ⟨m.s, m.poison, 0x35, readsOnly_of_frame [] core _ _ (changesOnly_refl _ _) (by decide) (by decide), ?_⟩
    unfold State.writeLine
    simp only [Bool.false_eq_true, if_false, hdup]
    rfl
  | true =>
    have hread := noticed_readsOnly m.s core i a (o.line + k) m.poison
    refine ⟨_, m.poison || m.s.poisoned a (o.line + k), 0x36, hread, ?_⟩
    unfold State.writeLine
    simp only [if_true, readLine_eq core i o a 1 k bad true m hparity hbad hsign, dupGrant_of_readsOnly core _ _ i.w hread hok, hdup]
    rfl

/-! ### Lines copied or added -/

/-- The parts that a MOVE step may change while it runs. -/
def moveParts : List Part := .mem :: deathParts

/-- What a MOVE step needs to copy `n` lines, or add them, with no word bad. -/
structure CopiesWell (s : State) (core : Nat) (i : Issue) (src dst : Opnd) (sa da : Area) (bad : List BadWord) (reduce : Bool) (n : Nat) :
    Prop where
  memOk : s.memOk = true
  coresOk : s.coresOk
  parity : s.mem.parity = []
  noDup : (s.core core).dupGrant i.w = none
  apart : sa ≠ da
  operand : da.isOperand = true
  srcInside : sa.holds ((src.line + n) * 64 - 1) = true
  dstInside : da.holds ((dst.line + n) * 64 - 1) = true
  signs : reduce = true → ∀ k, k < n → signBadWords (s.load sa ((src.line + k) * 64) 64) = [] ∧
    signBadWords (s.load da ((dst.line + k) * 64) 64) = []
  words : ∀ y ∈ bad, 16 * n ≤ y.word

/-- After `k` lines from line `first` of area `a`: they hold what `want` gives, and every byte outside them reads as before. -/
structure WroteLines (core : Nat) (a : Area) (first : Nat) (want : Nat → Bytes) (s : State) (k : Nat) (t : State) : Prop where
  frame : changesOnly moveParts s t
  memOk : t.memOk = true
  parity : t.mem.parity = []
  coresOk : t.coresOk
  core : ∃ l m, t.core core = { s.core core with dead := l, deadFrom := m }
  written : ∀ j, j < k → t.load a ((first + j) * 64) 64 = want j
  kept : ∀ (b : Area) (x n : Nat), 0 < n → b.holds (x + n - 1) = true → (b ≠ a ∨ x + n ≤ first * 64 ∨ (first + k) * 64 ≤ x) →
    t.load b x n = s.load b x n

theorem wroteLines_zero (s : State) (core : Nat) (a : Area) (first : Nat) (want : Nat → Bytes) (hmem : s.memOk = true) (hcores : s.coresOk)
    (hparity : s.mem.parity = []) : WroteLines core a first want s 0 s :=
  ⟨changesOnly_refl _ s, hmem, hparity, hcores, ⟨_, _, rfl⟩, fun _ hj => absurd hj (Nat.not_lt_zero _), fun _ _ _ _ _ _ => rfl⟩

/-- A whole line that is stored is loaded again, and every byte outside it reads as before. -/
theorem load_storeLines_line (s : State) (a : Area) (line : Nat) (d : Bytes) (p : Bool) (hok : s.memOk = true) (hop : a.isOperand = true)
    (hinside : a.holds ((line + 1) * 64 - 1) = true) (hlen : d.length = 64) :
    (s.storeLines a (line * 64) d p).load a (line * 64) 64 = d ∧
    ∀ (b : Area) (x n : Nat), 0 < n → b.holds (x + n - 1) = true → (b ≠ a ∨ x + n ≤ line * 64 ∨ (line + 1) * 64 ≤ x) →
      (s.storeLines a (line * 64) d p).load b x n = s.load b x n := by
  have hne : d ≠ [] := List.ne_nil_of_length_pos (by omega)
  refine ⟨?_, fun b x n hn hx hout => ?_⟩
  · rw [load_storeLines, if_neg hne]
    exact hlen ▸ load_store_same s a (line * 64) d hok hop
  · rw [load_storeLines, if_neg hne]
    exact load_store_other s a b (line * 64) x n d hok hop (holds_mono a _ _ hinside (by omega)) hx (hout.imp_right fun _ => by omega)

/-- One more line, stored after reads. -/
theorem wroteLines_succ (core : Nat) (a : Area) (first : Nat) (want : Nat → Bytes) (s t u : State) (k code : Nat) (p : Bool)
    (h : WroteLines core a first want s k t) (hop : a.isOperand = true) (hinside : a.holds ((first + k + 1) * 64 - 1) = true)
    (hlen : (want k).length = 64) (hread : readsOnly core t u) :
    WroteLines core a first want s (k + 1) (((u.storeLines a ((first + k) * 64) (want k) p).countSb a 0x1A).countEvent (core / 8) code 1) := by
  have huok : u.memOk = true := memOk_of_frame _ _ _ hread.1 (by decide) h.memOk
  have huparity : u.mem.parity = [] := by rw [hread.1 .mem (by decide)]; exact h.parity
  obtain ⟨hucores, _, _, hucore⟩ := hread.2 h.coresOk
  obtain ⟨hsame, hother⟩ := load_storeLines_line u a (first + k) (want k) p huok hop hinside hlen
  have hstores := storeLines_frame u a ((first + k) * 64) (want k) p
  have hwok := storeLines_memOk u a ((first + k) * 64) (want k) p huok
  have hwparity := storeLines_parity u a ((first + k) * 64) (want k) p huparity
  generalize u.storeLines a ((first + k) * 64) (want k) p = w at *
  have hcount : changesOnly [.obs] w ((w.countSb a 0x1A).countEvent (core / 8) code 1) :=
    changesOnly_trans _ _ _ _ (countSb_frame w a 0x1A) (countEvent_frame _ (core / 8) code 1)
  generalize (w.countSb a 0x1A).countEvent (core / 8) code 1 = v at *
  have hload (b x n) : v.load b x n = w.load b x n := load_of_frame _ w v hcount (by decide) (by decide) b x n
  have hframe : changesOnly [.mem, .obs] u v :=
    changesOnly_trans _ _ _ _ (changesOnly_mono _ _ _ _ hstores (by decide)) (changesOnly_mono _ _ _ _ hcount (by decide))
  obtain ⟨_, _, htcore⟩ := h.core
  refine ⟨?frame, memOk_of_frame _ w v hcount (by decide) hwok, by rw [hcount .mem (by decide)]; exact hwparity,
    coresOk_of_frame _ u v hframe (by decide) hucores, ⟨_, _, by rw [core_of_frame _ u v hframe (by decide), hucore, htcore]⟩, ?written, ?kept⟩
  case frame =>
    exact changesOnly_trans _ _ _ _ (changesOnly_trans _ _ _ _ h.frame (changesOnly_mono _ _ _ _ hread.1 (by decide)))
      (changesOnly_mono _ _ _ _ hframe (by decide))
  case written =>
    intro j hj
    rw [hload]
    rcases Nat.lt_succ_iff_lt_or_eq.1 hj with hlt | rfl
    · rw [hother a _ 64 (by omega) (holds_mono a _ _ hinside (by omega)) (.inr (.inl (by omega))), load_of_readsOnly core t u hread,
        h.written j hlt]
    · exact hsame
  case kept =>
    intro b x n hn hx hout
    rw [hload, hother b x n hn hx (hout.imp_right fun _ => by omega), load_of_readsOnly core t u hread,
      h.kept b x n hn hx (hout.imp_right fun _ => by omega)]

/-- The lines of a step are read and written one behind the other. -/
theorem copyLines_succ (s : State) (core : Nat) (i : Issue) (src dst : Opnd) (sa da : Area) (bad : List BadWord) (reduce : Bool) (k : Nat) :
    ∃ m : Moving, m.s = s.copyLines core i src dst sa da bad reduce k ∧ s.copyLines core i src dst sa da bad reduce (k + 1) =
      (State.writeLine core i dst da k bad reduce (State.readLine core i src sa 0 k bad reduce m).2
        (State.readLine core i src sa 0 k bad reduce m).1).s := by
  refine ⟨_, rfl, ?_⟩
  simp only [State.copyLines, List.range_succ, List.foldl_append, List.foldl_cons, List.foldl_nil]

/-- A step with no bad word writes its lines, each the source line or the sums, and nothing else (R81, R82, R142). -/
theorem copyLines_wrote (s : State) (core : Nat) (i : Issue) (src dst : Opnd) (sa da : Area) (bad : List BadWord) (reduce : Bool) (n : Nat)
    (h : CopiesWell s core i src dst sa da bad reduce n) (k : Nat) (hk : k ≤ n) :
    WroteLines core da dst.line (fun j => movedLine reduce (s.load sa ((src.line + j) * 64) 64) (s.load da ((dst.line + j) * 64) 64)) s k
      (s.copyLines core i src dst sa da bad reduce k) := by
  induction k with
  | zero => exact wroteLines_zero s core da dst.line _ h.memOk h.coresOk h.parity
  | succ k ih =>
    have hwrote := ih (by omega)
    obtain ⟨m, hm, hnext⟩ := copyLines_succ s core i src dst sa da bad reduce k
    rw [← hm] at hwrote
    have hbad : ∀ y ∈ bad, y.word / 16 ≠ k := fun y hy => by have := h.words y hy; omega
    -- neither the source line nor the destination line has been written yet
    have hsrc : m.s.load sa ((src.line + k) * 64) 64 = s.load sa ((src.line + k) * 64) 64 :=
      hwrote.kept sa _ 64 (by omega) (holds_mono sa _ _ h.srcInside (by omega)) (.inl h.apart)
    have hdst : m.s.load da ((dst.line + k) * 64) 64 = s.load da ((dst.line + k) * 64) 64 :=
      hwrote.kept da _ 64 (by omega) (holds_mono da _ _ h.dstInside (by omega)) (.inr (.inr (by omega)))
    obtain ⟨_, _, hcore⟩ := hwrote.core
    have hdup : (m.s.core core).dupGrant i.w = none := by rw [hcore]; exact h.noDup
    have hread := noticed_readsOnly m.s core i sa (src.line + k) m.poison
    rw [hnext, readLine_eq core i src sa 0 k bad reduce m hwrote.parity hbad fun hr => by rw [hsrc]; exact (h.signs hr k hk).1]
    obtain ⟨u, p, code, hu, hstate⟩ := writeLine_stores core i dst da k bad reduce (m.s.load sa ((src.line + k) * 64) 64)
      ⟨m.s.noticed core i sa (src.line + k) m.poison, m.poison || m.s.poisoned sa (src.line + k)⟩ (hread.2 hwrote.coresOk).1
      ((dupGrant_of_readsOnly core _ _ i.w hread hwrote.coresOk).trans hdup)
      (by rw [hread.1 .mem (by decide)]; exact hwrote.parity) hbad
      fun hr => by rw [load_of_readsOnly core _ _ hread, hdst]; exact (h.signs hr k hk).2
    rw [hstate, load_of_readsOnly core _ _ hread, hsrc, hdst]
    refine wroteLines_succ core da dst.line _ s m.s u k code p hwrote h.operand (holds_mono da _ _ h.dstInside (by omega)) ?_
      (readsOnly_trans core _ _ _ hread hu)
    cases reduce
    · exact load_length _ _ _ _
    · exact addContainers_length _ _

end Sys2Proof.Machine
end

section
/-!
PROOFS. The three outcomes of a MOVE step that the statement names: lines copied or added, lines captured under a duplicate grant, and a READ
sent to another device (05_tablature.md R142; 06_mapping_and_tiles.md R172; 12_exham_group.md R368).
-/

namespace Sys2Proof.Machine

/-- A MOVE step that issues into an empty move port, unmasked, with present lines that all lie inside their buffers, and a journal without a
bad word. -/
structure MovesAtOnce (s : State) (core : Nat) (bad : List BadWord) (i : Issue) : Prop where
  inRange : core < 256
  coresOk : s.coresOk
  issues : s.issue? core 3 = some i
  unmasked : stepMasked (s.core core) i.w = false
  portEmpty : ∀ f ∈ (s.core core).flight, f.unit ≠ 9
  present : movePresent (s.core core) i.w ≠ 0
  srcReach : s.reach i.b i.t (moveSrc (s.core core) i.w) (movePresent (s.core core) i.w) = movePresent (s.core core) i.w
  dstReach : s.reach i.b i.t (moveDst (s.core core) i.w) (movePresent (s.core core) i.w) = movePresent (s.core core) i.w
  journal : ∀ y ∈ bad, y.space ≠ 4

theorem exec_moveStep (s : State) (core : Nat) (bad : List BadWord) (i : Issue) (h : MovesAtOnce s core bad i)
    (hroom : s.dupWaits core i.w (movePresent (s.core core) i.w) = false) :
    exec (.moveStep core bad) s = .next ((s.launch core i).moveFirst core bad i) := by
  rw [← moveIssue_runs s core bad i h.unmasked h.present h.portEmpty hroom]
  show execMoveStep core bad s = _
  rw [execMoveStep, if_pos h.inRange, h.issues]

/-- Between two memories of the device the step's lines are moved, and it completes. -/
theorem exec_moveStep_local (s : State) (core : Nat) (bad : List BadWord) (i : Issue) (sa da : Area) (h : MovesAtOnce s core bad i)
    (hroom : s.dupWaits core i.w (movePresent (s.core core) i.w) = false)
    (hsrc : (moveSrc (s.core core) i.w).space ≠ 6) (hdst : (moveDst (s.core core) i.w).space ≠ 6)
    (hsa : s.areaOf core i.b i.t (moveSrc (s.core core) i.w) = some sa)
    (hda : s.areaOf core i.b i.t (moveDst (s.core core) i.w) = some da) :
    exec (.moveStep core bad) s = .next (((s.launch core i).copyLines core i (moveSrc (s.core core) i.w) (moveDst (s.core core) i.w) sa da bad
      (sfld i.w 4 19 19 == 1) (movePresent (s.core core) i.w)).completeStep core i.b i.w false) := by
  have hcore := (core_launch s core i h.coresOk).2
  have hrun := moveRun_local (s.launch core i) core bad i sa da (by rw [hcore]; exact hsrc) (by rw [hcore]; exact hdst)
    (by rw [areaOf_launch _ _ _ _ _ _ h.coresOk, hcore]; exact hsa) (by rw [areaOf_launch _ _ _ _ _ _ h.coresOk, hcore]; exact hda)
    (by rw [hcore]; exact h.srcReach) (by rw [hcore]; exact h.dstReach)
  rw [exec_moveStep s core bad i h hroom, moveFirst_of_done _ _ core bad i h.journal hrun, hcore]
  rfl

/-- A step that has run between its launch and its completion, leaving the core's next step as it was, has stepped. -/
theorem stepped_of_launch (s u : State) (core : Nat) (i : Issue) (hok : s.coresOk) (huok : u.coresOk)
    (hnext : (u.core core).next = ((s.launch core i).core core).next) : State.stepped core i s (u.completeStep core i.b i.w false) := by
  obtain ⟨hdone, hflight⟩ := completeStep_core u core i.b i.w false huok
  exact ⟨by rw [hdone, hnext, (core_launch s core i hok).2]; rfl, hflight⟩

/-! ### Lines copied or added -/

theorem moveStep_copies (s : State) (core : Nat) (bad : List BadWord) (i : Issue) (src dst : Opnd) (sa da : Area) (reduce : Bool) (n : Nat)
    (h : CopiesWell (s.launch core i) core i src dst sa da bad reduce n) (hok : s.coresOk) :
    let t := ((s.launch core i).copyLines core i src dst sa da bad reduce n).completeStep core i.b i.w false
    (∀ k, k < n → t.load da ((dst.line + k) * 64) 64 =
      movedLine reduce (s.load sa ((src.line + k) * 64) 64) (s.load da ((dst.line + k) * 64) 64)) ∧
    storesOnly da (dst.line * 64) ((dst.line + n) * 64) s t ∧ State.stepped core i s t ∧
    changesOnly ([.clusters, .cores, .group, .mem, .walk] ++ recordParts) s t := by
  intro t
  have hwrote := copyLines_wrote _ core i src dst sa da bad reduce n h n (Nat.le_refl n)
  have hdone := completeStep_frame ((s.launch core i).copyLines core i src dst sa da bad reduce n) core i.b i.w false
  have hlaunch := launch_frame s core i
  have hloadDone (a x k) := load_of_frame _ _ _ hdone (by decide) (by decide) a x k
  have hloadLaunch (a x k) := load_of_frame _ _ _ hlaunch (by decide) (by decide) a x k
  obtain ⟨_, _, hcore⟩ := hwrote.core
  refine ⟨fun k hk => ?_, fun b x hx hout => ?_, stepped_of_launch s _ core i hok hwrote.coresOk (by rw [hcore]), ?_⟩
  · rw [hloadDone, hwrote.written k hk, hloadLaunch, hloadLaunch]
  · rw [hloadDone, hwrote.kept b x 1 (by omega) (by simpa using hx) (hout.imp_right fun _ => by omega), hloadLaunch]
  · exact changesOnly_trans _ _ _ _ (changesOnly_trans _ _ _ _ (changesOnly_mono _ _ _ _ hlaunch (by decide))
      (changesOnly_mono _ _ _ _ hwrote.frame (by decide))) (changesOnly_mono _ _ _ _ hdone (by decide))

/-! ### Lines captured under a duplicate grant -/

/-- What a duplicate grant of a core captures in batch `b` (R172). -/
def State.capturesOf (s : State) (core b : Nat) (g : Grant) : List DupWrite := (s.ctrBank (core / 8) g.counter b).captures

theorem captures_of_frame (l : List Part) (s t : State) (core b : Nat) (g : Grant) (h : changesOnly l s t) (hl : Part.clusters ∉ l) :
    (s.banksOk (core / 8) → t.banksOk (core / 8)) ∧ t.capturesOf core b g = s.capturesOf core b g := by
  have heq : t.clusters = s.clusters := h .clusters hl
  rw [State.banksOk, State.banksOk, State.capturesOf, State.capturesOf, State.ctrBank, State.ctrBank, State.cluster, State.cluster, heq]
  exact ⟨id, rfl⟩

/-- A bank with one more capture. -/
def CtrBank.capture (d : DupWrite) (k : CtrBank) : CtrBank := { k with captures := k.captures ++ [d] }

/-- A capture goes behind those of its grant's bank and takes lines of the checking area; no memory changes. -/
theorem tileStore_captures (s : State) (core b : Nat) (g : Grant) (a : Area) (x : Nat) (d : Bytes) (p : Bool) (h : s.banksOk (core / 8)) :
    changesOnly [.clusters] s (s.tileStore core b (some g) a x d p) ∧ (s.tileStore core b (some g) a x d p).banksOk (core / 8) ∧
    (s.tileStore core b (some g) a x d p).capturesOf core b g = s.capturesOf core b g ++ [⟨g.n, a, x, d⟩] := by
  refine ⟨onCluster_frame s _ _, banksOk_onCluster s (core / 8) _ h
    (twf_tmod (fun _ => ({} : CtrBank)) (g.counter * 2 + b % 2) (CtrBank.capture ⟨g.n, a, x, d⟩) (s.cluster (core / 8)).banks h.2), ?_⟩
  rw [State.capturesOf, State.ctrBank, State.tileStore, cluster_onCluster s _ _ _ h.1, if_pos rfl]
  refine (congrArg CtrBank.captures (tget_tmod (fun _ => ({} : CtrBank)) (g.counter * 2 + b % 2) (g.counter * 2 + b % 2)
    (CtrBank.capture ⟨g.n, a, x, d⟩) (s.cluster (core / 8)).banks h.2)).trans ?_
  rw [if_pos rfl]
  rfl

/-- Under a duplicate grant a line that is not added is captured. -/
theorem writeLine_captures (core : Nat) (i : Issue) (o : Opnd) (a : Area) (k : Nat) (bad : List BadWord) (g : Grant) (x : Bytes) (m : Moving)
    (hdup : (m.s.core core).dupGrant i.w = some g) :
    (State.writeLine core i o a k bad false x m).s =
      ((m.s.tileStore core i.b (some g) a ((o.line + k) * 64) x m.poison).countSb a 0x1A).countEvent (core / 8) 0x35 1 := by
  unfold State.writeLine
  simp only [Bool.false_eq_true, if_false, hdup]

/-- After `k` lines of a duplicate grant: each is captured with its destination. -/
structure CapturedLines (core b : Nat) (g : Grant) (lines : List DupWrite) (s t : State) : Prop where
  frame : changesOnly [.clusters, .obs] s t
  banksOk : t.banksOk (core / 8)
  captures : t.capturesOf core b g = s.capturesOf core b g ++ lines

/-- A step under a duplicate grant, with no bad word and no poisoned line, captures the lines that it would copy, and writes no memory. -/
theorem copyLines_captured (s : State) (core : Nat) (i : Issue) (src dst : Opnd) (sa da : Area) (bad : List BadWord) (g : Grant) (n : Nat)
    (hbanks : s.banksOk (core / 8)) (hdup : (s.core core).dupGrant i.w = some g) (hparity : s.mem.parity = [])
    (hclean : ∀ k, k < n → s.poisoned sa (src.line + k) = false) (hwords : ∀ y ∈ bad, 16 * n ≤ y.word) (k : Nat) (hk : k ≤ n) :
    CapturedLines core i.b g ((List.range k).map fun j => ⟨g.n, da, (dst.line + j) * 64, s.load sa ((src.line + j) * 64) 64⟩) s
      (s.copyLines core i src dst sa da bad false k) := by
  induction k with
  | zero => exact ⟨changesOnly_refl _ s, hbanks, (List.append_nil _).symm⟩
  | succ k ih =>
    obtain ⟨hframe, hok, hcaptures⟩ := ih (by omega)
    obtain ⟨m, hm, hnext⟩ := copyLines_succ s core i src dst sa da bad false k
    rw [← hm] at hframe hok hcaptures
    have hpoison : m.s.poisoned sa (src.line + k) = false := by
      rw [State.poisoned, hframe .mem (by decide)]; exact hclean k hk
    have hload := load_of_frame _ _ _ hframe (by decide) (by decide) sa ((src.line + k) * 64) 64
    rw [hnext, readLine_eq core i src sa 0 k bad false m (by rw [hframe .mem (by decide)]; exact hparity)
      (fun y hy => by have := hwords y hy; omega) nofun]
    have hnoticed : m.s.noticed core i sa (src.line + k) m.poison = m.s.countSb sa 0x19 := by rw [State.noticed, hpoison]; rfl
    have hcount := countSb_frame m.s sa 0x19
    rw [hnoticed, hload]
    generalize m.s.countSb sa 0x19 = u at hcount
    have hugrant : (u.core core).dupGrant i.w = some g := by
      rw [core_of_frame _ _ _ hcount (by decide), core_of_frame _ _ _ hframe (by decide), hdup]
    obtain ⟨hubanks, hucaptures⟩ := captures_of_frame _ _ _ core i.b g hcount (by decide)
    obtain ⟨htile, htok, htcaptures⟩ := tileStore_captures u core i.b g da ((dst.line + k) * 64) (s.load sa ((src.line + k) * 64) 64)
      (m.poison || m.s.poisoned sa (src.line + k)) (hubanks hok)
    rw [writeLine_captures core i dst da k bad g _ ⟨u, _⟩ hugrant]
    dsimp only
    generalize u.tileStore core i.b (some g) da ((dst.line + k) * 64) (s.load sa ((src.line + k) * 64) 64) _ = w at *
    have hcounts : changesOnly [.obs] w ((w.countSb da 0x1A).countEvent (core / 8) 0x35 1) :=
      changesOnly_trans _ _ _ _ (countSb_frame w da 0x1A) (countEvent_frame _ _ _ _)
    obtain ⟨hvbanks, hvcaptures⟩ := captures_of_frame _ _ _ core i.b g hcounts (by decide)
    refine ⟨changesOnly_trans _ _ _ _ (changesOnly_trans _ _ _ _ hframe (changesOnly_mono _ _ _ _ hcount (by decide)))
      (changesOnly_trans _ _ _ _ (changesOnly_mono _ _ _ _ htile (by decide)) (changesOnly_mono _ _ _ _ hcounts (by decide))),
      hvbanks htok, ?_⟩
    rw [hvcaptures, htcaptures, hucaptures, hcaptures, List.range_succ, List.map_append, List.append_assoc]
    rfl

theorem moveStep_captures (s : State) (core : Nat) (bad : List BadWord) (i : Issue) (src dst : Opnd) (sa da : Area) (g : Grant) (n : Nat)
    (hok : s.coresOk) (hbanks : s.banksOk (core / 8)) (hdup : (s.core core).dupGrant i.w = some g) (hparity : s.mem.parity = [])
    (hclean : ∀ k, k < n → s.poisoned sa (src.line + k) = false) (hwords : ∀ y ∈ bad, 16 * n ≤ y.word) :
    let t := ((s.launch core i).copyLines core i src dst sa da bad false n).completeStep core i.b i.w false
    t.capturesOf core i.b g = s.capturesOf core i.b g ++
      (List.range n).map (fun k => ⟨g.n, da, (dst.line + k) * 64, s.load sa ((src.line + k) * 64) 64⟩) ∧
    State.stepped core i s t ∧ changesOnly [.clusters, .cores, .obs, .walk] s t := by
  intro t
  have hlaunch := launch_frame s core i
  obtain ⟨hlcores, hlcore⟩ := core_launch s core i hok
  obtain ⟨hlbanks, hlcaptures⟩ := captures_of_frame _ _ _ core i.b g hlaunch (by decide)
  obtain ⟨hframe, hcbanks, hcaptures⟩ := copyLines_captured (s.launch core i) core i src dst sa da bad g n (hlbanks hbanks)
    (by rw [hlcore]; exact hdup) (by rw [hlaunch .mem (by decide)]; exact hparity)
    (fun k hk => by rw [State.poisoned, hlaunch .mem (by decide)]; exact hclean k hk) hwords n (Nat.le_refl n)
  have hdone := completeStep_frame ((s.launch core i).copyLines core i src dst sa da bad false n) core i.b i.w false
  refine ⟨?_, stepped_of_launch s _ core i hok (coresOk_of_frame _ _ _ hframe (by decide) hlcores)
    (by rw [core_of_frame _ _ _ hframe (by decide)]), ?_⟩
  · rw [State.capturesOf, ctrBank_completeStep _ _ _ _ _ _ _ _ hcbanks.1, ← State.capturesOf, hcaptures, hlcaptures]
    simp only [load_of_frame _ _ _ hlaunch (by decide) (by decide)]
  · exact changesOnly_trans _ _ _ _ (changesOnly_trans _ _ _ _ (changesOnly_mono _ _ _ _ hlaunch (by decide))
      (changesOnly_mono _ _ _ _ hframe (by decide))) hdone

/-! ### A READ to another device -/

/-- What sending flits leaves: the peers' message numbers, and everything sent before. -/
def sendsFlits (s t : State) : Prop := (∃ m, t.tx = s.tx ++ m) ∧ t.group.peers = s.group.peers

theorem sendsFlits_refl (s : State) : sendsFlits s s := ⟨⟨[], (List.append_nil _).symm⟩, rfl⟩

theorem sendsFlits_trans (s t u : State) (h : sendsFlits s t) (k : sendsFlits t u) : sendsFlits s u := by
  obtain ⟨⟨l, hl⟩, hpeers⟩ := h
  obtain ⟨⟨m, hm⟩, hpeers'⟩ := k
  exact ⟨⟨l ++ m, by rw [hm, hl, List.append_assoc]⟩, hpeers'.trans hpeers⟩

theorem onPort_sendsFlits (s : State) (n : Nat) (f : Port → Port) : sendsFlits s (s.onPort n f) := ⟨⟨[], (List.append_nil _).symm⟩, rfl⟩

theorem emitFlit_sendsFlits (s : State) (port kind cls poison dst : Nat) (plain : Bytes) :
    sendsFlits s (s.emitFlit port kind cls poison dst plain) := ⟨⟨_, rfl⟩, rfl⟩

theorem pumpPort_sendsFlits (n port : Nat) (s : State) : sendsFlits s (pumpPort n port s) := by
  induction n generalizing s with
  | zero => exact sendsFlits_refl s
  | succ n ih =>
    unfold pumpPort
    dsimp only
    split
    · split
      · exact sendsFlits_trans _ _ _ (sendsFlits_trans _ _ _ (onPort_sendsFlits s port _) (emitFlit_sendsFlits _ _ _ _ _ _ _)) (ih _)
      · exact sendsFlits_refl s
    · exact sendsFlits_refl s

theorem queueFlits_sendsFlits (s : State) (dst : Nat) (l : List Held) : sendsFlits s (s.queueFlits dst l) := by
  unfold State.queueFlits
  split
  · exact sendsFlits_trans _ _ _ (onPort_sendsFlits s _ _) (pumpPort_sendsFlits _ _ _)
  · exact sendsFlits_refl s

/-- A message is noted as sent before its flits. -/
theorem sendMsg_tx (s : State) (type dst : Nat) (fields : List Nat) (bytes data : Bytes) (poison : List Nat) :
    (∃ m, (s.sendMsg type dst fields bytes data poison).tx = s.tx ++ .message type dst (fields ++ poison) (bytes ++ data) :: m) ∧
    (s.sendMsg type dst fields bytes data poison).group.peers = s.group.peers := by
  obtain ⟨⟨m, hm⟩, hpeers⟩ := foldl_rel sendsFlits sendsFlits_refl sendsFlits_trans
    (fun t d => t.queueFlits d (msgFlits s.group.devno d d type fields bytes data poison)) (fun t _ => queueFlits_sendsFlits t _ _)
    (if dst = 255 then s.group.members.filter (· != s.group.devno) else [dst])
    (s.send (.message type dst (fields ++ poison) (bytes ++ data)))
  exact ⟨⟨m, hm.trans (List.append_assoc _ _ _)⟩, hpeers⟩

theorem refreshSeq_flying (s t : State) (core : Nat) (i : Issue) (htok : t.coresOk) (h : t.core core = s.issuedCore core i) :
    State.flying core i false false s (t.refreshSeq core) := by
  obtain ⟨_, _, _, heq⟩ := (refreshSeq_alike t core htok).2 core
  rw [State.flying, heq, h]
  exact ⟨rfl, rfl⟩

theorem moveStep_reads (s : State) (core : Nat) (i : Issue) (src dst : Opnd) (n : Nat) (hok : s.coresOk) :
    let t := ((s.launch core i).sendRead core i src dst n).refreshSeq core
    (∃ l m, t.tx = s.tx ++ .message 0x11 (src.unit / 256) l [] :: m) ∧ (t.peer (src.unit / 256)).sent = (s.peer (src.unit / 256)).sent ∧
    State.flying core i false false s t ∧ changesOnly [.cores, .group, .obs, .tx] s t := by
  intro t
  have hlaunch := launch_frame s core i
  obtain ⟨hlcores, hlcore⟩ := core_launch s core i hok
  have hsend : changesOnly [.group, .obs, .tx] (s.launch core i) ((s.launch core i).sendRead core i src dst n) :=
    changesOnly_trans _ _ _ _ (sendMsg_frame _ _ _ _ _ _ _) (changesOnly_mono _ _ _ _ (countEvent_frame _ _ _ _) (by decide))
  have hrefresh := refreshSeq_frame ((s.launch core i).sendRead core i src dst n) core
  obtain ⟨⟨m, hm⟩, hpeers⟩ := sendMsg_tx (s.launch core i) 0x11 (src.unit / 256) _ [] [] []
  refine ⟨⟨_, m, (hrefresh .tx (by decide)).trans (hm.trans (by rw [hlaunch .tx (by decide)]; rfl))⟩, ?_, ?_, ?_⟩
  · rw [State.peer, hrefresh .group (by decide), State.peer, ← hlaunch .group (by decide)]
    exact congrArg (fun p => (tget0 ({} : Peer) p (src.unit / 256)).sent) hpeers
  · exact refreshSeq_flying s _ core i (coresOk_of_frame _ _ _ hsend (by decide) hlcores)
      (by rw [core_of_frame _ _ _ hsend (by decide), hlcore])
  · exact changesOnly_trans _ _ _ _ (changesOnly_trans _ _ _ _ (changesOnly_mono _ _ _ _ hlaunch (by decide))
      (changesOnly_mono _ _ _ _ hsend (by decide))) (changesOnly_mono _ _ _ _ hrefresh (by decide))

/-! ### The obligation -/

/-- Settles O19: lines that are copied or added, and lines that are captured, by induction on the lines, each read and written with no bad word
and so by one store or one capture; a READ by what sending flits leaves. -/
theorem moveStepsCopyOrReduce : Obligations.MoveStepsCopyOrReduce := by
  refine ⟨?copy, ?read, ?capture⟩
  case copy =>
    intro s core bad i sa da hcore htables hmem hissue hmask hdup hport hparity w c len n src dst reduce hn hsrc hdst hsa hda hne hrs hrd
      hsin hdin hsigns hbad
    have hok := coresOk_of_tablesOk s htables
    have hlaunch := launch_frame s core i
    have hclean : CopiesWell (s.launch core i) core i src dst sa da bad reduce n :=
      { memOk := memOk_of_frame _ _ _ hlaunch (by decide) hmem
        coresOk := (core_launch s core i hok).1
        parity := by rw [hlaunch .mem (by decide)]; exact hparity
        noDup := by rw [(core_launch s core i hok).2]; exact hdup
        apart := hne
        operand := areaOf_isOperand s core i.b i.t dst da hda
        srcInside := hsin
        dstInside := hdin
        signs := fun hr k hk => by
          rw [load_of_frame _ _ _ hlaunch (by decide) (by decide), load_of_frame _ _ _ hlaunch (by decide) (by decide)]
          exact hsigns hr k hk
        words := fun y hy => (hbad y hy).1 }
    exact ⟨_, exec_moveStep_local s core bad i sa da ⟨hcore, hok, hissue, hmask, hport, hn, hrs, hrd, fun y hy => (hbad y hy).2⟩
      (by rw [State.dupWaits, hdup]; rfl) hsrc hdst hsa hda, moveStep_copies s core bad i src dst sa da reduce n hclean hok⟩
  case read =>
    intro s core bad i hcore htables hissue hmask hdup hport hparity w c len n src dst dev hn hsrc hdst hrs hrd hbad
    have hok := coresOk_of_tablesOk s htables
    obtain ⟨hlcores, hlcore⟩ := core_launch s core i hok
    have hrun := moveRun_remote (s.launch core i) core bad i (by rw [hlcore]; exact hsrc) (by rw [hlcore]; exact hrs)
      (by rw [hlcore]; exact hrd)
    have hexec := exec_moveStep s core bad i ⟨hcore, hok, hissue, hmask, hport, hn, hrs, hrd, hbad⟩ (by rw [State.dupWaits, hdup]; rfl)
    rw [moveFirst_of_waiting _ _ core bad i hbad (by rw [hlcore]; exact hdup) hrun, hlcore] at hexec
    obtain ⟨⟨l, m, htx⟩, hsent, hflying, hframe⟩ := moveStep_reads s core i src dst n hok
    exact ⟨_, l, m, hexec, htx, hsent, hflying, hframe⟩
  case capture =>
    intro s core bad i sa da g hcore htables hshapes hissue hmask hdup hport hparity w c len n src dst hn hsrc hdst hreduce hsa hda hrs hrd
      hroom hclean hbad
    have hok := coresOk_of_tablesOk s htables
    have hexec := exec_moveStep_local s core bad i sa da ⟨hcore, hok, hissue, hmask, hport, hn, hrs, hrd, fun y hy => (hbad y hy).2⟩
      (by rw [State.dupWaits, show s.checkRoom (core / 8) (movePresent (s.core core) i.w) = true from hroom]; simp) hsrc hdst hsa hda
    rw [hreduce] at hexec
    exact ⟨_, hexec, moveStep_captures s core bad i src dst sa da g n hok (banksOk_of_tablesOk s _ htables) hdup hparity
      (fun k hk => by simpa using List.all_eq_true.1 hclean k (List.mem_range.2 hk)) fun y hy => (hbad y hy).1⟩

end Sys2Proof.Machine
end

section
/-!
PROOFS. A BRIDGE step and room that another step in flight keeps under its number. A completion frees the room of the checking area by STEPNO
(05_tablature.md R134; 06_mapping_and_tiles.md R172), so it may change a cluster, which the frame of O16 leaves out. A state that shows it: a
MOVE step of a duplicate grant waits in its port under the number of the BRIDGE step that issues next, with one line of the checking area kept.
A tab that the image checks accept numbers each step by its place (`stepOk`), but O16 is stated for every state and puts no condition on the numbers
in flight.
-/

namespace Sys2Proof.Machine

/-- BRIDGE step 0: from one container in line 0 of the core's SRAM (V 1, one output), by the descriptor at 100, to line 20 of the soundboard. -/
def sharedNoBridge : StepWord := BitVec.ofNat 256 (4 + (100 + 1 * 2 ^ 17) * 2 ^ 32 + (20 + 1 * 2 ^ 17) * 2 ^ 64 + (1 + 1 * 2 ^ 9) * 2 ^ 160)

/-- Its tab: that step, one descriptor, and a buffer in each of the two memories. -/
def sharedNoTab : Tab := ⟨0, 1, false, 0, 100, 1, [], 0, false, [⟨0, false, 0, 0, 1000⟩, ⟨1, false, 0, 0, 1000⟩], [sharedNoBridge]⟩

/-- Its descriptor: INT8 out, MANT 2^22, SHIFT 0. -/
def sharedNoDesc : Bytes := leBytes 4 512 ++ leBytes 4 (2 ^ 22) ++ zeros 24

/-- Core 0 walks that tab in batch 0 while a step of its move port is in flight under number 0, with one line of the checking area kept. -/
def sharedNoState : State :=
  (((State.reset.onCore 0 fun c => { c with seq := .walk, cur := some 0, flight := [⟨0, 9, false, [], [], false, 1⟩] }).onCluster 0
    fun c => { c with checkLines := 1 }).onMem fun m => { m with tabs := [(0, sharedNoTab)] }).store (.sram 0) 3200 sharedNoDesc

/-- When the BRIDGE step has completed, the line that was kept for the other step is free. -/
theorem sharedNoState_frees :
    (match exec (.bridgeStep 0 ⟨[], []⟩) sharedNoState with | .next t => (t.cluster 0).checkLines | _ => 1) = 0 := by decide +kernel

/-- Refutes O16: the step completes and frees, by its number, a line of the checking area that is kept for another step in flight, so the
clusters change and not only memory, observation, cores and walk. -/
theorem not_bridgeStepWritesItsRows : ¬ Obligations.BridgeStepWritesItsRows := by
  intro h
  have hstep : ∃ t, exec (.bridgeStep 0 ⟨[], []⟩) sharedNoState = .next t ∧ t.cluster 0 = sharedNoState.cluster 0 := by
    refine Exists.imp (fun t ⟨hexec, _, _, _, hframe⟩ => ⟨hexec, cluster_of_frame _ _ t hframe (by decide) 0⟩)
      (h sharedNoState 0 ⟨0, sharedNoTab, sharedNoBridge⟩ sharedNoDesc [] [[some ⟨0, .none⟩]]
        ?_ ?_ ?_ ?_ ?_ ?_ ?_ ?_ ?_ ?_ ?_ ?_ ?_ ?_ ?_ ?_ ?_ ?_ ?_ ?_ ?_ ?_)
    all_goals decide +kernel
  obtain ⟨t, hexec, hcluster⟩ := hstep
  have hfreed := sharedNoState_frees
  rw [hexec] at hfreed
  have hkept : (sharedNoState.cluster 0).checkLines = 1 := by decide +kernel
  exact absurd (hfreed.symm.trans ((congrArg Cluster.checkLines hcluster).trans hkept)) (by decide)

end Sys2Proof.Machine
end

section
/-!
PROOFS. A softmax step and room that another step in flight keeps under its number. A completion frees the room of the checking area by STEPNO
(05_tablature.md R134; 06_mapping_and_tiles.md R172), so the array's cluster may lose more than the class that ran on its array, and O17 says that
it does not. The state is `sharedNoState`, where a MOVE step of a duplicate grant waits in its port under number 0, with a DIG step in the tab in
place of the BRIDGE step. A tab that the image checks accept numbers each step by its place (`stepOk`), but O17 is stated for every state and puts no
condition on the numbers in flight.
-/

namespace Sys2Proof.Machine

/-- DIG step 0: by the descriptor at 100, not sampled. -/
def sharedNoDig : StepWord := BitVec.ofNat 256 (2 + 100 * 2 ^ 32)

/-- Its tab. -/
def sharedNoDigTab : Tab := { sharedNoTab with steps := [sharedNoDig] }

/-- Its descriptor: a softmax of one row of 2 elements in line 0 of the soundboard, its exponent table at line 10, to line 60. -/
def sharedNoSoftmax : Bytes := leBytes 4 1 ++ leBytes 4 2 ++ leBytes 4 1 ++ zeros 4 ++ leBytes 4 10 ++ leBytes 4 60 ++ zeros 8

/-- Core 0 walks that tab while a step of its move port is in flight under number 0, with one line of the checking area kept. The first entry
of the exponent table is 32,768 and the others are 0 (R118). -/
def sharedNoDigState : State :=
  ((sharedNoState.onMem fun m => { m with tabs := [(0, sharedNoDigTab)] }).store (.sram 0) 3200 sharedNoSoftmax).store (.sb 0) 640
    (leBytes 2 32768)

/-- When the softmax step has completed, the line that was kept for the other step is free. -/
theorem sharedNoDigState_frees :
    (match exec (.digSoftmax 0 []) sharedNoDigState with | .next t => (t.cluster 0).checkLines | _ => 1) = 0 := by decide +kernel

/-- Refutes O17: the softmax step completes and frees, by its number, a line of the checking area that is kept for another step in flight, so
its cluster changes in more than the class that runs on its array. -/
theorem not_arrayStepsWriteTheirRows : ¬ Obligations.ArrayStepsWriteTheirRows := by
  rintro ⟨-, hsoftmax⟩
  have hstep : ∃ t, exec (.digSoftmax 0 []) sharedNoDigState = .next t ∧
      t.cluster 0 = { sharedNoDigState.cluster 0 with arrClass := 0 } := by
    refine Exists.imp (fun t ⟨hexec, _, _, _, hcluster, _⟩ => ⟨hexec, hcluster 0⟩)
      (hsoftmax sharedNoDigState 0 ⟨0, sharedNoDigTab, sharedNoDig⟩ sharedNoSoftmax
        ?_ ?_ ?_ ?_ ?_ ?_ ?_ ?_ ?_ ?_ ?_ ?_ ?_ ?_ ?_ ?_ ?_ ?_ ?_ ?_ ?_ ?_ ?_ ?_)
    all_goals decide +kernel
  obtain ⟨t, hexec, hcluster⟩ := hstep
  have hfreed := sharedNoDigState_frees
  rw [hexec] at hfreed
  have hkept : (sharedNoDigState.cluster 0).checkLines = 1 := by decide +kernel
  exact absurd (hfreed.symm.trans ((congrArg Cluster.checkLines hcluster).trans hkept)) (by decide)

end Sys2Proof.Machine
end

section
/-!
PROOFS. The arbiter of a cluster's array and its drones (04_digital_arrays.md R127, R128; 10_fault_containment.md R282, R285, R301).
-/

namespace Sys2Proof.Machine

/-! ### ARRAY_GRANT -/

/-- A free array goes to a core that asks for it. -/
theorem exec_arrayGrant_free (s : State) (cl k : Nat) (hcl : cl < 32) (hk : k < 8) (hfrozen : s.frozen = false)
    (hfree : (s.cluster cl).owner = none) (hasks : s.asksArray (cl * 8 + k) = true) :
    exec (.arrayGrant cl k) s =
      .next (s.onCluster cl fun x => { x with owner := some k, arrClass := 1, waiters := x.waiters.filter fun m => m != k }) := by
  show execArrayGrant cl k s = _
  simp [execArrayGrant, hcl, hk, hfrozen, hfree, hasks]

/-- An array that a core holds stays with it. -/
theorem exec_arrayGrant_held (s : State) (cl k o : Nat) (hcl : cl < 32) (hk : k < 8) (hheld : (s.cluster cl).owner = some o) :
    exec (.arrayGrant cl k) s = .next s := by
  show execArrayGrant cl k s = _
  simp [execArrayGrant, hcl, hk, hheld]

/-! ### An array drone's answer -/

theorem mapIdx_snd {α : Type} (l : List α) : l.mapIdx (fun _ x => x) = l := List.ext_getElem (by simp) (by simp)

/-- An array without deviations gives the exact results. -/
theorem deviate_nil (cols : Nat) (a : List (List Int)) : deviate [] cols a = a := by
  simp only [deviate, List.filter_nil, List.map_nil, List.sum_nil, Int.add_zero, mapIdx_snd]

theorem answerOk_nil (cols : Nat) (a : List (List Int)) : answerOk cols [] a = true := by
  rw [answerOk, deviate_nil, beq_self_eq_true]

/-! ### ARRAY_DRONE -/

/-- An ARRAY_DRONE that comes to its array: the device is not frozen, the cluster takes part and its array is not RETIRED. -/
structure DroneComes (s : State) (cl : Nat) : Prop where
  inRange : cl < 32
  notFrozen : s.frozen = false
  active : s.clusterActive cl = true
  notRetired : (s.cluster cl).arrayCheck.retired = false

/-- A drone that repeats counts as one. -/
def State.countRepeat (cl : Nat) (s : State) : State := if (s.cluster cl).droneCut then s.countEvent cl 0x2B 1 else s

theorem countRepeat_frame (s : State) (cl : Nat) : changesOnly [.obs] s (s.countRepeat cl) :=
  changesOnly_ite _ _ _ _ _ (countEvent_frame s cl _ _) (changesOnly_refl _ s)

/-- Cut short, or with work of a higher class pending, it repeats later. -/
theorem exec_arrayDrone_yields (s : State) (cl : Nat) (cut : Bool) (faults : List (Nat × Int)) (h : DroneComes s cl)
    (hyield : cut = true ∨ s.arrayBusy cl (if s.arrayFullDup cl = true then 3 else 4) s.walk.tileNo = true) :
    exec (.arrayDrone cl cut faults) s = .next ((s.countRepeat cl).onCluster cl fun x => { x with droneCut := true }) := by
  have hcut : (cut || s.arrayBusy cl (if s.arrayFullDup cl = true then 3 else 4) s.walk.tileNo) = true := by simpa using hyield
  show execArrayDrone cl cut faults s = _
  unfold execArrayDrone
  dsimp only
  rw [if_pos h.inRange, if_neg (by simp [h.notFrozen, h.active, h.notRetired]), if_pos hcut]
  rfl

/-- On an array that nothing else wants it runs to its end, and without deviations its answer is right. -/
theorem exec_arrayDrone_passes (s : State) (cl : Nat) (h : DroneComes s cl)
    (hidle : s.arrayBusy cl (if s.arrayFullDup cl = true then 3 else 4) s.walk.tileNo = false) :
    exec (.arrayDrone cl false []) s = .next ((s.countRepeat cl).droneRan cl (s.dev.bOpen.getD 0) true) := by
  show execArrayDrone cl false [] s = _
  unfold execArrayDrone
  dsimp only
  rw [if_pos h.inRange, if_neg (by simp [h.notFrozen, h.active, h.notRetired]), Bool.false_or, hidle, answerOk_nil]
  rfl

/-- The cluster after K-ARR has passed on its array in batch `b`: covered, not cut, the check passed, the accumulators those of class 4. -/
def Cluster.dronePassed (b : Nat) (c : Cluster) : Cluster :=
  { c with
    droneCut := false, droneAt := some b, accBanks := tput0 [] 4 (kArrAccs (droneSeed b)) c.accBanks
    arrayCheck := { c.arrayCheck with lastPass := some (max b (c.arrayCheck.lastPass.getD 0)) } }

/-- A cluster that is written reads so, and the table of clusters stays in canonical form. -/
theorem cluster_onCluster_self (s : State) (n : Nat) (f : Cluster → Cluster) (h : twf (fun _ => ({} : Cluster)) s.clusters = true) :
    twf (fun _ => ({} : Cluster)) (s.onCluster n f).clusters = true ∧ (s.onCluster n f).cluster n = f (s.cluster n) :=
  ⟨twf_tmod _ n f _ h, by rw [cluster_onCluster s n n f h, if_pos rfl]⟩

theorem cluster_droneRan_true (s : State) (cl b : Nat) (h : twf (fun _ => ({} : Cluster)) s.clusters = true) :
    (s.droneRan cl b true).cluster cl = (s.cluster cl).dronePassed b := by
  unfold State.droneRan
  extract_lets s1
  rw [if_pos rfl, State.passCheck, State.onCheck]
  obtain ⟨hcoveredOk, hcovered⟩ := cluster_onCluster_self s cl (fun x => { x with droneCut := false, droneAt := some b }) h
  obtain ⟨hkeptOk, hkept⟩ := cluster_onCluster_self _ cl
    (fun c => { c with accBanks := tput0 [] 4 (kArrAccs (droneSeed b)) c.accBanks }) hcoveredOk
  -- the two counts leave the clusters
  have hcounted : s1.cluster cl = _ := hkept
  rw [(cluster_onCluster_self s1 cl _ hkeptOk).2, hcounted, hcovered]
  rfl

/-- A drone that passes changes clusters and counters. -/
theorem droneRan_true_changes (s : State) (cl b : Nat) : changesOnly [.clusters, .obs] s (s.droneRan cl b true) := by
  have hcluster (u : State) (f) : changesOnly [.clusters, .obs] u (u.onCluster cl f) :=
    changesOnly_mono _ _ _ _ (onCluster_frame u cl f) (by decide)
  have hcount (u : State) (code n : Nat) : changesOnly [.clusters, .obs] u (u.countEvent cl code n) :=
    changesOnly_mono _ _ _ _ (countEvent_frame u cl code n) (by decide)
  unfold State.droneRan
  rw [if_pos rfl]
  exact changesOnly_trans _ _ _ _ (changesOnly_trans _ _ _ _ (changesOnly_trans _ _ _ _ (changesOnly_trans _ _ _ _ (hcluster s _)
    (hcluster _ _)) (hcount _ _ _)) (hcount _ _ _)) (hcluster _ _)

/-! ### The obligation -/

/-- Settles O18: a grant and a drone each write the one cluster, and an array without deviations passes the check of K-ARR. -/
theorem arrayGrantsAndDrones : Obligations.ArrayGrantsAndDrones := by
  refine ⟨?grant, ?held, ?yields, ?passes⟩
  case grant =>
    intro s cl k hcl hk htables hfrozen hfree hasks
    have hread (m) := cluster_onCluster s cl m
      (fun x => { x with owner := some k, arrClass := 1, waiters := x.waiters.filter fun m => m != k }) (banksOk_of_tablesOk s cl htables).1
    refine ⟨_, exec_arrayGrant_free s cl k hcl hk hfrozen hfree hasks, ?_, ?_, fun m hm => ?_, onCluster_frame s cl _⟩
    · rw [hread, if_pos rfl]
    · rw [hread, if_pos rfl]
      simp
    · rw [hread, if_neg hm.symm]
  case held => exact fun s cl k o hcl hk hheld => exec_arrayGrant_held s cl k o hcl hk hheld
  case yields =>
    intro s cl cut faults hcl htables hfrozen hactive hretired hyield
    have hcount := countRepeat_frame s cl
    have hclusters : (s.countRepeat cl).clusters = s.clusters := hcount .clusters (by decide)
    have hread := cluster_onCluster (s.countRepeat cl) cl cl (fun x => { x with droneCut := true })
      (by rw [hclusters]; exact (banksOk_of_tablesOk s cl htables).1)
    rw [if_pos rfl, cluster_of_frame _ _ _ hcount (by decide)] at hread
    refine ⟨_, exec_arrayDrone_yields s cl cut faults ⟨hcl, hfrozen, hactive, hretired⟩ hyield, by rw [hread], by rw [hread],
      changesOnly_trans _ _ _ _ (changesOnly_mono _ _ _ _ hcount (by decide)) (changesOnly_mono _ _ _ _ (onCluster_frame _ cl _) (by decide))⟩
  case passes =>
    intro s cl hcl htables hfrozen hactive hretired hidle
    have hcount := countRepeat_frame s cl
    have hclusters : (s.countRepeat cl).clusters = s.clusters := hcount .clusters (by decide)
    have hread := cluster_droneRan_true (s.countRepeat cl) cl (s.dev.bOpen.getD 0)
      (by rw [hclusters]; exact (banksOk_of_tablesOk s cl htables).1)
    rw [cluster_of_frame _ _ _ hcount (by decide)] at hread
    refine ⟨_, exec_arrayDrone_passes s cl ⟨hcl, hfrozen, hactive, hretired⟩ hidle, by rw [hread]; rfl, by rw [hread]; rfl,
      by rw [hread]; rfl, changesOnly_trans _ _ _ _ (changesOnly_mono _ _ _ _ hcount (by decide)) (droneRan_true_changes _ cl _)⟩

end Sys2Proof.Machine
end

section
/-!
SUPPORT. Requests that are carried out inside a session: a whole value that is written has the effect of its row, and the session notes the
answer (13_malrov_dictionary.md R389, R391 to R394, R401).
-/

namespace Sys2Proof.Machine

/-- The session that a request is in notes its SEQ and the answer (R401). -/
def State.noteAnswer (r : Req) (t : Tx) (s : State) : State :=
  s.onDict fun d =>
    { d with sessions := d.sessions.map fun x =>
        if x.sid = r.sid ∧ r.sid ≠ 0 then { x with highSeq := r.seq, started := true, stored := [t] } else x }

theorem noteAnswer_frame (s : State) (r : Req) (t : Tx) : changesOnly [.dict] s (s.noteAnswer r t) := onDict_frame s _

/-- A request that its endpoint takes, inside a session and above the session's last SEQ, is carried out. -/
theorem serve_within (s : State) (op : Nat) (r : Req) (x : Session) (idx sub offset : Nat) (body : State → Reply × Bool)
    (htakes : s.takes r r.op) (hwithin : s.within r x) : s.serve op r idx sub offset body = s.carryOut op r idx sub offset body := by
  obtain ⟨-, hanswers, hopen, hprotected, haddressed, hahead, -⟩ := htakes
  obtain ⟨hsession, hsid, htag, hseq, -⟩ := hwithin
  unfold State.serve
  rw [if_neg (by simp [hanswers, hopen]), if_neg (by simp [hprotected]), if_neg (by simp [haddressed]), if_neg (by omega), if_neg hsid,
    hsession]
  dsimp only
  rw [if_neg (by simp [htag]), if_neg (fun h => absurd (hseq h.1) (by omega))]

/-- An answer that nothing holds back, on an endpoint where none waits, is noted by the session and sent (R389, R390, R401). -/
theorem answer_within (s u : State) (r : Req) (x : Session) (idx sub offset status : Nat) (data : Bytes) (hop : r.op < 128)
    (hwithin : s.within r x) (hbox : u.dict.outbox.any (fun a => a.ep == r.ep) = false) :
    State.answer r r.op idx sub offset false s { s := u, status := status, data := data } =
      s.sent r x idx sub offset status data (u.noteAnswer r
        (response x.key r.ep (s.replyTo r) (r.op + 128) r.tid idx sub status r.sid r.seq false offset data)) := by
  obtain ⟨hsession, -, -, -, hseq⟩ := hwithin
  have hkey : s.sessionKey r.sid = x.key := by rw [State.sessionKey, hsession]; rfl
  unfold State.answer
  dsimp only
  rw [if_neg (by omega), if_neg (by simp), hkey, Nat.mod_eq_of_lt hop, State.deliver, if_neg (by simp [hbox])]
  rfl

/-- A whole value that is written inside a session, with nothing to turn it away, has the effect of its row and is answered OK. -/
theorem writeRow_ok (s u : State) (r : Req) (x : Session) (idx sub : Nat) (d : Bytes) (effect : State → Reply) (h : s.writes r x idx sub d)
    (heffect : effect s = Reply.ok u) (hbox : u.dict.outbox = s.dict.outbox) :
    ∃ t, writeRow r idx sub d effect s = .next (s.sent r x idx sub 0 0 [] (u.noteAnswer r t)) := by
  obtain ⟨⟨htakes, hwithin, hgate, hfree⟩, hop, hshort⟩ := h
  obtain ⟨hep, -, -, -, -, -, -, -, -, hreserved⟩ := id htakes
  have hwhole : wholeOp r = r.op := by unfold wholeOp; split <;> omega
  have hreq : reqOp (wholeOp r) r = r.op := by rw [hwhole, reqOp, ite_self]
  refine ⟨response x.key r.ep (s.replyTo r) (r.op + 128) r.tid idx sub 0 r.sid r.seq false 0 [], ?_⟩
  rw [writeRow, onEndpoint, if_pos hep, serve_within s _ r x _ _ _ _ htakes hwithin, State.carryOut]
  dsimp only
  rw [hreq, if_neg (by simp [hwhole, hreserved]), hgate]
  dsimp only
  rw [hshort]
  dsimp only
  rw [heffect, Reply.ok, answer_within s u r x idx sub 0 0 [] (by omega) hwithin (by rw [hbox, hfree])]

/-- What an answered write leaves: all that its effect changed, and the dictionary's note of the answer. -/
theorem changesOnly_noteAnswer (l : List Part) (s u : State) (r : Req) (t : Tx) (h : changesOnly l s u) (hl : Part.dict ∈ l) :
    changesOnly l s (u.noteAnswer r t) :=
  changesOnly_trans _ _ _ _ h (changesOnly_mono _ _ _ _ (noteAnswer_frame u r t) (by simpa using hl))

end Sys2Proof.Machine
end

section
/-!
PROOFS. Replay mode, its batch descriptors and its recorded frames (08_bit_identity_and_seals.md R239 to R242; log 29, log 32).
-/

namespace Sys2Proof.Machine

/-! ### Bytes of a request -/

/-- A number inside the first bytes is the number of the whole. -/
theorem num_take (b : Bytes) (k off n : Nat) (h : off + n ≤ k) : num (b.take k) off n = num b off n := by
  refine congrArg leNat (List.map_congr_left fun i hi => ?_)
  have hlt : off + i < k := by have := List.mem_range.1 hi; omega
  rw [List.getD_eq_getElem?_getD, List.getD_eq_getElem?_getD, List.getElem?_take_of_lt hlt]

/-! ### Entering and leaving -/

/-- Outside replay mode there is nothing to leave. -/
theorem leaveReplay_eq_self (s : State) (h : s.walk.replay = false) : s.leaveReplay = s := by
  rw [State.leaveReplay, if_neg (by simp [h])]

/-- Leaving changes the walk, the next ordinal and the scene's sequence number. -/
theorem leaveReplay_frame (s : State) : changesOnly [.dev, .scene, .walk] s s.leaveReplay :=
  changesOnly_ite _ _ _ _ _ (changesOnly_trans _ _ _ _ (changesOnly_trans _ _ _ _ (changesOnly_mono _ _ _ _ (onWalk_frame s _) (by decide))
    (changesOnly_mono _ _ _ _ (onDev_frame _ _) (by decide))) (changesOnly_mono _ _ _ _ (onScene_frame _ _) (by decide))) (changesOnly_refl _ s)

/-- Leaving forgets the waiting descriptor with its inputs, and live ordinals go on above both (log 32). -/
theorem leaveReplay_parts (s : State) (h : s.walk.replay = true) :
    s.leaveReplay.walk =
        { s.walk with replay := false, replayNext := none, replayIn := {}, replayLast := none, sets := [], liveOpen := none } ∧
      s.leaveReplay.dev = { s.dev with bOpen := later s.dev.bOpen s.walk.liveOpen } ∧
      s.leaveReplay.scene = { s.scene with egoSeq := later s.scene.egoSeq s.scene.liveSeq, held := [], liveSeq := none } := by
  rw [State.leaveReplay, if_pos h]
  exact ⟨rfl, rfl, rfl⟩

/-- Replay mode as entered, before cores and clusters forget the live ordinals. -/
def State.beginReplay (boot : Nat) (s : State) : State :=
  ((s.onWalk fun w =>
    { w with replay := true, replayBoot := boot, replayNext := none, replayIn := {}, replayLast := none, sets := [], filling := []
             window := none, windowSet := none, liveOpen := s.dev.bOpen }).onDev fun d => { d with bOpen := none }).onScene fun c =>
    { c with egoSeq := none, held := [], liveSeq := c.egoSeq }

/-- Behind that, entering only has cores and clusters forget the live ordinals (R242). -/
theorem enterReplay_after_begin (s : State) (boot : Nat) : changesOnly [.clusters, .cores] (s.beginReplay boot) (s.enterReplay boot) :=
  changesOnly_trans _ _ _ _
    (changesOnly_foldl _ _ (fun t c => changesOnly_mono _ _ _ _ (onCore_frame t c _) (by decide)) _ _)
    (changesOnly_foldl _ _ (fun t c => changesOnly_mono _ _ _ _ (onCluster_frame t c _) (by decide)) _ _)

theorem enterReplay_frame (s : State) (boot : Nat) : changesOnly [.clusters, .cores, .dev, .scene, .walk] s (s.enterReplay boot) := by
  have hbegin : changesOnly [.clusters, .cores, .dev, .scene, .walk] s (s.beginReplay boot) :=
    changesOnly_trans _ _ _ _ (changesOnly_trans _ _ _ _ (changesOnly_mono _ _ _ _ (onWalk_frame s _) (by decide))
      (changesOnly_mono _ _ _ _ (onDev_frame _ _) (by decide))) (changesOnly_mono _ _ _ _ (onScene_frame _ _) (by decide))
  exact changesOnly_trans _ _ _ _ hbegin (changesOnly_mono _ _ _ _ (enterReplay_after_begin s boot) (by decide))

/-- MODE 0x01 in READY, with the grade and the selected image named, enters replay mode (R239). -/
theorem writeReplayMode_enters (s : State) (d : Bytes) (i : Image) (hlen : d.length = 16) (hmode : num d 0 1 = 1) (hzero : num d 2 2 = 0)
    (hready : s.dev.state = .ready) (hlive : s.walk.replay = false) (himage : s.capo.selected = some i) (hgrade : num d 1 1 = s.gradeCode)
    (hprog : num d 4 4 = i.progid) (hseq : num d 8 4 = i.imgseq) : s.writeReplayMode d = Reply.ok (s.enterReplay (num d 12 4)) := by
  unfold State.writeReplayMode
  rw [if_neg (by simp [hlen]), if_neg (by simp [hmode, hzero]), if_neg (by simp [hmode]), if_neg (by simp [hready]), himage]
  dsimp only
  rw [if_pos ⟨hgrade, hprog, hseq⟩, leaveReplay_eq_self s hlive]

/-- MODE 0x00 leaves it. -/
theorem writeReplayMode_leaves (s : State) (d : Bytes) (hlen : d.length = 16) (hmode : num d 0 1 = 0) (hzero : num d 2 2 = 0) :
    s.writeReplayMode d = Reply.ok s.leaveReplay := by
  unfold State.writeReplayMode
  rw [if_neg (by simp [hlen]), if_neg (by simp [hmode, hzero]), if_pos hmode]

/-! ### Batch descriptors -/

/-- The records of a batch descriptor. -/
def recordsOf (d : Bytes) : List Decision := (List.range (num d 14 4)).map fun i => parseDecision (slice d (18 + 8 * i) 8)

/-- A descriptor waits for its inputs, with one set that takes them in buffer `k`. -/
def State.awaitReplay (d : Bytes) (k : Nat) (s : State) : State :=
  s.onWalk fun w =>
    { w with replayNext := some ⟨num d 4 6, num d 10 4, recordsOf d⟩
             sets := [{ first := (32, num d 4 6), buf := k, cfg := s.intakeFor (num d 4 6), taken := [], frames := [], windowOpen := false
                        deadline := false }] }

/-- A descriptor of the recorded boot, above the last ordinal, waits for its inputs when no other does and a buffer is free (R240). -/
theorem writeReplayBatch_waits (s : State) (d : Bytes) (k : Nat) (hshort : 18 ≤ d.length) (hlen : d.length = 18 + 8 * num d 14 4)
    (hreplay : s.walk.replay = true) (hboot : num d 0 4 = s.walk.replayBoot) (hlast : ∀ l, s.walk.replayLast = some l → l < num d 4 6)
    (hnext : s.walk.replayNext = none) (hfree : s.freeBuffer = some k) : s.writeReplayBatch d = Reply.ok (s.awaitReplay d k) := by
  have hrising : ¬ ∃ l ∈ s.walk.replayLast, num d 4 6 ≤ l := fun ⟨l, hl, hle⟩ => absurd (hlast l hl) (by omega)
  unfold State.writeReplayBatch
  dsimp only
  rw [if_neg (by omega), if_neg (by simp [hreplay]), if_neg (by simp [hboot]), if_neg hrising, if_neg (by simp [hnext]), hfree]
  rfl

/-! ### Recorded frames -/

theorem lineBytes_pos (c : Bytes) (h : 0 < cfgSrcW c) : 0 < lineBytes c := by
  unfold lineBytes
  dsimp only
  split
  · omega
  · split <;> omega

/-- The lines of a frame of configuration `c` whose raw bytes are `b` (log 29, log 32). -/
def recordedLines (c b : Bytes) : List (List Nat) :=
  (List.range (cfgSrcH c)).map fun l =>
    unpackLine (cfgDt c) ((b.drop (l * lineBytes c)).take (lineBytes c)) (if cfgDt c = 0x1E then 2 * cfgSrcW c else cfgSrcW c)

/-- When all bytes of a frame have come, all its lines are taken and no byte is left. -/
theorem takeRows_whole (c : Bytes) (p : ReplayIn) (hw : 0 < cfgSrcW c) (hrows : p.rows = []) (hlen : p.rest.length = lineBytes c * cfgSrcH c) :
    takeRows c p = { p with rows := recordedLines c p.rest, rest := [] } := by
  have hpos := lineBytes_pos c hw
  have hcount : p.rest.length / lineBytes c = cfgSrcH c := by rw [hlen, Nat.mul_div_cancel_left _ hpos]
  have hleft : p.rest.drop (cfgSrcH c * lineBytes c) = [] := List.drop_eq_nil_of_le (Nat.le_of_eq (hlen.trans (Nat.mul_comm _ _)))
  simp only [takeRows, if_neg (Nat.ne_of_gt hpos), hcount, hrows, hleft, List.nil_append]
  rfl

/-- The set of the waiting descriptor takes a frame of an enabled stream that is not called absent and has not come yet. -/
theorem replayStream_ok (s : State) (k : Nat) (y : CapSet) (n : ReplayBatch) (hnext : s.walk.replayNext = some n) (hsets : s.walk.sets = [y])
    (hk : k < 32) (hen : cfgEn (cfgStream y.cfg k) = true) (hthere : bit n.absent k = false) (hnew : k ∉ y.taken) :
    s.replayStream k = .ok (y, cfgStream y.cfg k) := by
  have hset : s.oldestSet = some y := by rw [State.oldestSet, hsets]; rfl
  unfold State.replayStream
  rw [hnext, hset]
  dsimp only
  rw [if_neg (by simp [hen, hthere, hnew, hk])]

/-- A frame whose bytes have all come passes through intake. -/
theorem replayTake_frame (s : State) (p : ReplayIn) (k : Nat) (y : CapSet) (hkind : num p.head 0 1 = 1) (hk : num p.head 1 1 = k)
    (hstream : s.replayStream k = .ok (y, cfgStream y.cfg k)) (hw : 0 < cfgSrcW (cfgStream y.cfg k)) (hrows : p.rows = [])
    (hlen : p.rest.length = lineBytes (cfgStream y.cfg k) * cfgSrcH (cfgStream y.cfg k)) :
    s.replayTake p true =
      Reply.ok (s.replayFrame k (num p.head 4 4) y (cfgStream y.cfg k) (recordedLines (cfgStream y.cfg k) p.rest)) := by
  have hcount : (recordedLines (cfgStream y.cfg k) p.rest).length = cfgSrcH (cfgStream y.cfg k) := by simp [recordedLines]
  unfold State.replayTake
  simp only [hkind, hk, hstream, takeRows_whole _ p hw hrows hlen, hcount]
  rw [if_neg (by simp), if_pos trivial]

/-- What has come of an earlier input is dropped. -/
def State.freshInput (s : State) : State := s.onWalk fun w => { w with replayIn := {} }

/-- One write of a recorded input: kind, stream and sequence number in its first 8 bytes, then the raw bytes (log 32). -/
theorem replaySegment_whole (s : State) (d : Bytes) (hreplay : s.walk.replay = true) (hlen : 8 ≤ d.length) :
    s.replaySegment 0 d true = s.freshInput.replayTake { head := d.take 8, rest := d.drop 8 } true := by
  unfold State.replaySegment
  rw [if_neg (by simp [hreplay])]
  dsimp only
  rw [if_pos rfl, List.append_nil, List.nil_append, if_pos (by rw [List.length_take]; omega)]
  rfl

/-! ### Frames through intake -/

/-- Bytes that are stored into an area, within it, are loaded again, and no other byte changes. -/
theorem storeLines_storesOnly (s : State) (a : Area) (x : Nat) (d : Bytes) (p : Bool) (hok : s.memOk = true) (hop : a.isOperand = true)
    (hin : a.holds (x + d.length - 1) = true) :
    (s.storeLines a x d p).load a x d.length = d ∧ storesOnly a x (x + d.length) s (s.storeLines a x d p) := by
  refine ⟨?_, fun b y hy hout => ?_⟩
  · rw [load_storeLines]
    split
    · next hd => subst hd; exact List.eq_nil_of_length_eq_zero (load_length s a x _)
    · exact load_store_same s a x d hok hop
  · rw [load_storeLines]
    split
    · rfl
    · exact load_store_other s a b x y 1 d hok hop hin (by simpa using hy) (hout.imp_right fun h => h.imp_left Nat.succ_le_of_lt)

/-- A complete frame as its set keeps it: without its samples, under the digest of its output rows (R316). -/
def Frame.stored (f : Frame) : Frame :=
  { f with complete := true, digest := frameDigest f.stream f.cfg (frameRows f.cfg f.samples), samples := [] }

/-- The recorded frame of stream `k` that set `y` takes. -/
def recordedFrame (k seq : Nat) (y : CapSet) (c : Bytes) (rows : List (List Nat)) : Frame :=
  { stream := k, buf := y.buf, seq := seq % 2 ^ 32, digest := [], complete := false, lines := cfgSrcH c, bad := false, set := some y.first
    cfg := c, samples := rows }

/-- A recorded frame is noted by its set, and its rows are stored in the set's buffer. -/
theorem replayFrame_eq (s : State) (k seq : Nat) (y : CapSet) (c : Bytes) (rows : List (List Nat)) :
    s.replayFrame k seq y c rows =
      ((s.onSet y.first fun z => { z with taken := z.taken ++ [k] }).storeLines (.frame k y.buf) 0 (frameBytes (frameRows c rows)) false).onSet
        y.first fun z => { z with frames := z.frames ++ [(recordedFrame k seq y c rows).stored] } :=
  rfl

theorem onSet_frame (s : State) (first : Nat × Nat) (f : CapSet → CapSet) : changesOnly [.walk] s (s.onSet first f) := onWalk_frame s _

theorem replayFrame_frame (s : State) (k seq : Nat) (y : CapSet) (c : Bytes) (rows : List (List Nat)) :
    changesOnly [.mem, .walk] s (s.replayFrame k seq y c rows) := by
  rw [replayFrame_eq]
  exact changesOnly_trans _ _ _ _ (changesOnly_trans _ _ _ _ (changesOnly_mono _ _ _ _ (onSet_frame s _ _) (by decide))
    (changesOnly_mono _ _ _ _ (storeLines_frame _ _ _ _ _) (by decide))) (changesOnly_mono _ _ _ _ (onSet_frame _ _ _) (by decide))

/-- The one set has the frame among those taken and among those complete. -/
theorem replayFrame_sets (s : State) (k seq : Nat) (y : CapSet) (c : Bytes) (rows : List (List Nat)) (hsets : s.walk.sets = [y]) :
    (s.replayFrame k seq y c rows).walk.sets =
      [{ y with taken := y.taken ++ [k], frames := y.frames ++ [(recordedFrame k seq y c rows).stored] }] := by
  have hwalk (u : State) (a : Area) (b : Bytes) : (u.storeLines a 0 b false).walk = u.walk :=
    storeLines_frame u a 0 b false .walk (by decide)
  rw [replayFrame_eq]
  simp only [State.onSet, State.onWalk_walk, hwalk, hsets, List.map_cons, List.map_nil, if_pos]

/-- The frame's bytes stand in the set's buffer, and no other byte of a memory changes. -/
theorem replayFrame_stores (s : State) (k seq : Nat) (y : CapSet) (c : Bytes) (rows : List (List Nat)) (hok : s.memOk = true)
    (hbuf : y.buf < 3) (hfits : (frameBytes (frameRows c rows)).length ≤ 2 ^ 24) :
    (s.replayFrame k seq y c rows).load (.frame k y.buf) 0 (frameBytes (frameRows c rows)).length = frameBytes (frameRows c rows) ∧
      storesOnly (.frame k y.buf) 0 (frameBytes (frameRows c rows)).length s (s.replayFrame k seq y c rows) := by
  rw [replayFrame_eq]
  generalize frameBytes (frameRows c rows) = b at hfits ⊢
  have hnoted := onSet_frame s y.first fun z => { z with taken := z.taken ++ [k] }
  generalize s.onSet y.first _ = u at hnoted ⊢
  obtain ⟨hsame, hother⟩ := storeLines_storesOnly u (.frame k y.buf) 0 b false (memOk_of_frame _ _ _ hnoted (by decide) hok) rfl
    (by simp [Area.holds, hbuf]; omega)
  have hload (a : Area) (x n : Nat) := load_of_frame _ _ _ (onSet_frame (u.storeLines (.frame k y.buf) 0 b false) y.first
    fun z => { z with frames := z.frames ++ [(recordedFrame k seq y c rows).stored] }) (by decide) (by decide) a x n
  refine ⟨(hload _ _ _).trans hsame, fun a x hx hout => ?_⟩
  rw [hload, hother a x hx (by simpa using hout), load_of_frame _ _ _ hnoted (by decide) (by decide)]

/-! ### The obligation -/

/-- Settles O43: each command is a write that its session notes and answers, around the effect of its row; a recorded frame has all its lines
in the one write, and passes them to intake. -/
theorem replayCommandsFeedBatches : Obligations.ReplayCommandsFeedBatches := by
  refine ⟨?enter, ?leave, ?stay, ?descriptor, ?frame⟩
  case enter =>
    intro s r x d i hwrites hlen hmode hzero hready hlive himage hgrade hprog hseq
    have hframe := enterReplay_frame s (num d 12 4)
    have hafter := enterReplay_after_begin s (num d 12 4)
    obtain ⟨t, ht⟩ := writeRow_ok s _ r x 0x2040 1 d _ hwrites
      (writeReplayMode_enters s d i hlen hmode hzero hready hlive himage hgrade hprog hseq) (congrArg Dict.outbox (hframe .dict (by decide)))
    exact ⟨_, ht, hafter .walk (by decide), hafter .dev (by decide), hafter .scene (by decide),
      changesOnly_noteAnswer _ _ _ _ _ (changesOnly_mono _ _ _ _ hframe (by decide)) (by decide)⟩
  case leave =>
    intro s r x d hwrites hlen hmode hzero hreplay
    have hframe := leaveReplay_frame s
    obtain ⟨t, ht⟩ := writeRow_ok s _ r x 0x2040 1 d _ hwrites (writeReplayMode_leaves s d hlen hmode hzero)
      (congrArg Dict.outbox (hframe .dict (by decide)))
    obtain ⟨hwalk, hdev, hscene⟩ := leaveReplay_parts s hreplay
    exact ⟨_, ht, hwalk, hdev, congrArg Scene.held hscene, (congrArg Scene.grid hscene :), congrArg Scene.egoSeq hscene,
      changesOnly_noteAnswer _ _ _ _ _ (changesOnly_mono _ _ _ _ hframe (by decide)) (by decide)⟩
  case stay =>
    intro s r x d hwrites hlen hmode hzero hlive
    obtain ⟨t, ht⟩ := writeRow_ok s s r x 0x2040 1 d _ hwrites
      ((writeReplayMode_leaves s d hlen hmode hzero).trans (by rw [leaveReplay_eq_self s hlive])) rfl
    exact ⟨_, ht, noteAnswer_frame s r t⟩
  case descriptor =>
    intro s r x d k hwrites hshort hlen hreplay hboot hlast hnext hfree
    obtain ⟨t, ht⟩ := writeRow_ok s _ r x 0x2040 2 d _ hwrites
      (writeReplayBatch_waits s d k hshort hlen hreplay hboot hlast hnext hfree) rfl
    refine ⟨_, ht, ?_, rfl, rfl, changesOnly_noteAnswer _ _ _ _ _ (changesOnly_mono _ _ _ _ (onWalk_frame s _) (by decide)) (by decide)⟩
    simp [State.noteAnswer, State.awaitReplay, recordsOf]
  case frame =>
    intro s r x d y n hwrites hok hreplay hlen hkind hnext hsets hbuf k c per lines b hk hw hen hthere hnew hbytes hfits
    have hfresh : changesOnly [.walk] s s.freshInput := onWalk_frame s _
    have hstream := replayStream_ok s.freshInput k y n hnext hsets hk hen hthere hnew
    have htake := replayTake_frame s.freshInput { head := d.take 8, rest := d.drop 8 } k y ((num_take d 8 0 1 (by omega)).trans hkind)
      (num_take d 8 1 1 (by omega)) hstream hw rfl hbytes
    have hframe := replayFrame_frame s.freshInput k (num (d.take 8) 4 4) y c lines
    have hkept := replayFrame_sets s.freshInput k (num (d.take 8) 4 4) y c lines hsets
    obtain ⟨hsame, hother⟩ := replayFrame_stores s.freshInput k (num (d.take 8) 4 4) y c lines
      (memOk_of_frame _ _ _ hfresh (by decide) hok) hbuf hfits
    obtain ⟨t, ht⟩ := writeRow_ok s _ r x 0x3050 1 d _ hwrites ((replaySegment_whole s d hreplay hlen).trans htake)
      (congrArg Dict.outbox (hframe .dict (by decide)))
    have hload (u : State) := load_of_frame _ _ _ (noteAnswer_frame u r t) (by decide) (by decide)
    refine ⟨_, ht, (hload _ _ _ _).trans hsame, fun a z hz hout => ?_, ?_, ?_, ?_⟩
    · exact (hload _ _ _ _).trans ((hother a z hz hout).trans (load_of_frame _ _ _ hfresh (by decide) (by decide) a z 1))
    · exact congrArg (List.map (·.taken)) hkept
    · intro z hz
      obtain rfl := List.mem_singleton.1 (hkept ▸ hz)
      exact ⟨_, List.mem_append_right _ (List.mem_singleton_self _), rfl, rfl⟩
    · exact changesOnly_noteAnswer _ _ _ _ _ (changesOnly_trans _ _ _ _ (changesOnly_mono _ _ _ _ hfresh (by decide))
        (changesOnly_mono _ _ _ _ hframe (by decide))) (by decide)

end Sys2Proof.Machine
end

section
/-!
PROOFS. A tuning pass that ends its window, and room that another step in flight keeps under the window's number. The last site of a live DRONE step
completes it (05_tablature.md R154), and a completion frees the room of the checking area by STEPNO (R134; 06_mapping_and_tiles.md R172), so a
cluster may change, which both frames of O39 for a TUNING_PASS_COMPLETE leave out. The state is `sharedNoState`, where a MOVE step of a duplicate
grant waits in its port under number 0, with a tuning window in the tab in place of the BRIDGE step. A tab that the image checks accept numbers each
step by its place (`stepOk`), but O39 is stated for every state and puts no condition on the numbers in flight.
-/

namespace Sys2Proof.Machine

/-- DRONE step 0: a tuning window of site 0, live in every batch. -/
def sharedNoWindow : StepWord := BitVec.ofNat 256 (11 + (1 + 1 * 2 ^ 2) * 2 ^ 32)

/-- Its tab. -/
def sharedNoWindowTab : Tab := { sharedNoTab with steps := [sharedNoWindow] }

/-- Core 0 walks that tab, where a pass is due on site 0, while a step of its move port is in flight under number 0, with one line of the
checking area kept. -/
def sharedNoWindowDue : State :=
  (sharedNoState.onMem fun m => { m with tabs := [(0, sharedNoWindowTab)] }).onSite 0 fun x => { x with pending := [.periodic] }

/-- The window as DRONE_TUNING_WINDOW leaves it: the pass runs, and the step waits for its one site. -/
def sharedNoWindowState : State :=
  ((sharedNoWindowDue.startPass 0 0).countEngine 0 8 1).droneHold 0 1 [0] ⟨0, sharedNoWindowTab, sharedNoWindow⟩

/-- The model itself makes that state of the due pass when the window issues. -/
theorem droneTuningWindow_opens : exec (.droneTuningWindow 0) sharedNoWindowDue = .next sharedNoWindowState := by
  have hissue : sharedNoWindowDue.droneIssue? 0 1 = some ⟨0, sharedNoWindowTab, sharedNoWindow⟩ := by decide +kernel
  have hmasked : stepMasked (sharedNoWindowDue.core 0) sharedNoWindow = false := by decide +kernel
  have hlive : sharedNoWindowDue.stepLive 0 0 sharedNoWindow = true := by decide +kernel
  have hsites : ((sharedNoWindowDue.droneSites 0 sharedNoWindow).filter fun n =>
      !(sharedNoWindowDue.site n).pending.isEmpty && (sharedNoWindowDue.site n).passing.isNone) = [0] := by decide +kernel
  rw [show exec (.droneTuningWindow 0) sharedNoWindowDue = execDroneTuningWindow 0 sharedNoWindowDue from rfl, execDroneTuningWindow,
    if_pos (by decide), hissue]
  dsimp only
  rw [hmasked, if_neg (by decide), hlive, if_pos rfl, hsites]
  rfl

/-- Results of a pass of which no converter gave an edge: its reference readback is good, and R253 rejects it. -/
def edgelessResult : PassResult := ⟨[], ⟨⟨[], [], []⟩, ⟨[], [], []⟩, ⟨[], [], []⟩⟩, ⟨⟨[], [], []⟩, ⟨[], [], []⟩, ⟨[], [], []⟩⟩, []⟩

/-- When the pass has been rejected and its window is complete, the line that was kept for the other step is free. -/
theorem sharedNoWindowState_frees :
    (match exec (.tuningPassComplete 0 edgelessResult) sharedNoWindowState with | .next t => (t.cluster 0).checkLines | _ => 1) = 0 := by
  decide +kernel

/-- Refutes O39: the rejected pass was the last of its window, so the window completes and frees, by its number, a line of the checking area that
is kept for another step in flight. The clusters change, and not only cores, observation, pass log, sites and walk. -/
theorem not_tuningPassesEnd : ¬ Obligations.TuningPassesEnd := by
  rintro ⟨-, hrejected, -⟩
  have hrejects : passAccepts edgelessResult = false := by decide +kernel
  have hstep : ∃ t, exec (.tuningPassComplete 0 edgelessResult) sharedNoWindowState = .next t ∧ t.cluster 0 = sharedNoWindowState.cluster 0 := by
    refine Exists.imp (fun t ⟨hexec, _, _, _, hframe⟩ => ⟨hexec, cluster_of_frame _ _ t hframe (by decide) 0⟩)
      (hrejected sharedNoWindowState 0 edgelessResult (sharedNoWindowDue.newPass 0 .periodic 0 false false true)
        ?_ ?_ ?_ ?_ ?_ hrejects ?_ ?_ ?_ ?_)
    all_goals decide +kernel
  obtain ⟨t, hexec, hcluster⟩ := hstep
  have hfreed := sharedNoWindowState_frees
  rw [hexec] at hfreed
  have hkept : (sharedNoWindowState.cluster 0).checkLines = 1 := by decide +kernel
  exact absurd (hfreed.symm.trans ((congrArg Cluster.checkLines hcluster).trans hkept)) (by decide)

end Sys2Proof.Machine
end
